-- ==== Sys2Proof/Word.lean ====
section
/-! DEFINITION. The byte, and the table of a fixed number of like things that every block's records stand in. -/

namespace Sys2Proof

/-- One byte on the service link, in a field frame or in the serial memory. -/
abbrev Byte := BitVec 8

/-- A table of `n` entries indexed 0..n-1, as the manual's tables are (section 4.4). -/
abbrev Tab (α : Type) (n : Nat) := Vector α n

namespace Tab

variable {α β : Type} {n : Nat}

/-- The entries in index order. -/
def list (t : Tab α n) : List α := t.toArray.toList

/-- The table of a list of the right length. -/
def ofList (l : List α) (h : l.length = n) : Tab α n := ⟨⟨l⟩, h⟩

/-- The table whose entry `i` is `f i`. -/
def build (n : Nat) (f : Nat → α) : Tab α n :=
  ofList ((List.range n).map f) (by simp)

/-- The table whose entries are all `x`. -/
def fill (n : Nat) (x : α) : Tab α n :=
  ofList (List.replicate n x) (by simp)

/-- Entry `i`; outside the table the default of the type (a record that is not present). -/
def nth [Inhabited α] (t : Tab α n) (i : Nat) : α :=
  t.list.getD i default

/-- The table with entry `i` replaced; outside the table nothing is written. -/
def put (t : Tab α n) (i : Nat) (x : α) : Tab α n :=
  ofList (t.list.set i x) (by simp [list])

/-- Every entry changed by `f`. -/
def each (f : α → β) (t : Tab α n) : Tab β n :=
  ofList (t.list.map f) (by simp [list])

/-- Entry `i` changed by `f`. -/
def modify [Inhabited α] (t : Tab α n) (i : Nat) (f : α → α) : Tab α n :=
  t.put i (f (t.nth i))

end Tab

end Sys2Proof
end

