-- ==== Sys2Proof/Config.lean ====
section
/-! DEFINITION. The records of a configuration (R185 and the chapters it names), the image that the serial memory
holds, and the values the manual leaves open as constants without a body. -/

namespace Sys2Proof

/-- R3: the four bay kinds, in kind order. -/
inductive BayKind | standard | accessible | charging | family
deriving DecidableEq, Repr, Inhabited

/-- R29: the gas a sensor measures. -/
inductive Gas | co | no2
deriving DecidableEq, Repr, Inhabited

/-- A direction of a fan (R62). -/
inductive Dir | forward | reverse
deriving DecidableEq, Repr, Inhabited

/-- R60: the way a fan blows under one airflow profile. -/
inductive ProfileDir | forward | reverse | off
deriving DecidableEq, Repr, Inhabited

/-- R110: what the passages of a pair do besides credit and paths. -/
inductive PairRole | entry | aisle | decision
deriving DecidableEq, Repr, Inhabited

/-- R124: what a face shows. -/
inductive FaceKind | count | level | decision | blank
deriving DecidableEq, Repr, Inhabited

/-- R158: the mode of an acceptance filter. -/
inductive FilterMode | exact | mask | range
deriving DecidableEq, Repr, Inhabited

/-- R148: the role of a key input; `noRole` is NONE. -/
inductive InputRole | noRole | boost | close | profile | mute
deriving DecidableEq, Repr, Inhabited

/-- R140: the six kinds of override entry. -/
inductive OverrideKind | fanForce | ventBoost | profile | lightLevel | zoneClose | sounderMute
deriving DecidableEq, Repr, Inhabited

/-- Section 4.5 and 11.8: a set over zones 1..15, bit z for zone z; bit 0 is ignored. -/
abbrev ZoneMask := BitVec 16
/-- A set over fan channels 0..11 in bits 0..11. -/
abbrev FanMask := BitVec 16
/-- A set over the four bay kinds in bits 0..3. -/
abbrev KindMask := BitVec 4
/-- Section 4.5: a field address of 20 bits. -/
abbrev Addr := Nat

/-- R1. -/
structure ZoneRec where
  present : Bool
  bayBase : Nat
  bayCount : Nat
  fallbackDemand : Nat
  darkLimit : Nat
deriving DecidableEq, Repr, Inhabited

/-- R29. `source` is the field address of a slot 8..31, and is not used in slots 0..7. -/
structure SensorRec where
  present : Bool
  gas : Gas
  zone : Nat
  source : Addr
  warmup : Nat
  zero : Nat
  span : Nat
  fullScale : Nat
  k : Nat
deriving DecidableEq, Repr, Inhabited

/-- R60. -/
structure FanRec where
  present : Bool
  owner : Nat
  assist : List Nat
  weight : Nat
  dirs : Tab ProfileDir 4
deriving DecidableEq, Repr, Inhabited

/-- R87. `bays` is the bay range: bay base and bay count, or absent. -/
structure GroupRec where
  present : Bool
  zone : Nat
  addr : Addr
  bays : Option (Nat × Nat)
  base : Nat
  presence : Nat
  stayLit : Nat
  fade : Nat
deriving DecidableEq, Repr, Inhabited

/-- R91. -/
structure PresenceRec where
  present : Bool
  addr : Addr
  group : Nat
deriving DecidableEq, Repr, Inhabited

/-- R96. -/
structure PathRec where
  present : Bool
  pair : Nat
  startDelay : Nat
  step : Nat
  groups : List Nat
deriving DecidableEq, Repr, Inhabited

/-- R110. -/
structure PairRec where
  present : Bool
  inA : Nat
  inB : Option Nat
  role : PairRole
  zone : Nat
  sign : Option Nat
deriving DecidableEq, Repr, Inhabited

/-- R124: one candidate route of a DECISION face. -/
structure Candidate where
  zones : ZoneMask
  arrow : BitVec 3
deriving DecidableEq, Repr, Inhabited

/-- R124: a face slot. -/
structure FaceRec where
  present : Bool
  kind : FaceKind
  zones : ZoneMask
  kinds : KindMask
  level : Nat
  candidates : List Candidate
  minFree : Nat
deriving DecidableEq, Repr, Inhabited

/-- R124: a sign with its four face slots. -/
structure SignRec where
  present : Bool
  addr : Addr
  pair : Option Nat
  faces : Tab FaceRec 4
deriving DecidableEq, Repr, Inhabited

/-- R158. -/
structure FilterRec where
  enabled : Bool
  mode : FilterMode
  code : BitVec 20
  mask : BitVec 20
  low : BitVec 20
  high : BitVec 20
deriving DecidableEq, Repr, Inhabited

/-- R148. -/
structure InputRec where
  role : InputRole
  zones : ZoneMask
  value : Nat
deriving DecidableEq, Repr, Inhabited

/-- The PARAMS record: every tuning value of the part, the bit rate and the ATTN polarity (R185). -/
structure Params where
  settle : Nat
  arrival : Nat
  departure : Nat
  passage : Nat
  shortCo : Nat
  shortNo2 : Nat
  longCo : Nat
  longNo2 : Nat
  curve : Tab Nat 17
  elevated : Nat
  high : Nat
  alarm : Nat
  hysteresis : Nat
  alarmHold : Nat
  startLevel : Nat
  stopLevel : Nat
  minRun : Nat
  rampStep : Nat
  readyTimeout : Nat
  readyLoss : Nat
  dwell : Nat
  fallbackSpeed : Nat
  sounderDiv : Nat
  bitRate : Nat
  attnHigh : Bool
deriving DecidableEq, Repr

/-- One copy of the configuration records (R182, R185). Signs carry their faces. -/
structure Cfg where
  params : Params
  zones : Tab ZoneRec 16
  kinds : Tab BayKind 512
  sensors : Tab SensorRec 32
  fans : Tab FanRec 12
  groups : Tab GroupRec 48
  presence : Tab PresenceRec 32
  paths : Tab PathRec 4
  pairs : Tab PairRec 4
  signs : Tab SignRec 24
  filters : Tab FilterRec 8
  inputs : Tab InputRec 2
deriving DecidableEq, Repr

/-- R21: a valid way of the detector map. -/
structure MapEntry where
  tag : Nat
  bay : Nat
deriving DecidableEq, Repr, Inhabited

/-- R21: 128 sets of 4 ways; `none` is a way that is not valid. -/
abbrev DetMap := Tab (Tab (Option MapEntry) 4) 128

/-- What the body of an image holds (R183): the records, and the three parts held in one copy (R182). -/
structure Body where
  cfg : Cfg
  closed : Tab Bool 512
  dimming : Tab Nat 256
  map : DetMap
deriving DecidableEq, Repr

/-- The record kinds of R185, then the three further parts of the body in the order R183 decodes them. -/
inductive RecKind
  | params | zone | bay | sensor | fan | group | presence | path | pair | sign | face | filter | input
  | closure | dimming | map
deriving DecidableEq, Repr, Inhabited

/-- A record named in a reply or a fallback reason: its kind, its index, and the face of a FACE record or the way
of a map entry (R183, R186). -/
structure RecRef where
  kind : RecKind
  index : Nat
  sub : Nat
deriving DecidableEq, Repr, Inhabited

/-- The image as the serial memory answers it (R183): page 0 as bytes, the body in decoded form with the CRC-16 its
bytes have, and the first record whose bytes decode to nothing, if any. The manual gives the body no byte layout, so
the decoded form stands for it (assumption 11). -/
structure ImageRead where
  page0 : List Byte
  body : Body
  bodyCrc : BitVec 16
  undecoded : Option RecRef
deriving DecidableEq, Repr

/-- R188 to R190: what page 0 of the serial memory holds. `whole` is a page written in full. `cut first b` is a page
whose write was cut short, where `b` is what the manual still allows it to read as; `first` says that the cut write
was the first of page 0, so that an older image may still load. -/
inductive Page0
  | whole (b : List Byte)
  | cut (mayLoad : Bool) (b : List Byte)
deriving DecidableEq, Repr

/-- The serial memory as the part's own writes, or an image that came to stand in it, leave it (assumptions 12, 13).
`undecoded` is the first record whose bytes decode to nothing, if any (R183). -/
structure SerialMem where
  page0 : Page0
  body : Body
  bodyCrc : BitVec 16
  undecoded : Option RecRef
deriving DecidableEq, Repr

/-- R196: the bytes of the vendor, family and part codes. The manual gives neither their values nor their widths
(assumption 10). -/
opaque Config.identityCodes : List Byte

/-- R188: the CRC-16 of the body pages a store writes. The manual gives the body no byte layout, so the value is open
(assumption 11). -/
opaque Config.bodyCrc : Body → BitVec 16

/-- R189 and R190: what a page 0 whose write was cut short reads as at the `n`-th such reading (assumption 12). -/
opaque Config.freeReading : Nat → Nat

/-- Section 11.8 codes a named value by its place in a list: which value of a list of `n` a field holds whose number
lies outside the list (assumption 30). -/
opaque Config.unlisted (n number : Nat) : Nat

end Sys2Proof
end

