-- ==== Sys2Proof/Syntax.lean ====
section
/-! DEFINITION. The commands the part takes: one constructor of Instr for each row of spec/opcode_table.json, with the
operands that the rules say the event or the request carries. -/

namespace Sys2Proof

/-- The body of a request as it reached the part (R195): its fields, or a body whose length does not fit the
request's form. -/
inductive Req (α : Type)
  | fits (fields : α)
  | misfit
deriving DecidableEq, Repr, Inhabited

/-- A detection of a bay detector (R6). -/
inductive Det | vacant | present
deriving DecidableEq, Repr, Inhabited

/-- A health carried by BAY_STATE, LUM_STATE and SIGN_STATE frames (R156). -/
inductive Health | ok | fault
deriving DecidableEq, Repr, Inhabited

/-- R34: the status and value of a GAS_VALUE frame; a value comes with status OK only. -/
inductive GasReport | ok (value : Nat) | warmup | fault
deriving DecidableEq, Repr, Inhabited

/-- R91: the detection of a PED_PRESENCE frame. -/
inductive Ped | detected | clear
deriving DecidableEq, Repr, Inhabited

/-- R156: the device type of an ANNOUNCE frame, and of an unknown-device entry (R159). -/
inductive DeviceType | detector | gasSensor | luminaire | presence | sign | other
deriving DecidableEq, Repr, Inhabited

/-- R157: why a received field frame is discarded. -/
inductive FrameDiscard | sentKind | unknownKind | notDevice | malformed
deriving DecidableEq, Repr, Inhabited

/-- The parts of the blocks that take a T32 tap. -/
inductive T32Part | loops | keys | paths
deriving DecidableEq, Repr, Inhabited

/-- The parts of the blocks that take a T4 tap. -/
inductive T4Part | bays | fans | bus
deriving DecidableEq, Repr, Inhabited

/-- The parts of the blocks that take a T1 tap. -/
inductive T1Part | clock | sounder | air | bays | fans | lights | loops | guide | stack
deriving DecidableEq, Repr, Inhabited

/-- R192: the levels of the straps BS1 BS0 and AS4..AS0. -/
structure Straps where
  baud : BitVec 2
  addr : BitVec 5
deriving DecidableEq, Repr, Inhabited

/-- R183: what the serial memory answers as the load reads it: what the part's own writes left in it, nothing (all
ones or all zeros), or another content that came to stand in it. -/
inductive LoadSource
  | held
  | silent
  | supplied (image : ImageRead)
deriving DecidableEq, Repr

/-- R185: the fields of a CONFIG_WRITE, by record kind. `misfit` is a record whose length does not fit its kind. -/
inductive CfgWrite
  | params (index : Nat) (r : Params)
  | zone (index : Nat) (r : ZoneRec)
  | bay (first : Nat) (kinds : List BayKind)
  | sensor (index : Nat) (r : SensorRec)
  | fan (index : Nat) (r : FanRec)
  | group (index : Nat) (r : GroupRec)
  | presence (index : Nat) (r : PresenceRec)
  | path (index : Nat) (r : PathRec)
  | pair (index : Nat) (r : PairRec)
  | sign (index : Nat) (present : Bool) (addr : Addr) (pair : Option Nat)
  | face (sign face : Nat) (r : FaceRec)
  | filter (index : Nat) (r : FilterRec)
  | input (index : Nat) (r : InputRec)
  | unknownKind
  | misfit (kind : RecKind) (index sub : Nat)
deriving DecidableEq, Repr

/-- R185: the fields of a CONFIG_READ. `sub` is the number of a BAY read and the face of a FACE read. -/
inductive CfgRead
  | record (kind : RecKind) (index sub : Nat)
  | unknownKind
  | misfit (kind : RecKind) (index sub : Nat)
deriving DecidableEq, Repr

/-- R142: the fields of an OVERRIDE_PUSH; the kind is a code, because a code that is no kind is answered BAD_INDEX. -/
structure PushReq where
  kind : Nat
  scope : BitVec 16
  value : Nat
  remaining : Option Nat
deriving DecidableEq, Repr

/-- The commands, one constructor for each row of spec/opcode_table.json, in the table's order. A RESET carries nothing in
its body; its command carries the levels that the strap pins have from then on (assumption 14). -/
inductive Instr
  -- resets, the load and the taps
  | powerOnReset (straps : Straps)
  | commandedReset (straps : Straps)
  | loadEnd (source : LoadSource)
  | t32Tap (loops : BitVec 8) (keys : BitVec 2) (order : List T32Part)
  | t4Tap (rdy : BitVec 12) (order : List T4Part)
  | t1Tap (ain : Tab (BitVec 10) 8) (order : List T1Part)
  | correctionWindow
  -- events of the air job
  | warmupEnd (slot : Nat) (raw : BitVec 10)
  | sensorSilent (slot : Nat)
  | doseRingAdvance (zone : Nat)
  | creditDecay (zone : Nat)
  | alarmHoldEnd (zone : Nat)
  -- received field frames
  | bayState (addr : Addr) (det : Det) (health : Health)
  | gasValue (addr : Addr) (report : GasReport)
  | pedPresence (addr : Addr) (ped : Ped)
  | lumState (addr : Addr) (health : Health)
  | signState (addr : Addr) (health : Health)
  | announce (addr : Addr) (type : DeviceType)
  | fieldFrameDiscarded (why : FrameDiscard)
  -- events of the occupancy unit
  | settleExpiry (bay : Nat)
  | silenceScan
  | reservationExpiry (bay : Nat)
  -- events of lighting
  | stayLitEnd (group : Nat)
  | pathStep (path : Nat)
  | lightResend
  -- events of the fan drive
  | readyTimeout (fan : Nat)
  | readyLoss (fan : Nat)
  | coastEnd (fan : Nat)
  -- events of the loop unit
  | loopOccupied (loop : Nat)
  | loopRelease (loop : Nat)
  | loopStuck (loop : Nat)
  | sequenceTimeout (pair : Nat)
  -- events of guidance
  | rotationAdvance
  | guidanceResend
  | levelStale (level : Nat)
  -- events of the override stack; key 0 is IN1, key 1 is IN2
  | overrideExpiry
  | inputActive (key : Nat)
  | inputRelease (key : Nat)
  -- events of the field bus
  | frameOffer
  | arbitrationLost
  | attemptSuccess
  | attemptFailed
  | busOffRecovery
  -- events of the image store
  | storePageDone
  | storeReadbackDone (agrees : Bool)
  | storePageTimeout
  -- events of the service link
  | frameGapTimeout
  | frameCrcMismatch
  | frameIgnored (addr : Nat) (kind : Byte)
  | unknownKind (kind : Byte)
  | replyStart
  | replyEnd
  -- requests
  | identify (r : Req Unit)
  | getStatus (r : Req Unit)
  | reset (r : Req Straps)
  | setClock (broadcast : Bool) (r : Req (BitVec 32 × Option Int))
  | getClock (r : Req Unit)
  | configOpen (r : Req Unit)
  | configWrite (r : Req CfgWrite)
  | configRead (r : Req CfgRead)
  | configClose (r : Req Unit)
  | configStore (r : Req (BitVec 16))
  | curveWrite (r : Req (Nat × Option (List Nat)))
  | curveRead (r : Req Nat)
  | mapWrite (r : Req (Addr × Nat))
  | mapRemove (r : Req Addr)
  | mapLookup (r : Req Addr)
  | mapReadSet (r : Req Nat)
  | listUnknown (r : Req Unit)
  | clearUnknown (r : Req Unit)
  | readZone (r : Req Nat)
  | readBays (r : Req (Nat × Nat))
  | readSensor (r : Req Nat)
  | readFan (r : Req Nat)
  | readGroup (r : Req Nat)
  | readSign (r : Req Nat)
  | readLoops (r : Req Unit)
  | bayReserve (r : Req (Nat × Nat))
  | bayRelease (r : Req Nat)
  | bayClose (r : Req Nat)
  | bayOpen (r : Req Nat)
  | fanClear (r : Req Nat)
  | levelCounts (broadcast : Bool) (r : Req (List (Nat × Nat)))
  | overridePush (r : Req PushReq)
  | overridePop (r : Req Unit)
  | overrideRemove (r : Req Nat)
  | overrideList (r : Req Unit)
  | fetchNotices (r : Req Unit)
  | noticeClasses (r : Req (BitVec 6))
  -- the rest of the service link's events, and the PWM period
  | frameSync
  | frameLenAbandoned (len : Byte)
  | pwmPeriodStart
deriving DecidableEq, Repr

end Sys2Proof
end

