-- ==== Sys2Proof/Decode.lean ====
section
/-! DEFINITION. The command that a table word spells, the codes of the requests, and the CRC-16 of the service-link
frame and of the stored image. -/

namespace Sys2Proof

/-- The command that a word of `nbits` bits spells by the bits of spec/opcode_table.json. No row of the table has
bits, so no word spells a command. -/
def decodeTableWord (_nbits _w : Nat) : Option Instr := none

/-- R195: the codes that are request kinds. -/
def requestKinds : List Nat :=
  [0x01, 0x02, 0x03, 0x04, 0x05, 0x10, 0x11, 0x12, 0x13, 0x14, 0x15, 0x16, 0x20, 0x21, 0x22, 0x23, 0x24, 0x25, 0x30,
   0x31, 0x32, 0x33, 0x34, 0x35, 0x36, 0x40, 0x41, 0x42, 0x43, 0x44, 0x45, 0x50, 0x51, 0x52, 0x53, 0x60, 0x61]

/-- Section 11.8: one bit of the CRC-16, polynomial 0x1021, most significant bit first. -/
def crcBit (c : BitVec 16) (b : Bool) : BitVec 16 :=
  if c.msb == b then c <<< 1 else (c <<< 1) ^^^ 0x1021

/-- The bits of a byte, most significant first. -/
def byteBits (b : Byte) : List Bool := [7, 6, 5, 4, 3, 2, 1, 0].map b.getLsbD

/-- Section 11.8: the CRC-16 of some bytes, initial value 0xFFFF. -/
def crc16 (bytes : List Byte) : BitVec 16 := (bytes.flatMap byteBits).foldl crcBit 0xFFFF

/-- A 16-bit field in two bytes, the most significant first. -/
def bytes16 (n : BitVec 16) : List Byte := [n.extractLsb' 8 8, n.extractLsb' 0 8]

/-- Two bytes, the most significant first, as a 16-bit field. -/
def word16 (bytes : List Byte) (i : Nat) : BitVec 16 := bytes.getD i 0 ++ bytes.getD (i + 1) 0

/-- Section 11.8: the marker of an image. -/
def imageMarker : List Byte := [0xD6, 0x3C, 0x40, 0x5A]

/-- Section 11.8: the fields of an image header before its CRC. -/
def headerFields (id bodyCrc : BitVec 16) : List Byte :=
  imageMarker ++ bytes16 0x0001 ++ bytes16 id ++ bytes16 0x3FC0 ++ bytes16 bodyCrc

/-- Section 11.8: page 0 with the header of an image. -/
def headerPage (id bodyCrc : BitVec 16) : List Byte :=
  let f := headerFields id bodyCrc
  f ++ bytes16 (crc16 f) ++ List.replicate 50 0

/-- R188: page 0 with every byte 0. -/
def blankPage : List Byte := List.replicate 64 0

end Sys2Proof
end

