-- ==== Sys2Proof/Machine/Defaults.lean ====
section
/-! DEFINITION. The default tuning values of the chapters and the empty configuration of R182. -/

namespace Sys2Proof.Machine

/-- R45: the default demand curve. -/
def defaultCurve : Tab Nat 17 :=
  Tab.ofList [0, 0, 0, 0, 150, 300, 450, 600, 750, 850, 950, 1000, 1000, 1000, 1000, 1000, 1000] rfl

/-- R182: a PARAMS record holding every default stated in the chapters, with ATTN low-active (R9, R12, R38, R42, R50,
R52, R61, R154, R172, R199). -/
def defaultParams : Params where
  settle := 12
  arrival := 15
  departure := 40
  passage := 10
  shortCo := 1000
  shortNo2 := 300
  longCo := 500
  longNo2 := 100
  curve := defaultCurve
  elevated := 600
  high := 1000
  alarm := 1400
  hysteresis := 50
  alarmHold := 60
  startLevel := 250
  stopLevel := 150
  minRun := 300
  rampStep := 20
  readyTimeout := 32
  readyLoss := 8
  dwell := 30
  fallbackSpeed := 600
  sounderDiv := 12
  bitRate := 125
  attnHigh := false

/-! A record that was never written is not present (R1, R29, R60, R87, R91, R96, R110, R124), a filter not enabled
(R158), an input without a role (R148). Its other fields, which CONFIG_READ and the reads show, are DESIGN CHOICES of
the model (assumption 37) where no rule gives them. -/

/-- A zone never written. DESIGN CHOICE (assumption 37): bay base, bay count, fallback demand and dark limit 0. -/
def absentZone : ZoneRec := ⟨false, 0, 0, 0, 0⟩

/-- A sensor slot never written (R29). DESIGN CHOICE (assumption 37): gas CO, zone 0, source 0, warm-up 0, zero 0,
span 0, full scale 1, coefficient 16. -/
def absentSensor : SensorRec := ⟨false, .co, 0, 0, 0, 0, 0, 1, 16⟩

/-- A fan never written (R60). DESIGN CHOICE (assumption 37): owner 0, no assist zone, weight 0, four directions OFF. -/
def absentFan : FanRec := ⟨false, 0, [], 0, Tab.fill 4 .off⟩

/-- A group never written (R87). DESIGN CHOICE (assumption 37): zone 0, address 0, no bay range, base and presence
levels 0, stay-lit time 120, fade 0. -/
def absentGroup : GroupRec := ⟨false, 0, 0, none, 0, 0, 120, 0⟩

/-- A presence entry never written (R91). DESIGN CHOICE (assumption 37): address 0, group 0. -/
def absentPresence : PresenceRec := ⟨false, 0, 0⟩

/-- A path never written (R96). DESIGN CHOICE (assumption 37): pair 0, start delay 0, step 1, no groups. -/
def absentPath : PathRec := ⟨false, 0, 0, 1, []⟩

/-- A pair never written (R110). DESIGN CHOICE (assumption 37): input A 0, no input B, role AISLE, zone 0, no sign. -/
def absentPair : PairRec := ⟨false, 0, none, .aisle, 0, none⟩

/-- A face slot never written (R124). DESIGN CHOICE (assumption 37): kind BLANK, which carries no further field. -/
def absentFace : FaceRec := ⟨false, .blank, 0, 0, 1, [], 1⟩

/-- A sign never written (R124). DESIGN CHOICE (assumption 37): address 0, no pair. -/
def absentSign : SignRec := ⟨false, 0, none, Tab.fill 4 absentFace⟩

/-- A filter never written (R158). DESIGN CHOICE (assumption 37): mode EXACT, code 0. -/
def absentFilter : FilterRec := ⟨false, .exact, 0, 0, 0, 0⟩

/-- A key input never written (R148): role NONE, which carries no further field. -/
def absentInput : InputRec := ⟨.noRole, 0, 0⟩

/-- R182: the records of the empty configuration. -/
def emptyCfg : Cfg where
  params := defaultParams
  zones := Tab.fill 16 absentZone
  kinds := Tab.fill 512 .standard
  sensors := Tab.fill 32 absentSensor
  fans := Tab.fill 12 absentFan
  groups := Tab.fill 48 absentGroup
  presence := Tab.fill 32 absentPresence
  paths := Tab.fill 4 absentPath
  pairs := Tab.fill 4 absentPair
  signs := Tab.fill 24 absentSign
  filters := Tab.fill 8 absentFilter
  inputs := Tab.fill 2 absentInput

/-- R95: the default dimming table, n × 1023 / 255 truncated. -/
def defaultDimming : Tab Nat 256 := Tab.build 256 (fun n => n * 1023 / 255)

/-- A detector map with no entry. -/
def emptyMap : DetMap := Tab.fill 128 (Tab.fill 4 none)

/-- R182: the whole of the empty configuration. -/
def emptyBody : Body := ⟨emptyCfg, Tab.fill 512 false, defaultDimming, emptyMap⟩

end Sys2Proof.Machine
end

