-- ==== Sys2Proof/Machine/State.lean ====
section
/-! DEFINITION. Everything the manual gives the part, block by block, and the part right after a power-on reset. -/

namespace Sys2Proof.Machine

/-! ## Configuration unit (chapter 10) -/

/-- R182. -/
inductive ConfigState | loading | fallback | editing | running
deriving DecidableEq, Repr, Inhabited

/-- R183: why a load ended in FALLBACK; RECORD and INVALID name the record that failed. -/
inductive FallbackReason
  | noImage | headerCrc | version | bodyCrc
  | record (r : RecRef)
  | invalid (r : RecRef)
deriving DecidableEq, Repr, Inhabited

/-- R188: the image activity. STORING holds the number of page writes completed, the image id and the configuration
being written, which is the working configuration as it stood at acceptance. -/
inductive Activity
  | idle
  | storing (progress : Nat) (id : BitVec 16) (body : Body)
deriving DecidableEq, Repr

/-- R188, R189: how the last store ended. -/
inductive StoreOutcome | ok | failed
deriving DecidableEq, Repr, Inhabited

/-- The configuration unit's state. -/
structure ConfigUnit where
  state : ConfigState
  inForce : Cfg
  working : Cfg
  closed : Tab Bool 512
  dimming : Tab Nat 256
  map : DetMap
  /-- EDITING was entered from FALLBACK, so all twelve fan channels are driven (R66, R184). -/
  editFromFallback : Bool
  reason : Option FallbackReason
  loadedId : Option (BitVec 16)
  imageCurrent : Bool
  activity : Activity
  lastStore : Option StoreOutcome
  memory : SerialMem
deriving DecidableEq, Repr

/-! ## Timebase (chapter 9) -/

/-- R174, R176 to R180. `cycle` is the number, in its window, of the crystal cycle about to come. `begun` is the
model's own: CORRECTION_WINDOW has begun the window whose cycle 1 is about to come (assumption 33). -/
structure Time where
  prescaler : Nat
  cycle : Nat
  correction : Int
  nextCorrection : Option Int
  clock : BitVec 32
  clockSet : Bool
  begun : Bool
deriving DecidableEq, Repr

/-! ## Occupancy unit (chapter 1) -/

/-- R3: the sensed value of a bay; `nothing` is NONE. The occupied-since second is present exactly while PRESENT. -/
inductive Sensed
  | vacant
  | present (since : BitVec 32)
  | nothing
deriving DecidableEq, Repr, Inhabited

/-- R3: the admin state; the reservation remaining is present exactly while RESERVED. -/
inductive Admin
  | inService
  | reserved (remaining : Nat)
  | closed
deriving DecidableEq, Repr, Inhabited

/-- R3, R4: the bay state. -/
inductive BayState | free | occupied | reserved | closed | unknown
deriving DecidableEq, Repr, Inhabited

/-- R3: the bay record. The kind and the closure stand in the configuration. -/
structure Bay where
  zone : Nat
  detector : Option Addr
  sensed : Sensed
  /-- The value a changed report asks for, with its settle remaining. -/
  pending : Option (Det × Nat)
  health : Health
  admin : Admin
  lastHeard : Nat
  lampFault : Bool
  state : BayState
deriving DecidableEq, Repr, Inhabited

structure Occupancy where
  bays : Tab Bay 512
  scan : Nat
  /-- R15: free counts by zone and kind. -/
  free : Tab (Tab Nat 4) 16
deriving DecidableEq, Repr

/-! ## Air monitor (chapter 2) -/

/-- R30: the state of a sensor. -/
inductive SensorState | absent | warmup | ok | over | faultLow | fault | silent
deriving DecidableEq, Repr, Inhabited

/-- R30: the status of a field sensor's last report; `nothing` is NONE. -/
inductive Reported | nothing | ok | over | warmup | fault
deriving DecidableEq, Repr, Inhabited

/-- R30: the filtered value with the indices formed from it. -/
structure Filtered where
  f : Nat
  short : Nat
  long : Nat
deriving DecidableEq, Repr, Inhabited

/-- R30: the dynamic fields of a slot. -/
structure Sensor where
  state : SensorState
  warmup : Nat
  raw : Nat
  reported : Reported
  last : Option Nat
  silence : Nat
  filtered : Option Filtered
deriving DecidableEq, Repr, Inhabited

/-- R40: one bucket of the dose ring. -/
structure Bucket where
  sum : Nat
  count : Nat
deriving DecidableEq, Repr, Inhabited

/-- Section 2.11: the air states. -/
inductive AirState | unknown | clear | elevated | high | alarm
deriving DecidableEq, Repr, Inhabited

/-- The air record of a zone (R39 to R53, R57). -/
structure ZoneAir where
  ring : Tab Bucket 16
  index : Nat
  sample : Nat
  e : Nat
  s : Nat
  l : Nat
  twa : Nat
  z : Nat
  lastD : Nat
  floor : Nat
  demand : Nat
  state : AirState
  hold : Nat
  /-- Contributors at the last sample. -/
  contributors : Nat
deriving DecidableEq, Repr, Inhabited

structure Air where
  sensors : Tab Sensor 32
  zones : Tab ZoneAir 16
deriving DecidableEq, Repr

/-! ## Fan drive (chapter 3) -/

/-- R62. -/
inductive FanState | stopped | starting | running | stopping | dwell | fault
deriving DecidableEq, Repr, Inhabited

/-- R62: the fault reason, present exactly in FAULT. -/
inductive FanFault | noReady | readyLost
deriving DecidableEq, Repr, Inhabited

/-- R65. -/
inductive Call | run | stop | hold
deriving DecidableEq, Repr, Inhabited

/-- R65, R82: the values a channel formed at its last T4 tap. -/
structure FanAim where
  computed : Nat
  forced : Option Nat
  target : Nat
  wanted : Option Dir
  call : Call
deriving DecidableEq, Repr, Inhabited

/-- R62, R64, R78, R82: a fan channel. -/
structure Channel where
  state : FanState
  reference : Nat
  driven : Option Dir
  last : Dir
  coast : Nat
  ready : Nat
  reason : Option FanFault
  forcedBelow : Bool
  aim : FanAim
  rdy : Bool
  /-- The effective FAN_FORCE: the id of its entry and its value. -/
  force : Option (Nat × Nat)
  /-- The duties of FWDn and REVn in permille of the PWM period. -/
  fwd : Nat
  rev : Nat
deriving DecidableEq, Repr, Inhabited

structure FanDrive where
  channels : Tab Channel 12
  profile : Nat
  ventLost : Tab Bool 16
deriving DecidableEq, Repr

/-! ## Lighting controller (chapter 4) -/

/-- R88, R101. -/
inductive GroupState | ok | lampFault | noResponse
deriving DecidableEq, Repr, Inhabited

/-- A drive output with a fade code (R88). -/
structure Drive where
  output : Nat
  fade : Nat
deriving DecidableEq, Repr, Inhabited

/-- R88. `sent` is absent while it is unknown. -/
structure Group where
  stay : Nat
  level : Nat
  fade : Nat
  wanted : Drive
  sent : Option Drive
  waiting : Bool
  state : GroupState
deriving DecidableEq, Repr, Inhabited

/-- R96: the run state of a path. -/
inductive PathRun
  | idle
  | running (front countdown : Nat)
deriving DecidableEq, Repr, Inhabited

structure Lighting where
  groups : Tab Group 48
  paths : Tab PathRun 4
  darkCount : Tab Nat 16
  dark : Tab Bool 16
  broadcast : Bool
  resend : Nat
deriving DecidableEq, Repr

/-! ## Loop unit (chapter 5) -/

/-- R106. -/
inductive LoopState | clear | occupied | stuck
deriving DecidableEq, Repr, Inhabited

/-- R106. -/
structure LoopInput where
  level : Bool
  supervised : Bool
  state : LoopState
  filter : Nat
  occupied : Nat
deriving DecidableEq, Repr, Inhabited

/-- R110. -/
inductive Sequence | idle | aFirst | bFirst
deriving DecidableEq, Repr, Inhabited

/-- R110: the sequence and the tallies of a pair. -/
structure PairRun where
  sequence : Sequence
  otherSeen : Bool
  time : Nat
  tallyIn : Nat
  tallyOut : Nat
  backOut : Nat
  timeout : Nat
deriving DecidableEq, Repr, Inhabited

structure Loops where
  inputs : Tab LoopInput 8
  pairs : Tab PairRun 4
  count : Nat
deriving DecidableEq, Repr

/-! ## Guidance controller (chapter 6) -/

/-- R119. -/
inductive Status | opened | full | withheld | closed
deriving DecidableEq, Repr, Inhabited

/-- R119, R121, in the order of their codes in section 11.8; `nothing` is none. -/
inductive Reason | override | air | vent | dark | nothing | config
deriving DecidableEq, Repr, Inhabited

/-- The guidance status of a zone with its reason. -/
structure ZoneStatus where
  status : Status
  reason : Reason
deriving DecidableEq, Repr, Inhabited

/-- R122, R156: the colours of a bay lamp. -/
inductive Colour | off | green | blue | red | amber
deriving DecidableEq, Repr, Inhabited

/-- R123. `sent` is absent while it is unknown. -/
structure Lamp where
  wanted : Colour
  sent : Option Colour
  waiting : Bool
deriving DecidableEq, Repr, Inhabited

/-- R125: the value of a face. -/
inductive FaceValue
  | blank
  | number (n : Nat)
  | full
  | closed
  | arrow (n : Nat) (code : BitVec 3)
deriving DecidableEq, Repr, Inhabited

/-- R129: the choice tree of a DECISION face. -/
structure Tree where
  b0 : Bool
  b1 : Bool
  b2 : Bool
deriving DecidableEq, Repr, Inhabited

/-- R125, R129. `sent` is absent while it is unknown; `choice` is absent for NONE. -/
structure Face where
  wanted : FaceValue
  sent : Option FaceValue
  waiting : Bool
  tree : Tree
  choice : Option Nat
deriving DecidableEq, Repr, Inhabited

/-- R133. -/
inductive SignHealth | ok | faulted | noResponse
deriving DecidableEq, Repr, Inhabited

structure Sign where
  state : SignHealth
  faces : Tab Face 4
deriving DecidableEq, Repr, Inhabited

/-- R134: a present entry of the other-level table. -/
structure OtherLevel where
  count : Nat
  age : Nat
deriving DecidableEq, Repr, Inhabited

structure Guidance where
  status : Tab ZoneStatus 16
  lamps : Tab Lamp 512
  signs : Tab Sign 24
  /-- Entries 1..7; entry 0 stands for no level. -/
  levels : Tab (Option OtherLevel) 8
  resend : Nat
  rotation : Nat
  lampBroadcast : Bool
  faceBroadcast : Bool
deriving DecidableEq, Repr

/-! ## Override stack (chapter 7) -/

/-- R140. -/
inductive Source | link | in1 | in2
deriving DecidableEq, Repr, Inhabited

/-- R140: an override entry. `scope` is a fan mask or a zone mask by kind, 0 for a kind without one; `value` is 0 for
a kind without one. -/
structure Entry where
  id : Nat
  kind : OverrideKind
  scope : BitVec 16
  value : Nat
  remaining : Option Nat
  source : Source
deriving DecidableEq, Repr, Inhabited

/-- R149: the state of a key input; HELD keeps the id of the entry it pushed. -/
inductive KeyState
  | released
  | held (id : Nat)
  | pending
  | spent
deriving DecidableEq, Repr, Inhabited

/-- R149. -/
structure Key where
  level : Bool
  filter : Nat
  state : KeyState
deriving DecidableEq, Repr, Inhabited

/-- R152, R154: the sounder's condition; the phase is held while SOUNDING. -/
inductive Sounder
  | silent
  | sounding (on : Bool)
  | muted
deriving DecidableEq, Repr, Inhabited

structure Overrides where
  /-- Bottom first. -/
  stack : List Entry
  keys : Tab Key 2
  sounder : Sounder
deriving DecidableEq, Repr

/-! ## Field bus controller (chapter 8) -/

/-- R164: the key of a destination. -/
inductive DestKey
  | face (addr : Addr) (index : Nat)
  | faceAll
  | call (addr : Addr)
  | group (addr : Addr)
  | groupAll
  | lamp (addr : Addr)
  | lampAll
deriving DecidableEq, Repr, Inhabited

/-- R156: what a sent frame carries. -/
inductive FrameData
  | face (value : FaceValue)
  | call
  | level (drive : Drive)
  | lamp (colour : Colour)
deriving DecidableEq, Repr, Inhabited

/-- R164: a filled transmit slot. `withdrawn` says that MAP_REMOVE withdrew it during an attempt, so that it is freed
at the attempt's end with no outcome reported (R166). -/
structure Slot where
  key : DestKey
  data : FrameData
  attempts : Nat
  trying : Bool
  withdrawn : Bool
deriving DecidableEq, Repr, Inhabited

/-- R170. -/
inductive BusState | active | passive | off
deriving DecidableEq, Repr, Inhabited

/-- R161. -/
structure UnknownDevice where
  addr : Addr
  type : DeviceType
  firstSeen : BitVec 32
deriving DecidableEq, Repr, Inhabited

structure FieldBus where
  slots : Tab (Option Slot) 16
  errors : Nat
  state : BusState
  /-- T4 taps counted since the entry to OFF (R171). -/
  offTaps : Nat
  /-- R163: the call list, oldest first; 0xFFFFF is the broadcast. -/
  calls : List Addr
  unknown : List UnknownDevice
  overflow : Bool
  malformed : Nat
  givenUp : Nat
  bitRate : Nat
deriving DecidableEq, Repr

/-! ## Service link (chapter 11) -/

/-- R7: the reasons of BAY_DETECTOR. -/
inductive DetectorReason | fault | silent | lamp | ok
deriving DecidableEq, Repr, Inhabited

/-- Section 1.6: the outcomes of RESERVATION_END. -/
inductive ReservationOutcome | taken | expired | cancelled
deriving DecidableEq, Repr, Inhabited

/-- R151: the values of INPUT_PENDING. DESIGN CHOICE (assumption 9): their codes are their places here, in the order in
which R151 names them. -/
inductive PendingValue | pending | pushed | cleared
deriving DecidableEq, Repr, Inhabited

/-- R197 and section 11.8: a notice's kind with its subject and its value. -/
inductive Notice
  | airState (zone : Nat) (state : AirState)
  | sensorState (slot : Nat) (state : SensorState)
  | fanState (fan : Nat) (state : FanState) (reason : Option FanFault)
  | ventLost (zone : Nat) (lost : Bool)
  | forcedBelow (fan : Nat) (computed : Nat)
  | bayDetector (bay : Nat) (reason : DetectorReason)
  | reservationEnd (bay : Nat) (outcome : ReservationOutcome)
  | loopState (loop : Nat) (stuck : Bool)
  | groupState (group : Nat) (state : GroupState)
  | zoneDark (zone : Nat) (dark : Bool)
  | zoneGuidance (zone : Nat) (status : ZoneStatus)
  | signState (sign : Nat) (state : SignHealth)
  | levelStale (level : Nat) (stale : Bool)
  | restarted (commanded : Bool)
  | configState (state : ConfigState) (reason : Option FallbackReason)
  | storeDone (outcome : StoreOutcome) (id : BitVec 16) (progress : Nat)
  | fieldState (state : BusState)
  | unknownDevice (position : Nat) (addr : Addr) (type : DeviceType)
  | unknownOverflow
  | overrideEnd (id : Nat) (cancelled : Bool)
  | inputPending (number : Nat) (value : PendingValue)
deriving DecidableEq, Repr, Inhabited

/-- R197: a queued notice with the second at which it was queued or last replaced. -/
structure Queued where
  notice : Notice
  second : BitVec 32
deriving DecidableEq, Repr, Inhabited

/-- R193. -/
inductive Receiver | hunting | inFrame
deriving DecidableEq, Repr, Inhabited

/-- R195: a reply: its KIND and its body, the result code first. -/
structure Reply where
  kind : Nat
  body : List Byte
deriving DecidableEq, Repr, Inhabited

structure Link where
  /-- The straps as read at the last reset (R192). -/
  straps : Straps
  /-- The levels the strap pins have; a reset that the part carries out by itself reads them (assumption 14). -/
  pins : Straps
  receiver : Receiver
  /-- The reply pending (R195). -/
  reply : Option Reply
  /-- The reply on the line, while DE is raised. -/
  sending : Option Reply
  de : Bool
  /-- A RESET was answered and its commanded reset is not yet carried out (R196). -/
  resetDue : Bool
  notices : List Queued
  lost : Bool
  /-- The class enables AIR, FANS, BAYS, LIGHT, GUIDANCE, SYSTEM in bits 0..5. -/
  classes : BitVec 6
  attn : Bool
  attnHigh : Bool
deriving DecidableEq, Repr

/-! ## The part -/

/-- The whole part. `pending` and `free` are the model's own: the queue of commands that wait, first in first out, and
a counter the free values are drawn with (assumption 34). -/
structure State where
  cfg : ConfigUnit
  time : Time
  occ : Occupancy
  air : Air
  fan : FanDrive
  light : Lighting
  loops : Loops
  guide : Guidance
  ovr : Overrides
  bus : FieldBus
  link : Link
  free : Nat
  pending : List Instr
deriving DecidableEq, Repr

/-- Why a step stops with a fault. -/
inductive Fault
  /-- Raised by an event command that names a bay, slot, zone, channel, group, path, pair, level, loop or key the part
  does not have. Safe: the manual gives the part no such thing (assumption 25). -/
  | noSuchIndex
deriving DecidableEq, Repr

/-- Why a step is refused. -/
inductive Refusal
  /-- Raised by exec's arm for a command whose meaning is not written yet. Safe. -/
  | notModelled (mnemonic : String)
deriving DecidableEq, Repr

/-! ## The values after a power-on reset -/

/-- R28 and R5: a bay after reset. -/
def Bay.start : Bay where
  zone := 0
  detector := none
  sensed := .nothing
  pending := none
  health := .ok
  admin := .inService
  lastHeard := 0
  lampFault := false
  state := .unknown

/-- R58: a slot whose sensor is not present. -/
def Sensor.start : Sensor where
  state := .absent
  warmup := 0
  raw := 0
  reported := .nothing
  last := none
  silence := 0
  filtered := none

/-- R58: a zone's air record; the load's end sets its demand. -/
def ZoneAir.start : ZoneAir where
  ring := Tab.fill 16 ⟨0, 0⟩
  index := 15
  sample := 0
  e := 0
  s := 0
  l := 0
  twa := 0
  z := 0
  lastD := 0
  floor := 0
  demand := 0
  state := .unknown
  hold := 0
  contributors := 0

/-- R84: the values of a channel's last T4 tap after reset. -/
def FanAim.start : FanAim := ⟨0, none, 0, none, .stop⟩

/-- R84. -/
def Channel.start : Channel where
  state := .stopped
  reference := 0
  driven := none
  last := .forward
  coast := 0
  ready := 0
  reason := none
  forcedBelow := false
  aim := FanAim.start
  rdy := false
  force := none
  fwd := 0
  rev := 0

/-- R105. -/
def Group.start : Group where
  stay := 0
  level := 0
  fade := 0
  wanted := ⟨0, 0⟩
  sent := none
  waiting := false
  state := .ok

/-- R118. -/
def LoopInput.start : LoopInput := ⟨false, false, .clear, 0, 0⟩
def PairRun.start : PairRun := ⟨.idle, false, 0, 0, 0, 0, 0⟩

/-- R138. -/
def Lamp.start : Lamp := ⟨.off, none, false⟩
def Face.start : Face := ⟨.blank, none, false, ⟨false, false, false⟩, none⟩
def Sign.start : Sign := ⟨.ok, Tab.fill 4 Face.start⟩
def ZoneStatus.start : ZoneStatus := ⟨.withheld, .config⟩

/-- R191, and the empty configuration while the load has not ended (assumption 15). The serial memory holds nothing
(assumption 13). -/
def ConfigUnit.start : ConfigUnit where
  state := .loading
  inForce := emptyCfg
  working := emptyCfg
  closed := emptyBody.closed
  dimming := defaultDimming
  map := emptyMap
  editFromFallback := false
  reason := none
  loadedId := none
  imageCurrent := false
  activity := .idle
  lastStore := none
  memory := ⟨.whole (List.replicate 64 0), emptyBody, 0, none⟩

/-- R181. -/
def Time.start : Time := ⟨0, 1, 0, none, 0, false, false⟩

def Occupancy.start : Occupancy := ⟨Tab.fill 512 Bay.start, 0, Tab.fill 16 (Tab.fill 4 0)⟩
def Air.start : Air := ⟨Tab.fill 32 Sensor.start, Tab.fill 16 ZoneAir.start⟩
def FanDrive.start : FanDrive := ⟨Tab.fill 12 Channel.start, 0, Tab.fill 16 false⟩
def Lighting.start : Lighting :=
  ⟨Tab.fill 48 Group.start, Tab.fill 4 .idle, Tab.fill 16 0, Tab.fill 16 false, false, 0⟩
def Loops.start : Loops := ⟨Tab.fill 8 LoopInput.start, Tab.fill 4 PairRun.start, 0⟩
def Guidance.start : Guidance :=
  ⟨Tab.fill 16 ZoneStatus.start, Tab.fill 512 Lamp.start, Tab.fill 24 Sign.start, Tab.fill 8 none, 0, 0, false, false⟩

/-- R155. -/
def Overrides.start : Overrides := ⟨[], Tab.fill 2 ⟨false, 0, .released⟩, .silent⟩

/-- R173. -/
def FieldBus.start : FieldBus := ⟨Tab.fill 16 none, 0, .active, 0, [], [], false, 0, 0, 125⟩

/-- R200: the service link after a reset, with its one RESTARTED notice. -/
def Link.start (straps : Straps) (commanded : Bool) (second : BitVec 32) : Link where
  straps := straps
  pins := straps
  receiver := .hunting
  reply := none
  sending := none
  de := false
  resetDue := false
  notices := [⟨.restarted commanded, second⟩]
  lost := false
  classes := BitVec.allOnes 6
  attn := true
  attnHigh := false

/-- The part right after a power-on reset, its straps low (assumption 14), no command waiting. -/
def State.reset : State where
  cfg := ConfigUnit.start
  time := Time.start
  occ := Occupancy.start
  air := Air.start
  fan := FanDrive.start
  light := Lighting.start
  loops := Loops.start
  guide := Guidance.start
  ovr := Overrides.start
  bus := FieldBus.start
  link := Link.start ⟨0, 0⟩ false 0
  free := 0
  pending := []

end Sys2Proof.Machine
end

