-- ==== Sys2Proof/Machine/Operands.lean ====
section
/-! DEFINITION. The operand forms: clamping, masks, the byte coding of section 11.8, and how CONFIG_WRITE takes each
record (R185 and the chapters it names). -/

namespace Sys2Proof.Machine

/-- `x` clamped into `lo..hi`. -/
def clamp (lo hi x : Nat) : Nat := max lo (min hi x)

/-- Indices `a..b-1` in ascending order. -/
def span (a b : Nat) : List Nat := (List.range (b - a)).map (· + a)

/-- The usable zones 1..15 in ascending order (section 4.4). -/
def zoneIndices : List Nat := span 1 16

/-- Does a zone mask include zone `z`? Bit 0 is ignored. -/
def maskHas (m : ZoneMask) (z : Nat) : Bool := z != 0 && m.getLsbD z

/-- A zone mask as stored and sent: bit 0 is ignored and stands as 0 (section 11.8). -/
def zoneSet (m : ZoneMask) : ZoneMask := m &&& 0xFFFE

/-- The zones of a zone mask, ascending. -/
def maskZones (m : ZoneMask) : List Nat := zoneIndices.filter (maskHas m)

/-- The fans of a fan mask, ascending. -/
def maskFans (m : FanMask) : List Nat := (List.range 12).filter (fun n => m.getLsbD n)

/-- Is `a` the address of a device: 0x00001..0xFFFFE (section 4.5)? -/
def isDevice (a : Addr) : Bool := 1 ≤ a && a ≤ 0xFFFFE

/-- 0xFFFFF, all devices on the segment. -/
def allDevices : Addr := 0xFFFFF

/-! ## Bytes (section 11.8) -/

def u8 (n : Nat) : List Byte := [BitVec.ofNat 8 n]
def u16 (n : Nat) : List Byte := u8 (n / 256) ++ u8 n
def u24 (n : Nat) : List Byte := u8 (n / 65536) ++ u16 n
def u32 (n : Nat) : List Byte := u16 (n / 65536) ++ u16 n
/-- A signed field of one byte in two's complement. -/
def i8 (n : Int) : List Byte := [BitVec.ofInt 8 n]
def flag (b : Bool) : List Byte := u8 b.toNat
/-- An optional field: a presence byte, then the field when it is present. -/
def optField {α : Type} (f : α → List Byte) : Option α → List Byte
  | none => u8 0
  | some x => u8 1 ++ f x

/-! ## Service-link results -/

/-- Section 11.8: the result codes. -/
inductive Result
  | ok | unknownKind | badLength | badIndex | badState | busy | full | notFound | conflict | invalid
deriving DecidableEq, Repr, Inhabited

def resultCode (r : Result) : Nat := r.ctorIdx

/-! ## Records taken by CONFIG_WRITE -/

/-- The clamped PARAMS record (R9, R12, R38, R45, R50, R52, R61, R154), or BAD_INDEX for a bit rate other than the
three (R172). ELEVATED is clamped first, then HIGH above it, then ALARM above HIGH (R50); the start level before the
stop level (R61). -/
def takeParams (r : Params) : Except Result Params :=
  if r.bitRate ≠ 50 ∧ r.bitRate ≠ 125 ∧ r.bitRate ≠ 250 then .error .badIndex
  else
    let elevated := clamp 1 1998 r.elevated
    let high := clamp (elevated + 1) 1999 r.high
    let startLevel := clamp 1 1000 r.startLevel
    .ok { r with
      settle := clamp 0 40 r.settle
      arrival := clamp 0 200 r.arrival
      departure := clamp 0 200 r.departure
      passage := clamp 0 200 r.passage
      shortCo := clamp 1 5000 r.shortCo
      shortNo2 := clamp 1 5000 r.shortNo2
      longCo := clamp 1 5000 r.longCo
      longNo2 := clamp 1 5000 r.longNo2
      curve := r.curve.each (clamp 0 1000)
      elevated := elevated
      high := high
      alarm := clamp (high + 1) 2000 r.alarm
      hysteresis := clamp 0 200 r.hysteresis
      alarmHold := clamp 0 600 r.alarmHold
      startLevel := startLevel
      stopLevel := clamp 1 startLevel r.stopLevel
      minRun := clamp 1 1000 r.minRun
      rampStep := clamp 1 1000 r.rampStep
      readyTimeout := clamp 1 255 r.readyTimeout
      readyLoss := clamp 1 255 r.readyLoss
      dwell := clamp 0 600 r.dwell
      fallbackSpeed := clamp 0 1000 r.fallbackSpeed
      sounderDiv := clamp 0 255 r.sounderDiv }

/-- R1, R185: a bay base above 511 and a bay count above 512 are refused. -/
def takeZone (r : ZoneRec) : Except Result ZoneRec :=
  if r.bayBase > 511 ∨ r.bayCount > 512 then .error .badIndex
  else .ok { r with fallbackDemand := clamp 0 1000 r.fallbackDemand, darkLimit := clamp 0 48 r.darkLimit }

/-- R29: the ceiling of the full scale for a gas. -/
def scaleLimit : Gas → Nat
  | .co => 5000
  | .no2 => 2000

/-- R29, R185. A zone index above 15 is refused as in the other records (assumption 18). The source of an analog slot
is its input, so none is stored. -/
def takeSensor (slot : Nat) (r : SensorRec) : Except Result SensorRec :=
  if r.zone > 15 then .error .badIndex
  else if 8 ≤ slot ∧ isDevice r.source = false then .error .badIndex
  else .ok { r with
    source := if slot < 8 then 0 else r.source
    warmup := clamp 0 1800 r.warmup
    zero := if slot < 8 then clamp 0 1023 r.zero else 0
    span := if slot < 8 then clamp 0 1023 r.span else 0
    fullScale := clamp 1 (scaleLimit r.gas) r.fullScale
    k := clamp 1 16 r.k }

/-- R60. -/
def takeFan (r : FanRec) : Except Result FanRec :=
  if r.owner > 15 ∨ r.assist.any (· > 15) then .error .badIndex
  else if r.assist.length > 2 then .error .badLength
  else .ok { r with weight := clamp 0 100 r.weight }

/-- R87: a bay range whose count is 0 is taken as absent. -/
def takeBayRange (b : Option (Nat × Nat)) : Option (Nat × Nat) :=
  match b with
  | some (base, count) => if count = 0 then none else some (base, count)
  | none => none

/-- R87, R185. DESIGN CHOICE (assumption 43): the bounds of R185 are held to a bay range before R87 takes one of count 0
as absent. -/
def takeGroup (r : GroupRec) : Except Result GroupRec :=
  if r.zone > 15 ∨ isDevice r.addr = false then .error .badIndex
  else if r.bays.any (fun b => b.1 > 511 || b.2 > 512) then .error .badIndex
  else .ok { r with
    bays := takeBayRange r.bays
    base := clamp 0 255 r.base
    presence := clamp 0 255 r.presence
    stayLit := clamp 0 3600 r.stayLit
    fade := clamp 0 15 r.fade }

/-- R91, R185. -/
def takePresence (r : PresenceRec) : Except Result PresenceRec :=
  if r.group > 47 ∨ isDevice r.addr = false then .error .badIndex else .ok r

/-- R96. -/
def takePath (r : PathRec) : Except Result PathRec :=
  if r.pair > 3 ∨ r.groups.any (· > 47) then .error .badIndex
  else if r.groups.length = 0 ∨ r.groups.length > 12 then .error .badLength
  else .ok { r with startDelay := clamp 0 255 r.startDelay, step := clamp 1 255 r.step }

/-- R110: a sign given for a pair whose role is not DECISION is discarded. DESIGN CHOICE (assumption 43): one above 23 is
refused before that. -/
def takePair (r : PairRec) : Except Result PairRec :=
  if r.inA > 7 ∨ r.inB.any (· > 7) ∨ r.zone > 15 ∨ r.sign.any (· > 23) then .error .badIndex
  else match r.role with
    | .decision => if r.sign.isNone then .error .badLength else .ok r
    | .entry | .aisle => .ok { r with sign := none }

/-- R124: the fields that do not belong to the face's kind are discarded; a zone mask is stored as its set. -/
def takeFace (r : FaceRec) : Except Result FaceRec :=
  let blank : FaceRec := { absentFace with present := r.present, kind := r.kind }
  match r.kind with
  | .count => .ok { blank with zones := zoneSet r.zones, kinds := r.kinds }
  | .level => if r.level = 0 ∨ r.level > 7 then .error .badIndex else .ok { blank with level := r.level }
  | .decision =>
    if r.candidates.length = 0 ∨ r.candidates.length > 4 then .error .badLength
    else .ok { blank with
      kinds := r.kinds
      candidates := r.candidates.map (fun c => { c with zones := zoneSet c.zones })
      minFree := clamp 1 99 r.minFree }
  | .blank => .ok blank

/-- R158, R185: the fields that do not belong to the mode are discarded. -/
def takeFilter (r : FilterRec) : FilterRec :=
  match r.mode with
  | .exact => { r with mask := 0, low := 0, high := 0 }
  | .mask => { r with low := 0, high := 0 }
  | .range => { r with code := 0, mask := 0 }

/-- R148: scope and value by role; a zone mask is stored as its set. -/
def takeInput (r : InputRec) : InputRec :=
  match r.role with
  | .boost => { r with zones := zoneSet r.zones, value := clamp 0 1000 r.value }
  | .close => { r with zones := zoneSet r.zones, value := 0 }
  | .profile => { r with zones := 0, value := clamp 0 3 r.value }
  | .mute | .noRole => { r with zones := 0, value := 0 }

/-! ## Override entries (R140, R142) -/

/-- R140: the kind of a code, in the order of the list of R140. -/
def overrideKindOf (code : Nat) : Option OverrideKind :=
  [OverrideKind.fanForce, .ventBoost, .profile, .lightLevel, .zoneClose, .sounderMute][code]?

/-- R140: is the scope of the kind a fan mask, a zone mask, or absent? -/
inductive ScopeKind | fans | zones | unscoped
deriving DecidableEq, Repr

def scopeKind : OverrideKind → ScopeKind
  | .fanForce => .fans
  | .ventBoost | .lightLevel | .zoneClose => .zones
  | .profile | .sounderMute => .unscoped

/-- R140: the largest value of a kind, or none for a kind without a value. -/
def valueLimit : OverrideKind → Option Nat
  | .fanForce | .ventBoost => some 1000
  | .profile => some 3
  | .lightLevel => some 255
  | .zoneClose | .sounderMute => none

/-- R142: is the mask of a scoped kind empty? -/
def emptyScope (k : OverrideKind) (m : BitVec 16) : Bool :=
  match scopeKind k with
  | .fans => (maskFans m).isEmpty
  | .zones => (maskZones m).isEmpty
  | .unscoped => false

/-- R142: the scope as stored: the bits of its set only, 0 for a kind without one. DESIGN CHOICE (assumption 46): bits 12
to 15 of a fan mask stand for no fan and are ignored. -/
def takeScope (k : OverrideKind) (m : BitVec 16) : BitVec 16 :=
  match scopeKind k with
  | .fans => m &&& 0x0FFF
  | .zones => zoneSet m
  | .unscoped => 0

/-- R142: the value clamped into its range, 0 for a kind without one. -/
def takeValue (k : OverrideKind) (v : Nat) : Nat :=
  match valueLimit k with
  | some hi => clamp 0 hi v
  | none => 0

/-- R148: the kind of the entry a role pushes. -/
def roleKind : InputRole → Option OverrideKind
  | .noRole => none
  | .boost => some .ventBoost
  | .close => some .zoneClose
  | .profile => some .profile
  | .mute => some .sounderMute

/-- Does an entry reach zone `z`? -/
def Entry.coversZone (e : Entry) (k : OverrideKind) (z : Nat) : Bool := e.kind == k && maskHas e.scope z

/-- Does an entry force fan `n`? -/
def Entry.coversFan (e : Entry) (n : Nat) : Bool := e.kind == .fanForce && e.scope.getLsbD n

end Sys2Proof.Machine
end

