-- ==== Sys2Proof/Machine/Ops.lean ====
section
/-! DEFINITION. The operations every block shares: posting a notice, answering a request, and the small reads over the
configuration and the tables. -/

namespace Sys2Proof.Machine

/-! ## Notices (section 11.5) -/

/-- Section 11.8: the code of a notice's kind. -/
def noticeKind : Notice → Nat
  | .airState .. => 0x01
  | .sensorState .. => 0x02
  | .fanState .. => 0x03
  | .ventLost .. => 0x04
  | .forcedBelow .. => 0x05
  | .bayDetector .. => 0x06
  | .reservationEnd .. => 0x07
  | .loopState .. => 0x08
  | .groupState .. => 0x09
  | .zoneDark .. => 0x0A
  | .zoneGuidance .. => 0x0B
  | .signState .. => 0x0C
  | .levelStale .. => 0x0D
  | .restarted .. => 0x0E
  | .configState .. => 0x0F
  | .storeDone .. => 0x10
  | .fieldState .. => 0x11
  | .unknownDevice .. => 0x12
  | .unknownOverflow => 0x12
  | .overrideEnd .. => 0x13
  | .inputPending .. => 0x14

/-- Section 11.8: the class of a notice kind, as its bit in the class enables. -/
def kindClass (kind : Nat) : Nat :=
  if kind ≤ 0x02 then 0
  else if kind ≤ 0x05 then 1
  else if kind ≤ 0x08 then 2
  else if kind ≤ 0x0A then 3
  else if kind ≤ 0x0D then 4
  else 5

def noticeClass (n : Notice) : Nat := kindClass (noticeKind n)

/-- The subject of a notice: the full bay index for a bay (section 11.8). -/
def noticeSubject : Notice → Nat
  | .airState z _ => z
  | .sensorState n _ => n
  | .fanState n _ _ => n
  | .ventLost z _ => z
  | .forcedBelow n _ => n
  | .bayDetector b _ => b
  | .reservationEnd b _ => b
  | .loopState i _ => i
  | .groupState g _ => g
  | .zoneDark z _ => z
  | .zoneGuidance z _ => z
  | .signState i _ => i
  | .levelStale v _ => v
  | .restarted _ => 0
  | .configState _ _ => 0
  | .storeDone _ _ _ => 0
  | .fieldState _ => 0
  | .unknownDevice p _ _ => p
  | .unknownOverflow => 8
  | .overrideEnd i _ => i
  | .inputPending i _ => i

/-- R197: do two notices have the same kind and subject? -/
def sameNotice (a b : Notice) : Bool :=
  noticeKind a == noticeKind b && noticeSubject a == noticeSubject b

/-- R197: a queue in which the notices of one kind and subject take the new value and second. -/
def coalesce (n : Notice) (now : BitVec 32) (q : List Queued) : List Queued :=
  q.map (fun x => if sameNotice x.notice n then ⟨n, now⟩ else x)

/-- R199: ATTN is active while the queue holds a notice or LOST is set. -/
def attnOf (q : List Queued) (lost : Bool) : Bool := !q.isEmpty || lost

/-- The link with another queue and LOST mark, ATTN following (R199). -/
def Link.withQueue (l : Link) (q : List Queued) (lost : Bool) : Link :=
  { l with notices := q, lost := lost, attn := attnOf q lost }

/-- R197: how the queue takes a posted notice. -/
def Link.enqueue (l : Link) (n : Notice) (now : BitVec 32) : Link :=
  if l.classes.getLsbD (noticeClass n) = false then l
  else if l.notices.any (fun x => sameNotice x.notice n) then l.withQueue (coalesce n now l.notices) l.lost
  else if l.notices.length < 32 then l.withQueue (l.notices ++ [⟨n, now⟩]) l.lost
  else l.withQueue l.notices true

/-- A block posts a notice (R197), stamped with the part clock as it stands (R178). -/
def post (n : Notice) (s : State) : State :=
  { s with link := s.link.enqueue n s.time.clock }

/-- Several notices, in order. -/
def postAll (ns : List Notice) (s : State) : State := ns.foldl (fun t n => post n t) s

/-! ## Reads over the configuration -/

/-- Is the configuration RUNNING? Tracking is on exactly then (R5). -/
def running (s : State) : Bool := s.cfg.state == .running

/-- Is the part in LOADING? -/
def loading (s : State) : Bool := s.cfg.state == .loading

/-- The tuning values in force. -/
def params (s : State) : Params := s.cfg.inForce.params

/-- Zone `z` of the configuration in force is present; zone 0 never is (R1). -/
def zonePresent (c : Cfg) (z : Nat) : Bool := z != 0 && (c.zones.nth z).present

/-- The present zones in force, ascending. -/
def presentZones (s : State) : List Nat := zoneIndices.filter (zonePresent s.cfg.inForce)

/-- The present groups in force, ascending. -/
def presentGroups (s : State) : List Nat := (List.range 48).filter (fun g => (s.cfg.inForce.groups.nth g).present)

/-- The present signs in force, ascending. -/
def presentSigns (s : State) : List Nat := (List.range 24).filter (fun i => (s.cfg.inForce.signs.nth i).present)

/-- The present paths in force, ascending. -/
def presentPaths (s : State) : List Nat := (List.range 4).filter (fun i => (s.cfg.inForce.paths.nth i).present)

/-- The present faces of a sign, ascending. -/
def presentFaces (r : SignRec) : List Nat := (List.range 4).filter (fun f => (r.faces.nth f).present)

/-- Is slot `n` a field sensor (R29)? -/
def isField (n : Nat) : Bool := 8 ≤ n

/-- The present field sensor with an address, if any (R34). -/
def fieldSensorAt (c : Cfg) (a : Addr) : Option Nat :=
  (span 8 32).find? (fun n => (c.sensors.nth n).present && (c.sensors.nth n).source == a)

/-- The present group with an address (R101). -/
def groupAt (c : Cfg) (a : Addr) : Option Nat :=
  (List.range 48).find? (fun g => (c.groups.nth g).present && (c.groups.nth g).addr == a)

/-- The present entry of the presence list with an address (R91). -/
def presenceAt (c : Cfg) (a : Addr) : Option Nat :=
  (List.range 32).find? (fun i => (c.presence.nth i).present && (c.presence.nth i).addr == a)

/-- The present sign with an address (R133). -/
def signAt (c : Cfg) (a : Addr) : Option Nat :=
  (List.range 24).find? (fun i => (c.signs.nth i).present && (c.signs.nth i).addr == a)

/-! ## The detector map (section 1.8) -/

/-- R21: the way of set `a mod 128` that holds address `a`. -/
def mapWay (m : DetMap) (a : Addr) : Option Nat :=
  (List.range 4).find? (fun w =>
    match (m.nth (a % 128)).nth w with
    | some e => e.tag == a / 128
    | none => false)

/-- R21: the bay that address `a` reports for. -/
def mapBay (m : DetMap) (a : Addr) : Option Nat :=
  match mapWay m a with
  | some w => ((m.nth (a % 128)).nth w).map (·.bay)
  | none => none

/-- The map with one way of one set written. -/
def mapPut (m : DetMap) (set way : Nat) (e : Option MapEntry) : DetMap :=
  m.modify set (fun ways => ways.put way e)

/-- The valid entries with their set and way, in set and way order. -/
def mapEntries (m : DetMap) : List (Nat × Nat × MapEntry) :=
  (List.range 128).flatMap (fun set => (List.range 4).filterMap (fun way =>
    ((m.nth set).nth way).map (fun e => (set, way, e))))

/-- R25: the full address of an entry. -/
def entryAddr (set : Nat) (e : MapEntry) : Addr := e.tag * 128 + set

/-! ## Replies (section 11.3) -/

/-- R195: the reply to a request kind, pending until its first byte is on the line. -/
def answer (kind : Nat) (r : Result) (fields : List Byte) (s : State) : State :=
  { s with link := { s.link with reply := some ⟨kind + 0x80, u8 (resultCode r) ++ fields⟩ } }

end Sys2Proof.Machine
end

