-- ==== Sys2Proof/Machine/Flags.lean ====
section
/-! DEFINITION. The conditions and lines that the rules derive from the rest of the state: bay state, guidance status,
VENT_LOST, DARK, the sounder's condition, the driven fans, the outputs at the pins. -/

namespace Sys2Proof.Machine

/-- R4: the state of a bay while tracking is on. -/
def deriveBay (admin : Admin) (sensed : Sensed) : BayState :=
  match admin, sensed with
  | .closed, _ => .closed
  | _, .nothing => .unknown
  | _, .present _ => .occupied
  | .reserved _, .vacant => .reserved
  | .inService, .vacant => .free

/-- R4: the state of a bay, UNKNOWN while tracking is off. -/
def bayStateOf (tracking : Bool) (b : Bay) : BayState :=
  if tracking then deriveBay b.admin b.sensed else .unknown

/-- R15: the total free count of a zone over its four kinds. -/
def totalFree (s : State) (z : Nat) : Nat :=
  let t := s.occ.free.nth z
  t.nth 0 + t.nth 1 + t.nth 2 + t.nth 3

/-- The free counts of the kinds of a mask in one zone (R126, R128). -/
def maskedFree (s : State) (kinds : KindMask) (z : Nat) : Nat :=
  ((List.range 4).filter (fun k => kinds.getLsbD k)).foldl (fun n k => n + (s.occ.free.nth z).nth k) 0

/-- R119: the guidance status of a present zone in RUNNING. -/
def deriveStatus (s : State) (z : Nat) : ZoneStatus :=
  if s.ovr.stack.any (fun e => e.coversZone .zoneClose z) then ⟨.closed, .override⟩
  else if (s.air.zones.nth z).state = .high ∨ (s.air.zones.nth z).state = .alarm then ⟨.withheld, .air⟩
  else if s.fan.ventLost.nth z then ⟨.withheld, .vent⟩
  else if s.light.dark.nth z then ⟨.withheld, .dark⟩
  else if totalFree s z = 0 then ⟨.full, .nothing⟩
  else ⟨.opened, .nothing⟩

/-- R119: is a zone present and OPEN? A zone that is not present is neither OPEN nor FULL. -/
def zoneOpen (s : State) (z : Nat) : Bool :=
  zonePresent s.cfg.inForce z && (s.guide.status.nth z).status == .opened

def zoneFull (s : State) (z : Nat) : Bool :=
  zonePresent s.cfg.inForce z && (s.guide.status.nth z).status == .full

/-- R3: the kind of a bay in force. -/
def bayKind (s : State) (b : Nat) : BayKind := s.cfg.inForce.kinds.nth b

/-- R122: the wanted colour of a bay lamp. -/
def lampColour (s : State) (b : Nat) : Colour :=
  let bay := s.occ.bays.nth b
  if running s = false then .off
  else if bay.zone = 0 then .off
  else match bay.state with
    | .occupied => .red
    | .reserved => .amber
    | .free =>
      if zoneOpen s bay.zone then (if bayKind s b = .accessible then .blue else .green) else .off
    | .closed | .unknown => .off

/-- The direction of a fan under a profile. -/
def profileDir (d : ProfileDir) : Option Dir :=
  match d with
  | .forward => some .forward
  | .reverse => some .reverse
  | .off => none

/-- R66: which channels the fan drive steps. -/
def fanDriven (s : State) (n : Nat) : Bool :=
  match s.cfg.state with
  | .loading => false
  | .fallback => true
  | .editing => s.cfg.editFromFallback || (s.cfg.inForce.fans.nth n).present
  | .running => (s.cfg.inForce.fans.nth n).present

/-- R79: the driven fans of a zone; in EDITING the profile does not apply. -/
def zoneFans (s : State) (z : Nat) : List Nat :=
  (List.range 12).filter (fun n =>
    let r := s.cfg.inForce.fans.nth n
    r.present && r.owner == z && (s.cfg.state == .editing || r.dirs.nth s.fan.profile != .off))

/-- R79: the fans of a list that are in FAULT. -/
def faultedFans (s : State) (fans : List Nat) : List Nat :=
  fans.filter (fun n => (s.fan.channels.nth n).state == .fault)

/-- R79: a zone is VENT_LOST when it has a driven fan and every driven fan is in FAULT. -/
def deriveVentLost (s : State) (z : Nat) : Bool :=
  let fans := zoneFans s z
  !fans.isEmpty && (faultedFans s fans).length == fans.length

/-- R102: the dark count of a zone. -/
def deriveDarkCount (s : State) (z : Nat) : Nat :=
  ((presentGroups s).filter (fun g =>
    (s.cfg.inForce.groups.nth g).zone == z && (s.light.groups.nth g).state != .ok)).length

/-- R152: the present zones in ALARM. -/
def alarmZones (s : State) : List Nat := zoneIndices.filter (fun z => (s.air.zones.nth z).state == .alarm)

/-- R152: does a SOUNDER_MUTE entry stand on the stack? -/
def muted (s : State) : Bool := s.ovr.stack.any (fun e => e.kind == .sounderMute)

/-- R152, R154: the sounder's condition formed again; a condition that becomes SOUNDING starts with phase ON, one that
stays SOUNDING keeps its phase. -/
def deriveSounder (s : State) : Sounder :=
  if (alarmZones s).isEmpty then .silent
  else if muted s then .muted
  else match s.ovr.sounder with
    | .sounding on => .sounding on
    | .silent | .muted => .sounding true

/-- R141: the effective entry for which `p` holds: the topmost. -/
def topmost (stack : List Entry) (p : Entry → Bool) : Option Entry := (stack.filter p).getLast?

/-- R47: the demand floor of a zone: the largest value among the covering VENT_BOOST entries. -/
def ventFloor (stack : List Entry) (z : Nat) : Nat :=
  (stack.filter (fun e => e.coversZone .ventBoost z)).foldl (fun m e => max m e.value) 0

/-- R64: the active profile. -/
def activeProfile (stack : List Entry) : Nat :=
  match topmost stack (fun e => e.kind == .profile) with
  | some e => e.value
  | none => 0

/-- R64: the effective FAN_FORCE of a channel, its id and value. -/
def effectiveForce (stack : List Entry) (n : Nat) : Option (Nat × Nat) :=
  (topmost stack (fun e => e.coversFan n)).map (fun e => (e.id, e.value))

/-- R93: the LIGHT_LEVEL entry that covers a zone. -/
def lightEntry (stack : List Entry) (z : Nat) : Option Entry :=
  topmost stack (fun e => e.coversZone .lightLevel z)

/-- R170: the bus state of an error count. -/
def busStateOf (errors : Nat) : BusState :=
  if errors ≤ 127 then .active else if errors ≤ 255 then .passive else .off

/-- R199: the level of the ATTN line, in the polarity in use. -/
def attnHighLevel (s : State) : Bool := s.link.attn == s.link.attnHigh

/-- R154: the division of the 16 MHz main clock on SND while it carries the tone; none while SND is held low. -/
def soundDivision (s : State) : Option Nat :=
  match s.ovr.sounder with
  | .sounding true => some (512 * ((params s).sounderDiv + 1))
  | .sounding false | .silent | .muted => none

/-- R192: the node address of the straps read. -/
def nodeAddress (s : State) : Nat := s.link.straps.addr.toNat + 1

/-- R192: the baud rate of the straps read, in bits per second. -/
def baudRate (s : State) : Nat :=
  [19200, 38400, 57600, 115200].getD s.link.straps.baud.toNat 0

end Sys2Proof.Machine
end

