-- ==== Sys2Proof/Machine/Slots.lean ====
section
/-! DEFINITION. Destinations and transmit slots (sections 8.6 and 8.7): how a producer's new wanted value or mark
reaches a slot, and how the slots are filled. -/

namespace Sys2Proof.Machine

/-- R164: the destinations, by the record that keeps their mark. -/
inductive Dest
  | face (sign index : Nat)
  | faceAll
  | call (addr : Addr)
  | group (index : Nat)
  | groupAll
  | lamp (bay : Nat)
  | lampAll
deriving DecidableEq, Repr

/-- R164: the key of a destination; a bay without a detector address has none (R123). -/
def destKey (s : State) : Dest → Option DestKey
  | .face i f => some (.face (s.cfg.inForce.signs.nth i).addr f)
  | .faceAll => some .faceAll
  | .call a => some (.call a)
  | .group g => some (.group (s.cfg.inForce.groups.nth g).addr)
  | .groupAll => some .groupAll
  | .lamp b => (s.occ.bays.nth b).detector.map .lamp
  | .lampAll => some .lampAll

/-- The wanted value of a destination as it stands (R164, R103, R136). -/
def destData (s : State) : Dest → FrameData
  | .face i f => .face ((s.guide.signs.nth i).faces.nth f).wanted
  | .faceAll => .face .blank
  | .call _ => .call
  | .group g => .level (s.light.groups.nth g).wanted
  | .groupAll => .level ⟨1023, 0⟩
  | .lamp b => .lamp (s.guide.lamps.nth b).wanted
  | .lampAll => .lamp .off

/-- The face of a sign, changed. -/
def Guidance.setFace (g : Guidance) (i f : Nat) (x : Face) : Guidance :=
  { g with signs := g.signs.modify i (fun sg => { sg with faces := sg.faces.put f x }) }

/-- Set or clear the waiting mark of a destination; a call's mark is its entry in the call list (R163). -/
def setMark (d : Dest) (m : Bool) (s : State) : State :=
  match d with
  | .face i f =>
    { s with guide := s.guide.setFace i f { (s.guide.signs.nth i).faces.nth f with waiting := m } }
  | .faceAll => { s with guide := { s.guide with faceBroadcast := m } }
  | .call a =>
    { s with bus := { s.bus with calls := if m then s.bus.calls ++ [a] else s.bus.calls.filter (· != a) } }
  | .group g =>
    { s with light := { s.light with groups := s.light.groups.modify g (fun x => { x with waiting := m }) } }
  | .groupAll => { s with light := { s.light with broadcast := m } }
  | .lamp b =>
    { s with guide := { s.guide with lamps := s.guide.lamps.modify b (fun x => { x with waiting := m }) } }
  | .lampAll => { s with guide := { s.guide with lampBroadcast := m } }

/-- The slot that holds a key, if any: no key stands in two slots (R164). -/
def slotWith (b : FieldBus) (k : DestKey) : Option Nat :=
  (List.range 16).find? (fun i =>
    match b.slots.nth i with
    | some x => x.key == k
    | none => false)

/-- The lowest-numbered free slot. -/
def freeSlot (b : FieldBus) : Option Nat :=
  (List.range 16).find? (fun i => (b.slots.nth i).isNone)

/-- A slot changed. -/
def FieldBus.setSlot (b : FieldBus) (i : Nat) (x : Option Slot) : FieldBus := { b with slots := b.slots.put i x }

/-- R166: a producer forms a wanted value for a destination, or marks it waiting (`mark`). A slot that holds the key
with no attempt in progress takes the value and the mark is cleared; otherwise the mark is set when asked. -/
def note (d : Dest) (mark : Bool) (s : State) : State :=
  match destKey s d with
  | none => s
  | some k =>
    match slotWith s.bus k with
    | none => if mark then setMark d true s else s
    | some i =>
      match s.bus.slots.nth i with
      | none => s
      | some x =>
        if x.trying then (if mark then setMark d true s else s)
        else setMark d false { s with bus := s.bus.setSlot i (some { x with data := destData s d }) }

/-- R165: the waiting destinations in the order in which they are taken. -/
def waitingDests (s : State) : List Dest :=
  (if s.guide.faceBroadcast then [.faceAll] else [])
  ++ (List.range 24).flatMap (fun i => ((List.range 4).filter (fun f =>
        ((s.guide.signs.nth i).faces.nth f).waiting)).map (Dest.face i))
  ++ s.bus.calls.map Dest.call
  ++ (if s.light.broadcast then [.groupAll] else [])
  ++ ((List.range 48).filter (fun g => (s.light.groups.nth g).waiting)).map Dest.group
  ++ (if s.guide.lampBroadcast then [.lampAll] else [])
  ++ ((List.range 512).filter (fun b => (s.guide.lamps.nth b).waiting)).map Dest.lamp

/-- R164, R165: take one waiting destination into the lowest free slot, unless its key stands in a slot already. -/
def fillOne (s : State) (d : Dest) : State :=
  match destKey s d, freeSlot s.bus with
  | some k, some i =>
    if (slotWith s.bus k).isSome then s
    else setMark d false { s with bus := s.bus.setSlot i (some ⟨k, destData s d, 0, false, false⟩) }
  | _, _ => s

/-- R165: fill the free slots, in RUNNING, FALLBACK and EDITING and in every bus state. -/
def fillSlots (s : State) : State :=
  if loading s then s else (waitingDests s).foldl fillOne s

/-- R172, R166: every filled slot is withdrawn, with no outcome reported. -/
def withdrawAll (b : FieldBus) : FieldBus := { b with slots := Tab.fill 16 none }

/-- R166: the slot of a key is withdrawn by MAP_REMOVE: freed now, or at the end of the attempt in progress. -/
def withdrawKey (k : DestKey) (b : FieldBus) : FieldBus :=
  match slotWith b k with
  | none => b
  | some i =>
    match b.slots.nth i with
    | none => b
    | some x => b.setSlot i (if x.trying then some { x with withdrawn := true } else none)

/-- The class and kind code of the frames a key is sent with (R156, section 11.8). -/
def keyClassKind : DestKey → Nat × Nat
  | .call _ => (2, 0x10)
  | .face _ _ | .faceAll => (3, 0x11)
  | .group _ | .groupAll => (4, 0x12)
  | .lamp _ | .lampAll => (5, 0x13)

/-- The destination address of a key. -/
def keyAddr : DestKey → Addr
  | .call a | .face a _ | .group a | .lamp a => a
  | .faceAll | .groupAll | .lampAll => allDevices

/-- Section 11.8: the 29-bit identifier: class, kind code, address. -/
def keyIdentifier (k : DestKey) : Nat :=
  (keyClassKind k).1 * 2 ^ 26 + (keyClassKind k).2 * 2 ^ 20 + keyAddr k

/-- R167: identifiers compare first; of two faces of one sign the lower face index goes first. -/
def keyRank (k : DestKey) : Nat :=
  keyIdentifier k * 8 + (match k with | .face _ f => f | _ => 0)

/-- R163: does the call list cover an address: does it, or the broadcast, stand there? -/
def called (b : FieldBus) (a : Addr) : Bool := b.calls.contains a || b.calls.contains allDevices

/-- R163: what joins the call list for an address that it does not cover: the broadcast alone takes a list of 16. -/
def callFor (b : FieldBus) (a : Addr) : Addr := if b.calls.length ≥ 16 then allDevices else a

/-- R163: an address that the call list does not cover is queued for a REPORT_CALL. -/
def queueCall (a : Addr) (b : FieldBus) : FieldBus :=
  { b with calls := if b.calls.length ≥ 16 then [allDevices] else b.calls ++ [a] }

end Sys2Proof.Machine
end

