-- ==== Sys2Proof/Machine/Guide.lean ====
section
/-! DEFINITION. The guidance controller (chapter 6): bay lamps, zone statuses, face values, the choice of decision
faces, and what each announcement does to them. -/

namespace Sys2Proof.Machine

/-! ## Bay lamps (section 6.2) -/

def setLamp (b : Nat) (x : Lamp) (s : State) : State :=
  { s with guide := { s.guide with lamps := s.guide.lamps.put b x } }

/-- R122, R123: form the wanted colour of a bay; a bay with a detector address is marked when it differs from sent. -/
def formLamp (b : Nat) (s : State) : State :=
  let x := s.guide.lamps.nth b
  let c := lampColour s b
  note (.lamp b) (x.sent != some c) (setLamp b { x with wanted := c } s)

def formLamps (bs : List Nat) (s : State) : State := bs.foldl (fun t b => formLamp b t) s

/-- The bays of a zone (R2). -/
def zoneBays (s : State) (z : Nat) : List Nat :=
  (List.range 512).filter (fun b => (s.occ.bays.nth b).zone == z)

/-! ## Decision faces (section 6.5) -/

/-- R128: the free count of a candidate, over the OPEN zones of its mask. -/
def candidateFree (s : State) (kinds : KindMask) (c : Candidate) : Nat :=
  ((maskZones c.zones).filter (zoneOpen s)).foldl (fun n z => n + maskedFree s kinds z) 0

/-- R128. -/
def eligible (s : State) (r : FaceRec) (c : Candidate) : Bool := r.minFree ≤ candidateFree s r.kinds c

/-- R128: eligible, with every OPEN zone of the mask in air state CLEAR. -/
def tierOne (s : State) (r : FaceRec) (c : Candidate) : Bool :=
  eligible s r c && ((maskZones c.zones).filter (zoneOpen s)).all (fun z => (s.air.zones.nth z).state == .clear)

/-- R128: the eligible set: the tier 1 candidates if there are any, else every eligible candidate. -/
def eligibleSet (s : State) (r : FaceRec) : List Nat :=
  let ks := List.range r.candidates.length
  let tier := ks.filter (fun k => (r.candidates[k]?).any (tierOne s r))
  if tier.isEmpty then ks.filter (fun k => (r.candidates[k]?).any (eligible s r)) else tier

/-- R129: the candidate of the pair (0, 1) or (2, 3) that the tree's mark points to. -/
def pairPointed (t : Tree) (high : Bool) : Nat :=
  if high then (if t.b2 then 3 else 2) else (if t.b1 then 1 else 0)

/-- R129: the other candidate of the same pair. -/
def partner (k : Nat) : Nat := if k % 2 = 0 then k + 1 else k - 1

/-- R129: the order in which a selection looks at the candidates. -/
def selectOrder (t : Tree) : List Nat :=
  let first := pairPointed t t.b0
  let second := pairPointed t (!t.b0)
  [first, partner first, second, partner second]

/-- R129: a selection; NONE when no candidate is in the eligible set. -/
def select (t : Tree) (set : List Nat) : Option Nat := (selectOrder t).find? (fun k => set.contains k)

/-- R130: the tree turned away from a choice. -/
def turnAway (t : Tree) (k : Nat) : Tree :=
  if k < 2 then { t with b0 := true, b1 := k == 0 } else { t with b0 := false, b2 := k == 2 }

/-- R129: the value a DECISION face shows for a choice. -/
def choiceValue (s : State) (r : FaceRec) (choice : Option Nat) : FaceValue :=
  match choice.bind (fun k => r.candidates[k]?) with
  | some c => .arrow (min (candidateFree s r.kinds c) 999) c.arrow
  | none => .full

/-- R131: the candidates are judged again: a choice that stays in the eligible set is kept. -/
def judged (s : State) (r : FaceRec) (x : Face) : Option Nat :=
  let set := eligibleSet s r
  match x.choice with
  | some k => if set.contains k then some k else select x.tree set
  | none => select x.tree set

/-! ## Face values (section 6.4) -/

/-- R126. -/
def countValue (s : State) (r : FaceRec) : FaceValue :=
  let zones := maskZones r.zones
  let sum := (zones.filter (zoneOpen s)).foldl (fun n z => n + maskedFree s r.kinds z) 0
  if sum > 0 then .number (min sum 999)
  else if zones.any (fun z => zoneOpen s z || zoneFull s z) then .full
  else .closed

/-- R127, R135. -/
def levelValue (s : State) (level : Nat) : FaceValue :=
  match s.guide.levels.nth level with
  | some e => if e.age < 120 then .number (min e.count 999) else .blank
  | none => .blank

/-- R125 to R131: a face with its choice judged and its wanted value formed. -/
def formedFace (s : State) (r : FaceRec) (x : Face) : Face :=
  match r.kind with
  | .count => { x with wanted := countValue s r }
  | .level => { x with wanted := levelValue s r.level }
  | .decision =>
    let c := judged s r x
    { x with choice := c, wanted := choiceValue s r c }
  | .blank => { x with wanted := .blank }

/-- The record of a face in force. -/
def faceRec (s : State) (i f : Nat) : FaceRec := (s.cfg.inForce.signs.nth i).faces.nth f

/-- The face as it stands. -/
def faceOf (s : State) (i f : Nat) : Face := (s.guide.signs.nth i).faces.nth f

def setFace (i f : Nat) (x : Face) (s : State) : State := { s with guide := s.guide.setFace i f x }

/-- R132: a face's wanted value is formed; the face is marked when it differs from sent. -/
def putFace (i f : Nat) (x : Face) (s : State) : State :=
  note (.face i f) (x.sent != some x.wanted) (setFace i f x s)

def formFace (i f : Nat) (s : State) : State :=
  putFace i f (formedFace s (faceRec s i f) (faceOf s i f)) s

/-- Every present face of every present sign, in sign and face order, as sign and face index. -/
def allFaces (s : State) : List (Nat × Nat) :=
  (presentSigns s).flatMap (fun i => (presentFaces (s.cfg.inForce.signs.nth i)).map (fun f => (i, f)))

/-- R132: form again the faces whose record meets `p`. -/
def formFaces (p : FaceRec → Bool) (s : State) : State :=
  ((allFaces s).filter (fun x => p (faceRec s x.1 x.2))).foldl (fun t x => formFace x.1 x.2 t) s

/-- Does a face count zone `z`, or hold a candidate over it? -/
def faceHasZone (r : FaceRec) (z : Nat) : Bool :=
  match r.kind with
  | .count => maskHas r.zones z
  | .decision => r.candidates.any (fun c => maskHas c.zones z)
  | .level | .blank => false

/-- R130: an advance of a DECISION face. -/
def advanceFace (i f : Nat) (s : State) : State :=
  let r := faceRec s i f
  let x := faceOf s i f
  if r.kind = .decision then
    let tree := match x.choice with
      | some k => turnAway x.tree k
      | none => x.tree
    let c := select tree (eligibleSet s r)
    putFace i f { x with tree := tree, choice := c, wanted := choiceValue s r c } s
  else s

/-- R130: an advance of every present DECISION face of a sign. -/
def advanceSign (i : Nat) (s : State) : State :=
  if (s.cfg.inForce.signs.nth i).present then
    (presentFaces (s.cfg.inForce.signs.nth i)).foldl (fun t f => advanceFace i f t) s
  else s

/-- R130: an advance of every sign without a pair. -/
def advanceUnpaired (s : State) : State :=
  ((presentSigns s).filter (fun i => (s.cfg.inForce.signs.nth i).pair.isNone)).foldl (fun t i => advanceSign i t) s

/-! ## Zone statuses (section 6.1) -/

/-- R120: the present zones of a list whose status or reason would change. -/
def changedZones (zs : List Nat) (s : State) : List Nat :=
  zs.filter (fun z => zonePresent s.cfg.inForce z && deriveStatus s z != s.guide.status.nth z)

/-- R119: the statuses of some zones taken afresh. -/
def takeStatuses (zs : List Nat) (s : State) : State :=
  { s with guide := { s.guide with
      status := zs.foldl (fun t z => t.put z (deriveStatus s z)) s.guide.status } }

/-- R120, R132: one arrival at guidance. The statuses of `zs` are formed again, all from the inputs as they stand; for
the zones that changed, the lamps and the faces follow and ZONE_GUIDANCE is posted in ascending order. `also` names the
further faces that the arrival itself forms again (R132). Outside RUNNING guidance tracks no zone (R121). -/
def guideArrival (zs : List Nat) (also : FaceRec → Bool) (s : State) : State :=
  if running s then
    let changed := changedZones zs s
    let s1 := takeStatuses changed s
    let s2 := changed.foldl (fun t z => formLamps (zoneBays t z) t) s1
    let s3 := formFaces (fun r => also r || changed.any (faceHasZone r)) s2
    postAll (changed.map (fun z => .zoneGuidance z (deriveStatus s z))) s3
  else s

/-- R14, R120, R122: a bay state change is announced to guidance. -/
def guideBay (b : Nat) (s : State) : State :=
  if running s then
    let z := (s.occ.bays.nth b).zone
    formLamp b (guideArrival [z] (fun r => faceHasZone r z) s)
  else s

/-- R54, R120, R132: an air state change of a zone is announced to guidance. -/
def guideAir (z : Nat) (s : State) : State :=
  guideArrival [z] (fun r => r.kind == .decision && faceHasZone r z) s

/-- R80, R102: a change of VENT_LOST or DARK of a zone is announced to guidance. -/
def guideZone (z : Nat) (s : State) : State := guideArrival [z] (fun _ => false) s

/-- R147, R120: a change of the override stack is announced to guidance. -/
def guideStack (s : State) : State := guideArrival zoneIndices (fun _ => false) s

/-- R12, R122: a sensed change is announced to guidance. -/
def guideSensed (b : Nat) (s : State) : State := if running s then formLamp b s else s

/-- R132: the LEVEL faces of some levels are formed again. -/
def guideLevels (levels : List Nat) (s : State) : State :=
  formFaces (fun r => r.kind == .level && levels.contains r.level) s

/-! ## Marks and outcomes -/

/-- R123: a bay lamp is marked waiting, whether or not wanted differs from sent. -/
def markLamp (b : Nat) (s : State) : State := note (.lamp b) true s

/-- R132: a face is marked waiting, whether or not wanted differs from sent. -/
def markFace (i f : Nat) (s : State) : State := note (.face i f) true s

/-- R123, R132: the periodic resend of guidance in RUNNING. -/
def markAllGuidance (s : State) : State :=
  let s1 := (allFaces s).foldl (fun t x => markFace x.1 x.2 t) s
  ((List.range 512).filter (fun b => (s1.occ.bays.nth b).detector.isSome)).foldl (fun t b => markLamp b t) s1

/-- R136: the two fallback broadcasts are marked waiting. -/
def markFallbackGuidance (s : State) : State := note .faceAll true (note .lampAll true s)

/-- R133: the state of a sign; a change posts SIGN_STATE. -/
def setSignState (i : Nat) (st : SignHealth) (s : State) : State :=
  if (s.guide.signs.nth i).state = st then s
  else post (.signState i st)
    { s with guide := { s.guide with signs := s.guide.signs.modify i (fun x => { x with state := st }) } }

end Sys2Proof.Machine
end

