-- ==== Sys2Proof/Machine/Light.lean ====
section
/-! DEFINITION. The lighting controller (chapter 4): levels, presence triggers, paths, group states and DARK. -/

namespace Sys2Proof.Machine

def setGroup (g : Nat) (x : Group) (s : State) : State :=
  { s with light := { s.light with groups := s.light.groups.put g x } }

/-- R93: the level of a group from its levels, its stay-lit remaining, its zone's air state and the override stack. -/
def groupLevel (s : State) (g : Nat) : Nat :=
  let r := s.cfg.inForce.groups.nth g
  let air := (s.air.zones.nth r.zone).state
  let rest := if (s.light.groups.nth g).stay > 0 then r.presence else r.base
  let lit := if air = .high then max rest r.presence else rest
  let told := match lightEntry s.ovr.stack r.zone with
    | some e => e.value
    | none => lit
  if air = .alarm then 255 else told

/-- R93: the fade in use. -/
def groupFade (s : State) (g : Nat) : Nat :=
  let r := s.cfg.inForce.groups.nth g
  if (s.air.zones.nth r.zone).state = .alarm then 0 else r.fade

/-- R93, R94: a group with its level and wanted value formed. -/
def formedGroup (s : State) (g : Nat) : Group :=
  let level := groupLevel s g
  let fade := groupFade s g
  { s.light.groups.nth g with level := level, fade := fade, wanted := ⟨s.cfg.dimming.nth level, fade⟩ }

/-- R94, R99: form a group again; it is marked waiting when its wanted value differs from sent. -/
def formGroup (g : Nat) (s : State) : State :=
  let x := formedGroup s g
  note (.group g) (x.sent != some x.wanted) (setGroup g x s)

/-- R94: form again the groups of a list; levels are formed in RUNNING only (R103). -/
def formGroups (gs : List Nat) (s : State) : State :=
  if running s then gs.foldl (fun t g => formGroup g t) s else s

/-- The present groups of a zone. -/
def zoneGroups (s : State) (z : Nat) : List Nat :=
  (presentGroups s).filter (fun g => (s.cfg.inForce.groups.nth g).zone == z)

/-- R54, R94: an air state change of a zone is announced to lighting. -/
def lightAir (z : Nat) (s : State) : State := formGroups (zoneGroups s z) s

/-- R147, R94: a change of the override stack is announced to lighting. -/
def lightStack (s : State) : State := formGroups (presentGroups s) s

/-- R89: a presence trigger for a group. -/
def trigger (g : Nat) (s : State) : State :=
  let r := s.cfg.inForce.groups.nth g
  if running s && r.present then
    let x := s.light.groups.nth g
    let t := setGroup g { x with stay := r.stayLit } s
    if x.stay = 0 ∧ r.stayLit > 0 then formGroup g t else t
  else s

/-- R87: does a group's bay range contain a bay? -/
def rangeHas (r : GroupRec) (b : Nat) : Bool :=
  match r.bays with
  | some (base, count) => base ≤ b && b < base + count
  | none => false

/-- R90: a sensed change of a bay triggers every present group whose bay range contains it. -/
def lightSensed (b : Nat) (s : State) : State :=
  ((presentGroups s).filter (fun g => rangeHas (s.cfg.inForce.groups.nth g) b)).foldl (fun t g => trigger g t) s

/-! ## Follow-me paths (section 4.5) -/

def setPath (p : Nat) (x : PathRun) (s : State) : State :=
  { s with light := { s.light with paths := s.light.paths.put p x } }

/-- R98: a RUNNING path whose countdown is 0 triggers its front group and moves on. -/
def pathFire (p : Nat) (s : State) : State :=
  let r := s.cfg.inForce.paths.nth p
  match s.light.paths.nth p with
  | .running front 0 =>
    let t := match r.groups[front]? with
      | some g => trigger g s
      | none => s
    setPath p (if front + 1 < r.groups.length then .running (front + 1) r.step else .idle) t
  | .running _ _ | .idle => s

/-- R98: a T32 tap of one path. -/
def pathTap (p : Nat) (s : State) : State :=
  match s.light.paths.nth p with
  | .running front countdown => pathFire p (setPath p (.running front (countdown - 1)) s)
  | .idle => s

/-- R97: a path starts, or starts again. -/
def startPath (p : Nat) (s : State) : State :=
  pathFire p (setPath p (.running 0 (s.cfg.inForce.paths.nth p).startDelay) s)

/-- R97: an IN or undirected passage at a pair starts its paths. -/
def startPaths (pair : Nat) (s : State) : State :=
  ((presentPaths s).filter (fun p => (s.cfg.inForce.paths.nth p).pair == pair)).foldl (fun t p => startPath p t) s

/-! ## Group states and DARK (section 4.7) -/

/-- R102: the dark count and the DARK condition of a zone are formed again, in RUNNING. -/
def formDark (z : Nat) (s : State) : State :=
  if running s && zonePresent s.cfg.inForce z then
    let n := deriveDarkCount s z
    let d := n > (s.cfg.inForce.zones.nth z).darkLimit
    let t := { s with light := { s.light with
      darkCount := s.light.darkCount.put z n, dark := s.light.dark.put z d } }
    if s.light.dark.nth z = decide d then t
    else guideZone z (post (.zoneDark z d) t)
  else s

/-- R101: the state of a group; a change posts GROUP_STATE and forms the zone's dark count again. -/
def setGroupState (g : Nat) (st : GroupState) (s : State) : State :=
  let x := s.light.groups.nth g
  if x.state = st then s
  else formDark (s.cfg.inForce.groups.nth g).zone (post (.groupState g st) (setGroup g { x with state := st } s))

/-! ## Marks -/

/-- R99: a group is marked waiting, whether or not wanted differs from sent. -/
def markGroup (g : Nat) (s : State) : State := note (.group g) true s

/-- R99: every present group is marked waiting. -/
def markAllGroups (s : State) : State := (presentGroups s).foldl (fun t g => markGroup g t) s

/-- R103: the fallback broadcast is marked waiting. -/
def markFallbackLight (s : State) : State := note .groupAll true s

/-- R92: the stay-lit time of one group at a T1 tap. -/
def stayTap (g : Nat) (s : State) : State :=
  let x := s.light.groups.nth g
  if x.stay = 0 then s
  else
    let t := setGroup g { x with stay := x.stay - 1 } s
    if x.stay = 1 then formGroup g t else t

end Sys2Proof.Machine
end

