-- ==== Sys2Proof/Machine/Fan.lean ====
section
/-! DEFINITION. The fan drive (chapter 3): targets, the channel state machine, VENT_LOST and FORCED_BELOW. -/

namespace Sys2Proof.Machine

def setChannel (n : Nat) (x : Channel) (s : State) : State :=
  { s with fan := { s.fan with channels := s.fan.channels.put n x } }

/-! ## Targets (section 3.2) -/

/-- R63: the computed target of a present fan in RUNNING. -/
def computedTarget (s : State) (r : FanRec) : Nat :=
  let part := (r.assist.foldl (fun m z => max m (s.air.zones.nth z).demand) 0) * r.weight / 100
  max (s.air.zones.nth r.owner).demand part

/-- R65 step 1: the forced target of a FAN_FORCE value. -/
def forcedTarget (minRun v : Nat) : Nat := if v = 0 then 0 else max v minRun

/-- R65 step 3: the call of a target with a wanted direction or none, under a force or not. -/
def callOf (p : Params) (forced : Option Nat) (target : Nat) (wanted : Option Dir) : Call :=
  match wanted, forced with
  | none, _ => .stop
  | some _, some _ => if target > 0 then .run else .stop
  | some _, none => if target ≥ p.startLevel then .run else if target < p.stopLevel then .stop else .hold

/-- R65: the values of a channel at a tap, from its computed target, its effective force and its direction. -/
def aimOf (p : Params) (computed : Nat) (force : Option (Nat × Nat)) (dir : Option Dir) : FanAim :=
  let forced := force.map (fun f => forcedTarget p.minRun f.2)
  let target := if dir.isNone then 0 else forced.getD computed
  ⟨computed, forced, target, dir, callOf p forced target dir⟩

/-- R63, R65, R66: the values of channel `n` at a T4 tap. -/
def channelAim (s : State) (n : Nat) : FanAim :=
  let r := s.cfg.inForce.fans.nth n
  let force := (s.fan.channels.nth n).force
  if running s then aimOf (params s) (computedTarget s r) force (profileDir (r.dirs.nth s.fan.profile))
  else aimOf (params s) (params s).fallbackSpeed force (some .forward)

/-! ## The state machine (section 3.3) -/

/-- R68: a channel enters STARTING in a direction. -/
def enterStarting (p : Params) (d : Dir) (x : Channel) : Channel :=
  { x with state := .starting, driven := some d, reference := p.minRun, ready := 0, coast := 0 }

/-- R74: a channel enters FAULT. -/
def enterFault (p : Params) (why : FanFault) (x : Channel) : Channel :=
  { x with
    state := .fault, reference := 0, last := x.driven.getD x.last, driven := none, coast := p.dwell, ready := 0
    reason := some why }

/-- R72: a channel is released. -/
def release (p : Params) (x : Channel) : Channel :=
  { x with
    state := .stopped, reference := 0, last := x.driven.getD x.last, driven := none, coast := p.dwell, ready := 0 }

/-- R71: the reference moves toward its aim by at most the ramp step. -/
def ramp (p : Params) (target reference : Nat) : Nat :=
  let goal := max target p.minRun
  if reference < goal then min goal (reference + p.rampStep)
  else if reference > goal then max goal (reference - p.rampStep)
  else reference

/-- R68: a step in STOPPED. -/
def stepStopped (p : Params) (x : Channel) : Channel :=
  match x.aim.call, x.aim.wanted with
  | .run, some d => if x.coast > 0 ∧ d ≠ x.last then { x with state := .dwell } else enterStarting p d x
  | _, _ => x

/-- R69: a step in DWELL. -/
def stepDwell (p : Params) (x : Channel) : Channel :=
  match x.aim.call, x.aim.wanted with
  | .run, some d => if x.coast = 0 ∨ d = x.last then enterStarting p d x else x
  | _, _ => { x with state := .stopped }

/-- R70: a step in STARTING. -/
def stepStarting (p : Params) (x : Channel) : Channel :=
  if x.aim.call = .stop ∨ (x.aim.wanted.isSome ∧ x.aim.wanted ≠ x.driven) then
    { x with state := .stopping, ready := 0 }
  else if x.rdy then { x with state := .running, ready := 0 }
  else if x.ready + 1 ≥ p.readyTimeout then enterFault p .noReady x
  else { x with ready := x.ready + 1 }

/-- R71: a step in RUNNING after its ready supervision. -/
def stepRunning (p : Params) (x : Channel) : Channel :=
  if x.aim.call = .stop ∨ (x.aim.wanted.isSome ∧ x.aim.wanted ≠ x.driven) then { x with state := .stopping }
  else { x with reference := ramp p x.aim.target x.reference }

/-- R72: a step in STOPPING after its ready supervision. -/
def stepStopping (p : Params) (x : Channel) : Channel :=
  if x.aim.call = .run ∧ x.aim.wanted = x.driven then { x with state := .running }
  else if x.reference = p.minRun then release p x
  else { x with reference := max p.minRun (x.reference - p.rampStep) }

/-- R73: the ready supervision of RUNNING and STOPPING, then the rest of the tap's step. -/
def supervised (p : Params) (rest : Channel → Channel) (x : Channel) : Channel :=
  if x.rdy then rest { x with ready := 0 }
  else if x.ready + 1 ≥ p.readyLoss then enterFault p .readyLost x
  else rest { x with ready := x.ready + 1 }

/-- R67: one state step of a channel whose values and ready input are those of the tap. -/
def stepChannel (p : Params) (x : Channel) : Channel :=
  match x.state with
  | .stopped => stepStopped p x
  | .dwell => stepDwell p x
  | .starting => stepStarting p x
  | .running => supervised p (stepRunning p) x
  | .stopping => supervised p (stepStopping p) x
  | .fault => x

/-! ## VENT_LOST (section 3.6) -/

/-- R79, R80: VENT_LOST of a present zone is formed again, in RUNNING and EDITING. -/
def formVentLost (z : Nat) (s : State) : State :=
  if (running s || s.cfg.state == .editing) && zonePresent s.cfg.inForce z then
    let v := deriveVentLost s z
    if s.fan.ventLost.nth z = v then s
    else guideZone z (post (.ventLost z v) { s with fan := { s.fan with ventLost := s.fan.ventLost.put z v } })
  else s

/-- R64, R79: VENT_LOST of every present zone. DESIGN CHOICE (assumption 22): the zones are taken in ascending order, as R85
has it at the entry to EDITING, each with its notice and its announcement before the next. -/
def formVentLosts (s : State) : State := (presentZones s).foldl (fun t z => formVentLost z t) s

/-- R77: the notice of a channel's state. -/
def fanNotice (n : Nat) (x : Channel) : Notice := .fanState n x.state x.reason

/-- R77, R79: a channel takes its new record; a change of state posts FAN_STATE, and VENT_LOST is formed again when it
enters or leaves FAULT. -/
def takeChannel (n : Nat) (x : Channel) (s : State) : State :=
  let old := s.fan.channels.nth n
  let t := setChannel n x s
  if old.state = x.state then t
  else
    let u := post (fanNotice n x) t
    if old.state = .fault ∨ x.state = .fault then formVentLost (s.cfg.inForce.fans.nth n).owner u else u

/-- R67: the T4 tap of channel `n`, with its RDY input as found; a channel that is not driven is not stepped (R66). -/
def fanTap (n : Nat) (rdy : Bool) (s : State) : State :=
  let x := { s.fan.channels.nth n with rdy := rdy }
  if fanDriven s n then takeChannel n (stepChannel (params s) { x with aim := channelAim s n }) s
  else setChannel n x s

/-- R81: the forced-below condition of a fan. -/
def belowDemand (s : State) (n : Nat) : Bool :=
  let r := s.cfg.inForce.fans.nth n
  let x := s.fan.channels.nth n
  r.present && r.dirs.nth s.fan.profile != .off && (s.air.zones.nth r.owner).state == .alarm
    && (match x.aim.forced with
        | some v => v < x.aim.computed
        | none => false)

/-- R81: the forced-below test of a fan at a T4 tap in RUNNING. -/
def testBelow (n : Nat) (s : State) : State :=
  let x := s.fan.channels.nth n
  let b := belowDemand s n
  let t := setChannel n { x with forcedBelow := b } s
  if b && !x.forcedBelow then post (.forcedBelow n x.aim.computed) t else t

/-- R147, R64: a change of the override stack is announced to the fan drive. -/
def fanStack (s : State) : State :=
  let p := activeProfile s.ovr.stack
  let t := { s with fan := { s.fan with
    profile := p
    channels := Tab.build 12 (fun n =>
      { s.fan.channels.nth n with force := effectiveForce s.ovr.stack n }) } }
  if p = s.fan.profile then t else formVentLosts t

/-- R75: the coast of a channel at a T1 tap. -/
def coastTap (x : Channel) : Channel :=
  match x.state with
  | .stopped | .dwell | .fault => { x with coast := x.coast - 1 }
  | .starting | .running | .stopping => x

/-- R78: the outputs of a channel at the start of a PWM period. -/
def takeReference (x : Channel) : Channel :=
  match x.driven with
  | some .forward => { x with fwd := x.reference, rev := 0 }
  | some .reverse => { x with fwd := 0, rev := x.reference }
  | none => { x with fwd := 0, rev := 0 }

end Sys2Proof.Machine
end

