-- ==== Sys2Proof/Machine/Stack.lean ====
section
/-! DEFINITION. The override stack, the key inputs and the sounder (chapter 7), and the demand that the air monitor
forms from the stack (R47, R48). -/

namespace Sys2Proof.Machine

/-! ## Demand (section 2.10) -/

/-- R47, R48: the demand of a zone from its record, its floor and its fallback demand. -/
def demandOf (fallback : Nat) (x : ZoneAir) : Nat :=
  if x.contributors > 0 then max x.lastD x.floor
  else if x.state = .alarm then max x.lastD (max fallback x.floor)
  else max fallback x.floor

/-- R47, R59: a change of the override stack is announced to the air monitor: floors afresh, and in RUNNING demands. -/
def airStack (s : State) : State :=
  { s with air := { s.air with
    zones := Tab.build 16 (fun z =>
      let x := s.air.zones.nth z
      if zonePresent s.cfg.inForce z then
        let y := { x with floor := ventFloor s.ovr.stack z }
        if running s then { y with demand := demandOf (s.cfg.inForce.zones.nth z).fallbackDemand y } else y
      else x) } }

/-! ## The sounder and the announcement (R147, R152) -/

/-- R152: the sounder's condition is formed again. -/
def formSounder (s : State) : State := { s with ovr := { s.ovr with sounder := deriveSounder s } }

/-- R147: a push or removal is announced to its five consumers. -/
def announceStack (s : State) : State := formSounder (guideStack (lightStack (airStack (fanStack s))))

/-! ## Pushes and removals (R141) -/

/-- R141: the lowest id in 1..255 that no entry holds. -/
def lowestFreeId (stack : List Entry) : Nat :=
  ((span 1 256).find? (fun i => !stack.any (fun e => e.id == i))).getD 0

def setStack (l : List Entry) (s : State) : State := { s with ovr := { s.ovr with stack := l } }

def setKey (k : Nat) (x : Key) (s : State) : State := { s with ovr := { s.ovr with keys := s.ovr.keys.put k x } }

/-- R141, R147: an entry is placed on top and announced. -/
def pushEntry (e : Entry) (s : State) : State := announceStack (setStack (s.ovr.stack ++ [e]) s)

/-- The source of a key input's entries. -/
def keySource (k : Nat) : Source := if k = 0 then .in1 else .in2

/-- The number of a key input: IN1 is 1, IN2 is 2. -/
def keyNumber (k : Nat) : Nat := k + 1

/-- R148, R149: the entry that a key input of role kind `kind` pushes. -/
def keyEntry (s : State) (k : Nat) (kind : OverrideKind) : Entry :=
  let r := s.cfg.inForce.inputs.nth k
  ⟨lowestFreeId s.ovr.stack, kind, takeScope kind r.zones, takeValue kind r.value, none, keySource k⟩

/-- R149: a key input's entry is placed on top and the input becomes HELD, keeping its id; not yet announced. -/
def keyPlace (k : Nat) (kind : OverrideKind) (s : State) : State :=
  let e := keyEntry s k kind
  setStack (s.ovr.stack ++ [e]) (setKey k { s.ovr.keys.nth k with filter := 0, state := .held e.id } s)

/-- R149: a key input pushes its entry and becomes HELD, keeping its id; the push is announced. -/
def keyPush (k : Nat) (s : State) : State :=
  match roleKind (s.cfg.inForce.inputs.nth k).role with
  | none => s
  | some kind => announceStack (keyPlace k kind s)

/-- R151: a PENDING input pushes when the stack has room. -/
def pendingPush (k : Nat) (s : State) : State :=
  if (s.ovr.keys.nth k).state = .pending ∧ s.ovr.stack.length < 8 then
    post (.inputPending (keyNumber k) .pushed) (keyPush k s)
  else s

/-- R151: after a removal, IN1 and then IN2 push if they are PENDING and there is room. -/
def pendingPushes (s : State) : State := pendingPush 1 (pendingPush 0 s)

/-- R141, R147, R151: the entries for which `p` holds are removed together; the removal is announced, and then PENDING
inputs push into the room. -/
def removeEntries (p : Entry → Bool) (s : State) : State :=
  pendingPushes (announceStack (setStack (s.ovr.stack.filter (fun e => !p e)) s))

/-- R149, R151: a key input whose filter ended acts. -/
def keyAct (k : Nat) (s : State) : State :=
  let t := setKey k { s.ovr.keys.nth k with filter := 0 } s
  if t.ovr.stack.length < 8 then keyPush k t
  else post (.inputPending (keyNumber k) .pending) (setKey k { t.ovr.keys.nth k with state := .pending } t)

/-- R150: a key input goes inactive. -/
def keyRelease (k : Nat) (s : State) : State :=
  let x := s.ovr.keys.nth k
  let t := setKey k ⟨false, 0, .released⟩ s
  match x.state with
  | .held id => removeEntries (fun e => e.id == id) t
  | .pending => post (.inputPending (keyNumber k) .cleared) t
  | .released | .spent => t

/-- R149: a T32 tap of a key input, whose level is active. DEDUCED (assumption 21): the level held becomes active at this
tap, not between two taps. -/
def keyTapActive (k : Nat) (s : State) : State :=
  let x := { s.ovr.keys.nth k with level := true }
  let t := setKey k x s
  if (s.cfg.inForce.inputs.nth k).role = .noRole then t
  else if x.state = .released then
    if x.filter + 1 ≥ 8 then keyAct k t else setKey k { x with filter := x.filter + 1 } t
  else t

/-- R149, R150: a T32 tap of a key input with the level read at it (assumption 21). -/
def keyTap (k : Nat) (active : Bool) (s : State) : State :=
  if active then keyTapActive k s else keyRelease k s

/-! ## Expiry (R146) and the cancelling of mutes (R153) -/

/-- R146: a T1 tap of one entry. -/
def Entry.tick (e : Entry) : Entry := { e with remaining := e.remaining.map (· - 1) }

/-- R146: the entries that have run out are removed together, OVERRIDE_END bottom first. -/
def expireEntries (s : State) : State :=
  let gone := s.ovr.stack.filter (fun e => e.remaining == some 0)
  if gone.isEmpty then s
  else removeEntries (fun e => e.remaining == some 0) (postAll (gone.map (fun e => .overrideEnd e.id false)) s)

/-- R153: what the cancelling of mutes does to a key input of role MUTE: a held entry that is cancelled, or a pending
one, makes it SPENT. -/
def spendKey (cancelled : List Nat) (k : Nat) (s : State) : State :=
  let x := s.ovr.keys.nth k
  if (s.cfg.inForce.inputs.nth k).role = .mute then
    match x.state with
    | .held id => if cancelled.contains id then setKey k { x with state := .spent } s else s
    | .pending => post (.inputPending (keyNumber k) .cleared) (setKey k { x with state := .spent } s)
    | .released | .spent => s
  else s

/-- R153: at a zone's entry to ALARM every SOUNDER_MUTE entry is removed. DESIGN CHOICE (assumption 22): of two PENDING
inputs of role MUTE, IN1 posts its INPUT_PENDING (CLEARED) first. -/
def cancelMutes (s : State) : State :=
  let gone := s.ovr.stack.filter (fun e => e.kind == .sounderMute)
  let ids := gone.map (·.id)
  let t := spendKey ids 1 (spendKey ids 0 (postAll (gone.map (fun e => .overrideEnd e.id true)) s))
  if gone.isEmpty then t else removeEntries (fun e => e.kind == .sounderMute) t

/-- R154: the phase turns at a T1 tap while SOUNDING. -/
def sounderTap (s : State) : State :=
  match s.ovr.sounder with
  | .sounding on => { s with ovr := { s.ovr with sounder := .sounding (!on) } }
  | .silent | .muted => s

end Sys2Proof.Machine
end

