-- ==== Sys2Proof/Machine/Air.lean ====
section
/-! DEFINITION. The air monitor (chapter 2): sensors, the air sample, the zone index, demand and air states. -/

namespace Sys2Proof.Machine

def setSensor (n : Nat) (x : Sensor) (s : State) : State :=
  { s with air := { s.air with sensors := s.air.sensors.put n x } }

def setZoneAir (z : Nat) (x : ZoneAir) (s : State) : State :=
  { s with air := { s.air with zones := s.air.zones.put z x } }

/-! ## Sensors (sections 2.3 to 2.7) -/

/-- R32: the state of an analog sensor and its concentration, from a raw count. -/
def convert (r : SensorRec) (raw : Nat) : SensorState × Option Nat :=
  if raw + 20 < r.zero then (.faultLow, none)
  else if raw ≤ r.zero then (.ok, some 0)
  else if raw ≤ r.span then (.ok, some ((raw - r.zero) * r.fullScale / (r.span - r.zero)))
  else (.over, some r.fullScale)

/-- R35: the state of a present field sensor. -/
def fieldState (x : Sensor) : SensorState :=
  if x.warmup > 0 then .warmup
  else if x.silence = 10 then .silent
  else match x.reported with
    | .nothing | .warmup => .warmup
    | .fault => .fault
    | .ok => .ok
    | .over => .over

/-- R37: the filter moves toward a concentration. -/
def filterStep (k f c : Nat) : Nat :=
  if f ≤ c then f + ((c - f) * k + 8) / 16 else f - ((f - c) * k + 8) / 16

/-- R38: the indices of a filtered value against the limits of its gas. -/
def indices (p : Params) (gas : Gas) (f : Nat) : Filtered :=
  match gas with
  | .co => ⟨f, min 2000 (f * 1000 / p.shortCo), min 2000 (f * 1000 / p.longCo)⟩
  | .no2 => ⟨f, min 2000 (f * 1000 / p.shortNo2), min 2000 (f * 1000 / p.longNo2)⟩

/-- R37, R38: the filter of a sensor after a sample that gave `c`, or none, with its indices formed again. -/
def takeSample (p : Params) (r : SensorRec) (old : Option Filtered) (c : Option Nat) : Option Filtered :=
  match old, c with
  | none, none => none
  | none, some c => some (indices p r.gas c)
  | some x, none => some (indices p r.gas x.f)
  | some x, some c => some (indices p r.gas (filterStep r.k x.f c))

/-- R32, R33, R35, R37, R38: the sensor stage of a present sensor in slot `n`. -/
def sensorStage (p : Params) (n : Nat) (r : SensorRec) (x : Sensor) : Sensor :=
  if isField n then
    let st := fieldState x
    let c := if st = .ok ∨ st = .over then x.last else none
    { x with state := st, filtered := takeSample p r x.filtered c }
  else if x.warmup > 0 then { x with state := .warmup, filtered := takeSample p r x.filtered none }
  else
    let (st, c) := convert r x.raw
    { x with state := st, last := c.or x.last, filtered := takeSample p r x.filtered c }

/-- R36: a sensor takes its new record; a change of state posts SENSOR_STATE. -/
def takeSensorState (n : Nat) (x : Sensor) (s : State) : State :=
  let t := setSensor n x s
  if (s.air.sensors.nth n).state = x.state then t else post (.sensorState n x.state) t

/-! ## The zone stage (sections 2.7 to 2.11) -/

/-- R30: does the sensor of a slot contribute to its zone? -/
def contributes (s : State) (z n : Nat) : Bool :=
  let r := s.cfg.inForce.sensors.nth n
  let x := s.air.sensors.nth n
  r.present && r.zone == z && (x.state == .ok || x.state == .over) && x.filtered.isSome

/-- R39: the filtered values of a zone's contributors, in slot order. -/
def contributions (s : State) (z : Nat) : List Filtered :=
  ((List.range 32).filter (contributes s z)).filterMap (fun n => (s.air.sensors.nth n).filtered)

/-- R40 step 1: the ring advances at sample number 0. -/
def advanceRing (x : ZoneAir) : ZoneAir :=
  if x.sample = 0 then
    let i := (x.index + 1) % 16
    { x with index := i, ring := x.ring.put i ⟨0, 0⟩ }
  else x

/-- R40 step 3: L is added to the current bucket. -/
def addDose (l : Nat) (x : ZoneAir) : ZoneAir :=
  let b := x.ring.nth x.index
  { x with ring := x.ring.put x.index ⟨b.sum + l, b.count + 1⟩ }

/-- R41. -/
def ringSum (x : ZoneAir) : Nat := x.ring.list.foldl (fun n b => n + b.sum) 0
def ringCount (x : ZoneAir) : Nat := x.ring.list.foldl (fun n b => n + b.count) 0

/-- R41: the time-weighted average. -/
def twaOf (x : ZoneAir) (l : Nat) : Nat := if ringCount x > 0 then ringSum x / ringCount x else l

/-- R43: one decay of the emission credit. -/
def decay (e : Nat) : Nat := e - (e + 7) / 8

/-- R46: the demand curve. -/
def curveDemand (p : Params) (z : Nat) : Nat :=
  let i := z / 125
  let a := p.curve.nth i
  let b := p.curve.nth (i + 1)
  if i ≥ 16 then p.curve.nth 16
  else if a ≤ b then a + (b - a) * (z - 125 * i) / 125
  else a - (a - b) * (z - 125 * i) / 125

/-- R50: the highest air state whose threshold is at most Z, or CLEAR. -/
def stateOfIndex (p : Params) (z : Nat) : AirState :=
  if p.alarm ≤ z then .alarm else if p.high ≤ z then .high else if p.elevated ≤ z then .elevated else .clear

/-- The order CLEAR, ELEVATED, HIGH, ALARM of section 2.11. -/
def airRank : AirState → Nat
  | .unknown => 0
  | .clear => 1
  | .elevated => 2
  | .high => 3
  | .alarm => 4

/-- The threshold of an air state. -/
def threshold (p : Params) : AirState → Nat
  | .elevated => p.elevated
  | .high => p.high
  | .alarm => p.alarm
  | .unknown | .clear => 0

/-- Is Z at or above a threshold less the hysteresis (R51)? -/
def holdsAbove (p : Params) (z : Nat) (st : AirState) : Bool := threshold p st ≤ z + p.hysteresis

/-- R51: the state a zone falls to. -/
def fallState (p : Params) (z : Nat) (from_ : AirState) : AirState :=
  if airRank .high < airRank from_ ∧ holdsAbove p z .high then .high
  else if airRank .elevated < airRank from_ ∧ holdsAbove p z .elevated then .elevated
  else .clear

/-- R50, R51, R52: the state of a zone with a contributor, whose alarm-hold remaining is `hold` after the decrement. -/
def nextKnown (p : Params) (z hold : Nat) (st : AirState) : AirState :=
  let up := stateOfIndex p z
  if st = .unknown then up
  else if airRank up > airRank st then up
  else if st = .clear ∨ holdsAbove p z st then st
  else if st = .alarm ∧ hold > 0 then st
  else fallState p z st

/-- R53: the state of a zone without a contributor. -/
def nextUnknown (hold : Nat) (st : AirState) : AirState := if st = .alarm ∧ hold > 0 then .alarm else .unknown

/-- R50 to R53: the air state and the alarm hold of a zone formed at a sample, its other values standing. -/
def formAirState (p : Params) (x : ZoneAir) : ZoneAir :=
  let hold := if x.state = .alarm then x.hold - 1 else x.hold
  let st := if x.contributors > 0 then nextKnown p x.z hold x.state else nextUnknown hold x.state
  { x with
    state := st
    hold := if st = .alarm then (if x.state = .alarm then hold else p.alarmHold) else 0 }

/-- R39 to R44: the indices of a zone with its contributors at this sample. -/
def formIndices (p : Params) (fs : List Filtered) (x : ZoneAir) : ZoneAir :=
  let n := x.sample
  let ring := { advanceRing x with sample := (n + 1) % 64, contributors := fs.length }
  let decayed := fun y : ZoneAir => if n % 4 = 0 then { y with e := decay y.e } else y
  if fs.isEmpty then decayed ring
  else
    let sh := fs.foldl (fun m f => max m f.short) 0
    let lo := fs.foldl (fun m f => max m f.long) 0
    let dosed := decayed (addDose lo ring)
    let twa := twaOf dosed lo
    let z := min 2000 (max sh twa + dosed.e)
    { dosed with s := sh, l := lo, twa := twa, z := z, lastD := curveDemand p z }

/-- R31 step 2: the zone stage of a present zone. -/
def zoneStage (p : Params) (fallback : Nat) (fs : List Filtered) (x : ZoneAir) : ZoneAir :=
  let y := formAirState p (formIndices p fs x)
  { y with demand := demandOf fallback y }

/-! ## Announcements -/

/-- R54: a changed air state of a zone is posted and announced to guidance, lighting and the override stack; an entry
to ALARM cancels the mutes (R153), and the sounder's condition is formed again (R152). -/
def announceAir (z : Nat) (s : State) : State :=
  let st := (s.air.zones.nth z).state
  let t := lightAir z (guideAir z (post (.airState z st) s))
  formSounder (if st = .alarm then cancelMutes t else t)

/-- A zone takes its new air record; a change of its air state is announced. -/
def takeZoneAir (z : Nat) (x : ZoneAir) (s : State) : State :=
  let t := setZoneAir z x s
  if (s.air.zones.nth z).state = x.state then t else announceAir z t

/-- R42: an emission credit arrives for a zone. -/
def credit (z w : Nat) (s : State) : State :=
  if running s && zonePresent s.cfg.inForce z then
    let x := s.air.zones.nth z
    setZoneAir z { x with e := min 1000 (x.e + w) } s
  else s

/-! ## The T1 tap of the air monitor (R31) -/

/-- R31: the conversion of a slot's analog input, whether or not the slot is present. -/
def convertSlot (n raw : Nat) (x : Sensor) : Sensor := if isField n then x else { x with raw := raw }

/-- R31: all eight analog inputs are converted. -/
def convertInputs (ain : Tab (BitVec 10) 8) (s : State) : Tab Sensor 32 :=
  Tab.build 32 (fun n => convertSlot n (ain.nth n).toNat (s.air.sensors.nth n))

/-- R31, R35: what a slot does at a T1 tap before the sensor stage: the warm-up decrement, the conversion of its input,
and in RUNNING the silence count of a present field sensor. -/
def slotTap (tracking : Bool) (n : Nat) (r : SensorRec) (raw : Nat) (x : Sensor) : Sensor :=
  let x1 := if r.present then { x with warmup := x.warmup - 1 } else x
  let x2 := convertSlot n raw x1
  if tracking ∧ r.present ∧ isField n ∧ x2.silence < 10 then { x2 with silence := x2.silence + 1 } else x2

/-- R31: every slot at a T1 tap, with the sensor stage in RUNNING. -/
def tapSensors (ain : Tab (BitVec 10) 8) (s : State) : Tab Sensor 32 :=
  Tab.build 32 (fun n =>
    let r := s.cfg.inForce.sensors.nth n
    let x := slotTap (running s) n r (ain.nth n).toNat (s.air.sensors.nth n)
    if running s && r.present then sensorStage (params s) n r x else x)

/-- R31: post the SENSOR_STATE notices of the slots for which `p` holds, whose state differs from `old`. -/
def postSensors (old : Tab Sensor 32) (p : SensorRec → Bool) (s : State) : State :=
  postAll (((List.range 32).filter (fun n =>
    p (s.cfg.inForce.sensors.nth n) && (old.nth n).state != (s.air.sensors.nth n).state)).map
      (fun n => .sensorState n (s.air.sensors.nth n).state)) s

/-- R31: the zone stage of one present zone, then the notices of its sensors and its own announcement. -/
def sampleZone (old : Tab Sensor 32) (z : Nat) (s : State) : State :=
  let x := zoneStage (params s) (s.cfg.inForce.zones.nth z).fallbackDemand (contributions s z) (s.air.zones.nth z)
  let t := postSensors old (fun r => r.zone == z) (setZoneAir z x s)
  if (s.air.zones.nth z).state = x.state then t else announceAir z t

/-- R31: the air monitor's T1 tap: the conversions in every configuration state, the warm-up decrement in every one
except LOADING; in RUNNING it is the air sample. -/
def airTap (ain : Tab (BitVec 10) 8) (s : State) : State :=
  if loading s then { s with air := { s.air with sensors := convertInputs ain s } }
  else
    let t := { s with air := { s.air with sensors := tapSensors ain s } }
    if running s then
      let unassigned := postSensors s.air.sensors (fun r => !zonePresent s.cfg.inForce r.zone) t
      (presentZones s).foldl (fun u z => sampleZone s.air.sensors z u) unassigned
    else t

/-! ## Field reports (section 2.4) -/

/-- R34: what a report records in a present field sensor. -/
def recordReport (fullScale : Nat) (g : GasReport) (x : Sensor) : Sensor :=
  match g with
  | .ok v =>
    if v ≤ fullScale then { x with silence := 0, reported := .ok, last := some v }
    else { x with silence := 0, reported := .over, last := some fullScale }
  | .warmup => { x with silence := 0, reported := .warmup }
  | .fault => { x with silence := 0, reported := .fault }

/-- R34, R35: a field sensor's record with its state derived again. -/
def rederived (x : Sensor) : Sensor := { x with state := fieldState x }

end Sys2Proof.Machine
end

