-- ==== Sys2Proof/Machine/Bays.lean ====
section
/-! DEFINITION. The occupancy unit (chapter 1): bay states and free counts, detector reports, settles, silence,
reservations, closures, bindings and lamp faults. -/

namespace Sys2Proof.Machine

def setBay (b : Nat) (x : Bay) (s : State) : State := { s with occ := { s.occ with bays := s.occ.bays.put b x } }

/-- The bay record as it stands. -/
def bayOf (s : State) (b : Nat) : Bay := s.occ.bays.nth b

/-! ## Bay states and free counts (sections 1.4 and 1.5) -/

/-- R15: the step of a free count at a bay state change. -/
def countStep (old new : BayState) (n : Nat) : Nat :=
  if new = .free then n + 1 else if old = .free then n - 1 else n

/-- R15: the free count of a present zone and a kind takes its step. -/
def countFree (z kind : Nat) (old new : BayState) (s : State) : State :=
  if zonePresent s.cfg.inForce z then
    { s with occ := { s.occ with free := s.occ.free.modify z (fun t => t.put kind (countStep old new (t.nth kind))) } }
  else s

/-- R4, R14: the state of a bay is derived again; a change adjusts the free counts and is announced to guidance. -/
def rederive (b : Nat) (s : State) : State :=
  let x := bayOf s b
  let st := bayStateOf (running s) x
  if st = x.state then s
  else guideBay b (countFree x.zone (bayKind s b).ctorIdx x.state st (setBay b { x with state := st } s))

/-! ## Sensed changes -/

/-- The sensed value of a detection taken at second `now` (R8, R12). -/
def sensedOf (d : Det) (now : BitVec 32) : Sensed :=
  match d with
  | .vacant => .vacant
  | .present => .present now

/-- Does a detection equal the sensed value (R9)? -/
def agrees (d : Det) (v : Sensed) : Bool :=
  match d, v with
  | .vacant, .vacant => true
  | .present, .present _ => true
  | _, _ => false

/-- R12: the emission weight of a detection. -/
def weightOf (p : Params) : Det → Nat
  | .present => p.arrival
  | .vacant => p.departure

/-- Is a reservation held (R3)? -/
def isReserved : Admin → Bool
  | .reserved _ => true
  | .inService | .closed => false

/-- R8, R10, R17: sensed takes a detection; a change to PRESENT ends a reservation with outcome TAKEN. -/
def takeSensed (b : Nat) (d : Det) (s : State) : State :=
  let x := bayOf s b
  let y := { x with sensed := sensedOf d s.time.clock, pending := none }
  if d = .present ∧ isReserved x.admin then
    post (.reservationEnd b .taken) (rederive b (setBay b { y with admin := .inService } s))
  else rederive b (setBay b y s)

/-- R12: a sensed change is announced to the air monitor, the lighting controller and the guidance controller. -/
def sensedChange (b : Nat) (d : Det) (s : State) : State :=
  guideSensed b (lightSensed b (credit (bayOf s b).zone (weightOf (params s) d) s))

/-- R10, R12: sensed changes between VACANT and PRESENT. -/
def settleBay (b : Nat) (d : Det) (s : State) : State := sensedChange b d (takeSensed b d s)

/-- R7, R11, R24: sensed becomes NONE and the pending value is discarded. -/
def loseSensed (b : Nat) (s : State) : State :=
  rederive b (setBay b { bayOf s b with sensed := .nothing, pending := none } s)

/-! ## Detector reports (section 1.3) -/

/-- R7: a report with health FAULT. -/
def faultReport (b : Nat) (s : State) : State :=
  let x := bayOf s b
  let t := loseSensed b (setBay b { x with health := .fault, lastHeard := 0 } s)
  if x.health = .ok then post (.bayDetector b .fault) t else t

/-- R9: a healthy report for a bay whose sensed value is VACANT or PRESENT. -/
def compareReport (b : Nat) (d : Det) (s : State) : State :=
  let x := bayOf s b
  if agrees d x.sensed then setBay b { x with pending := none } s
  else if x.pending.isSome then s
  else if (params s).settle = 0 then settleBay b d s
  else setBay b { x with pending := some (d, (params s).settle) } s

/-- R8, R9: a report with health OK. -/
def okReport (b : Nat) (d : Det) (s : State) : State :=
  let x := bayOf s b
  let t := setBay b { x with health := .ok, lastHeard := 0 } s
  let u := if x.sensed = .nothing then takeSensed b d t else compareReport b d t
  if x.health = .fault then post (.bayDetector b .ok) u else u

/-- R6: a report for bay `b` while tracking is on. -/
def bayReport (b : Nat) (d : Det) (h : Health) (s : State) : State :=
  match h with
  | .fault => faultReport b s
  | .ok => okReport b d s

/-! ## Taps of the occupancy unit -/

/-- R10: a T4 tap of one bay. -/
def settleTap (b : Nat) (s : State) : State :=
  let x := bayOf s b
  match x.pending with
  | some (d, n) => if n ≤ 1 then settleBay b d s else setBay b { x with pending := some (d, n - 1) } s
  | none => s

/-- R17: a reservation expires. -/
def expireReservation (b : Nat) (s : State) : State :=
  post (.reservationEnd b .expired) (rederive b (setBay b { bayOf s b with admin := .inService } s))

/-- R17: a T1 tap of one bay's reservation. -/
def reservationTap (b : Nat) (s : State) : State :=
  let x := bayOf s b
  match x.admin with
  | .reserved n => if n ≤ 1 then expireReservation b s else setBay b { x with admin := .reserved (n - 1) } s
  | .inService | .closed => s

/-- R11: does the silence scan mark a bay? -/
def fallsSilent (x : Bay) : Bool := x.detector.isSome && decide (x.lastHeard > 180) && x.sensed != .nothing

/-- R11: the silence scan at one bay. -/
def scanBay (b : Nat) (s : State) : State :=
  if fallsSilent (bayOf s b) then post (.bayDetector b .silent) (loseSensed b s) else s

/-- Every bay, ascending. -/
def allBays : List Nat := List.range 512

/-- R11: last-heard of every mapped bay at a T1 tap. -/
def heardTap (x : Bay) : Bay :=
  if x.detector.isSome then { x with lastHeard := min (x.lastHeard + 1) 65535 } else x

/-- R11: the scan counter at a T1 tap; at 0 the bay table is scanned. -/
def scanTap (s : State) : State :=
  let n := (s.occ.scan + 1) % 16
  let t := { s with occ := { s.occ with scan := n } }
  if n = 0 then allBays.foldl (fun u b => scanBay b u) t else t

/-- R10: the occupancy unit's T4 tap. -/
def bayT4 (s : State) : State := if running s then allBays.foldl (fun u b => settleTap b u) s else s

/-- R11, R17: the occupancy unit's T1 tap: last-heard, then reservations, then the scan. -/
def bayT1 (s : State) : State :=
  if running s then
    let t := { s with occ := { s.occ with bays := s.occ.bays.each heardTap } }
    scanTap (allBays.foldl (fun u b => reservationTap b u) t)
  else s

/-! ## Reservations and closures (sections 1.6 and 1.7) -/

/-- R16: a bay is reserved, or its reservation refreshed. -/
def reserveBay (b n : Nat) (s : State) : State :=
  rederive b (setBay b { bayOf s b with admin := .reserved n } s)

/-- R18: a reservation is cancelled. -/
def cancelReservation (b : Nat) (s : State) : State :=
  rederive b (post (.reservationEnd b .cancelled) (setBay b { bayOf s b with admin := .inService } s))

/-- R19, R190: the closure of a bay in the working configuration, which the image no longer holds. -/
def setClosure (b : Nat) (c : Bool) (s : State) : State :=
  { s with cfg := { s.cfg with closed := s.cfg.closed.put b c, imageCurrent := false } }

/-- R19: a bay that is not closed is closed. -/
def closeBay (b : Nat) (s : State) : State :=
  let x := bayOf s b
  let t := if isReserved x.admin then post (.reservationEnd b .cancelled) s else s
  rederive b (setClosure b true (setBay b { x with admin := .closed } t))

/-- R20: a closed bay is opened. -/
def openBay (b : Nat) (s : State) : State :=
  rederive b (setClosure b false (setBay b { bayOf s b with admin := .inService } s))

/-! ## Bindings (section 1.8) and lamp faults (R26) -/

/-- R123: the sent colour of a bay lamp becomes unknown; its mark is left as it stands. -/
def forgetLamp (b : Nat) (s : State) : State := setLamp b { s.guide.lamps.nth b with sent := none } s

/-- R23: a bay takes a detector address; while tracking is on its detector has not yet spoken, its lamp is marked. -/
def bindBay (b : Nat) (a : Addr) (s : State) : State :=
  let x := { bayOf s b with detector := some a }
  if running s then
    let y := { x with lastHeard := 0, health := .ok, lampFault := false }
    markLamp b (loseSensed b (forgetLamp b (setBay b y s)))
  else setBay b x s

/-- R24, R123: a bay loses its detector address; its lamp's sent value becomes unknown and its mark is cleared. -/
def unbindBay (b : Nat) (s : State) : State :=
  let x := { bayOf s b with detector := none }
  let t := setLamp b { s.guide.lamps.nth b with sent := none, waiting := false } s
  if running s then loseSensed b (setBay b { x with lampFault := false } t) else setBay b x t

/-- R26: a BAY_LAMP frame to a bay's address was given up. -/
def lampLost (b : Nat) (s : State) : State :=
  let x := bayOf s b
  if x.lampFault then s else post (.bayDetector b .lamp) (setBay b { x with lampFault := true } s)

/-- R26: a BAY_LAMP frame to a bay's address was sent. -/
def lampReached (b : Nat) (s : State) : State :=
  let x := bayOf s b
  if x.lampFault then post (.bayDetector b .ok) (setBay b { x with lampFault := false } s) else s

end Sys2Proof.Machine
end

