-- ==== Sys2Proof/Machine/LoopOps.lean ====
section
/-! DEFINITION. The loop unit (chapter 5): the filters of the loop inputs, the sequences of the pairs, passages and
the level vehicle count. -/

namespace Sys2Proof.Machine

def setLoop (i : Nat) (x : LoopInput) (s : State) : State :=
  { s with loops := { s.loops with inputs := s.loops.inputs.put i x } }

def setPair (p : Nat) (x : PairRun) (s : State) : State :=
  { s with loops := { s.loops with pairs := s.loops.pairs.put p x } }

/-- Does a pair record name a loop input? -/
def pairNames (r : PairRec) (i : Nat) : Bool := r.present && (r.inA == i || r.inB == some i)

/-- R106: the present pair in force that names a loop input; validation keeps it single. -/
def pairOf (c : Cfg) (i : Nat) : Option Nat := (List.range 4).find? (fun p => pairNames (c.pairs.nth p) i)

/-! ## Passages (sections 5.3 and 5.4) -/

/-- R116: the direction of a passage. -/
inductive Direction | into | out | undirected
deriving DecidableEq, Repr

/-- R110: a tally of 0..65535 that saturates. -/
def saturate (n : Nat) : Nat := min (n + 1) 65535

/-- R112, R114: the tally of a passage. -/
def tallied (d : Direction) (x : PairRun) : PairRun :=
  match d with
  | .into | .undirected => { x with tallyIn := saturate x.tallyIn }
  | .out => { x with tallyOut := saturate x.tallyOut }

/-- R115: the level vehicle count after a passage at an ENTRY pair. -/
def counted (d : Direction) (n : Nat) : Nat :=
  match d with
  | .into | .undirected => min (n + 1) 9999
  | .out => n - 1

/-- R116: a passage is announced, in RUNNING, to air, lighting and guidance. -/
def announcePassage (p : Nat) (d : Direction) (s : State) : State :=
  let r := s.cfg.inForce.pairs.nth p
  let t := credit r.zone (params s).passage s
  match d with
  | .out => t
  | .into | .undirected =>
    let u := startPaths p t
    match r.role, r.sign with
    | .decision, some i => advanceSign i u
    | _, _ => u

/-- R114 to R116: a passage at a pair: its tally, the count at an ENTRY pair, the announcement in RUNNING. -/
def passage (p : Nat) (d : Direction) (s : State) : State :=
  let t := setPair p (tallied d (s.loops.pairs.nth p)) s
  let u := if (s.cfg.inForce.pairs.nth p).role = .entry then
      { t with loops := { t.loops with count := counted d t.loops.count } } else t
  if running s then announcePassage p d u else u

/-! ## Sequences (R111 to R113) -/

/-- R112: the sequence of a pair back at IDLE. -/
def idled (x : PairRun) : PairRun := { x with sequence := .idle, otherSeen := false, time := 0 }

/-- R111: a loop of a two-loop pair becomes OCCUPIED. -/
def covered (isA : Bool) (x : PairRun) : PairRun :=
  match x.sequence with
  | .idle => { x with sequence := if isA then .aFirst else .bFirst, otherSeen := false, time := 0 }
  | .aFirst => if isA then x else { x with otherSeen := true }
  | .bFirst => if isA then { x with otherSeen := true } else x

/-- R112: a two-loop sequence completes. -/
def completeSequence (p : Nat) (s : State) : State :=
  let x := s.loops.pairs.nth p
  match x.sequence, x.otherSeen with
  | .aFirst, true => passage p .into (setPair p (idled x) s)
  | .bFirst, true => passage p .out (setPair p (idled x) s)
  | .aFirst, false | .bFirst, false => setPair p { idled x with backOut := saturate x.backOut } s
  | .idle, _ => s

/-- The loop of a two-loop pair that is not `i`. -/
def otherLoop (r : PairRec) (b i : Nat) : Nat := if r.inA = i then b else r.inA

/-- R111, R114: a pair takes the change of loop `i` to OCCUPIED. -/
def pairCovered (i : Nat) (s : State) : State :=
  match pairOf s.cfg.inForce i with
  | none => s
  | some p =>
    let r := s.cfg.inForce.pairs.nth p
    match r.inB with
    | none => passage p .undirected s
    | some _ => setPair p (covered (r.inA == i) (s.loops.pairs.nth p)) s

/-- R111, R112: a pair takes the change of loop `i` to clear, by a release or an entry to STUCK. -/
def pairCleared (i : Nat) (s : State) : State :=
  match pairOf s.cfg.inForce i with
  | none => s
  | some p =>
    let r := s.cfg.inForce.pairs.nth p
    match r.inB with
    | none => s
    | some b =>
      if (s.loops.inputs.nth (otherLoop r b i)).state = .occupied then s else completeSequence p s

/-! ## Loop inputs (section 5.1) -/

/-- R107: a loop whose filter count reached 4 becomes OCCUPIED. -/
def occupyLoop (i : Nat) (s : State) : State :=
  pairCovered i (setLoop i { s.loops.inputs.nth i with state := .occupied, filter := 0, occupied := 0 } s)

/-- R107: a T32 tap of a loop whose input is active. -/
def loopTapActive (i : Nat) (s : State) : State :=
  let x := { s.loops.inputs.nth i with level := true }
  let t := setLoop i x s
  if x.supervised ∧ x.state = .clear then
    if x.filter + 1 ≥ 4 then occupyLoop i t else setLoop i { x with filter := x.filter + 1 } t
  else t

/-- R107, R108: the arrival of a loop input's change to inactive. -/
def releaseLoop (i : Nat) (s : State) : State :=
  let x := s.loops.inputs.nth i
  let y := { x with level := false, state := .clear, filter := 0, occupied := 0 }
  let t := setLoop i y s
  match x.state with
  | .clear => t
  | .occupied => pairCleared i t
  | .stuck => post (.loopState i false) t

/-- R106 to R108: a T32 tap of a loop input with the level read at it (assumption 21). -/
def loopTap (i : Nat) (active : Bool) (s : State) : State :=
  if active then loopTapActive i s else releaseLoop i s

/-- R109: an OCCUPIED loop becomes STUCK. -/
def stickLoop (i : Nat) (s : State) : State :=
  pairCleared i (post (.loopState i true)
    (setLoop i { s.loops.inputs.nth i with state := .stuck, occupied := 120 } s))

/-- R109: a T1 tap of a loop input. -/
def occupiedTap (i : Nat) (s : State) : State :=
  let x := s.loops.inputs.nth i
  if x.state = .occupied then
    if x.occupied + 1 ≥ 120 then stickLoop i s else setLoop i { x with occupied := x.occupied + 1 } s
  else s

/-- R113: a sequence ends by its timeout. -/
def timeoutSequence (p : Nat) (s : State) : State :=
  let x := s.loops.pairs.nth p
  setPair p { idled x with timeout := saturate x.timeout } s

/-- R113: a T1 tap of a pair. -/
def sequenceTap (p : Nat) (s : State) : State :=
  let x := s.loops.pairs.nth p
  if x.sequence = .idle then s
  else if x.time + 1 ≥ 30 then timeoutSequence p s
  else setPair p { x with time := x.time + 1 } s

/-- The loop unit's T1 tap. DESIGN CHOICE (assumption 4): all occupied times are taken before all sequence times, so an
entry to STUCK that completes a sequence comes before that sequence's timeout at the same tap, where R113 allows either
order; the loops and the pairs are taken by ascending index, and so are the LOOP_STATE (STUCK) notices of one tap. -/
def loopT1 (s : State) : State :=
  if loading s then s
  else (List.range 4).foldl (fun t p => sequenceTap p t) ((List.range 8).foldl (fun t i => occupiedTap i t) s)

end Sys2Proof.Machine
end

