-- ==== Sys2Proof/Machine/BusOps.lean ====
section
/-! DEFINITION. The field bus controller (chapter 8): acceptance, delivery, the unknown-device list, attempts and
their outcomes, the error count and the bus state. -/

namespace Sys2Proof.Machine

/-! ## Receiving (sections 8.1 to 8.4) -/

/-- R157: does the controller receive frames? -/
def receives (s : State) : Bool := !loading s && s.bus.state != .off

/-- R158: does an enabled filter accept an address? -/
def filterAccepts (r : FilterRec) (a : Addr) : Bool :=
  let x := BitVec.ofNat 20 a
  match r.mode with
  | .exact => x == r.code
  | .mask => (x &&& r.mask) == (r.code &&& r.mask)
  | .range => r.low.toNat ≤ a && a ≤ r.high.toNat

/-- R158: is a frame of address `a` accepted by the filters in force? -/
def accepts (c : Cfg) (a : Addr) : Bool :=
  let on := c.filters.list.filter (·.enabled)
  on.isEmpty || on.any (fun r => filterAccepts r a)

/-- R157, R158: does a well-formed frame of a received kind from address `a` go on to delivery? -/
def delivered (s : State) (a : Addr) : Bool := receives s && isDevice a && accepts s.cfg.inForce a

/-- R161: an address no owner knows. -/
def addUnknown (a : Addr) (type : DeviceType) (s : State) : State :=
  if s.bus.unknown.any (fun e => e.addr == a) then s
  else if s.bus.unknown.length < 8 then
    post (.unknownDevice s.bus.unknown.length a type)
      { s with bus := { s.bus with unknown := s.bus.unknown ++ [⟨a, type, s.time.clock⟩] } }
  else if s.bus.overflow then s
  else post .unknownOverflow { s with bus := { s.bus with overflow := true } }

/-- R6: a delivered BAY_STATE frame. -/
def takeBayState (a : Addr) (d : Det) (h : Health) (s : State) : State :=
  match mapBay s.cfg.map a with
  | none => addUnknown a .detector s
  | some b => if running s then bayReport b d h s else s

/-- R34: a delivered GAS_VALUE frame. -/
def takeGasValue (a : Addr) (g : GasReport) (s : State) : State :=
  match fieldSensorAt s.cfg.inForce a with
  | none => addUnknown a .gasSensor s
  | some n =>
    if running s then
      takeSensorState n (rederived (recordReport (s.cfg.inForce.sensors.nth n).fullScale g (s.air.sensors.nth n))) s
    else s

/-- R91: a delivered PED_PRESENCE frame. -/
def takePed (a : Addr) (p : Ped) (s : State) : State :=
  match presenceAt s.cfg.inForce a with
  | none => addUnknown a .presence s
  | some i =>
    match p with
    | .detected => trigger (s.cfg.inForce.presence.nth i).group s
    | .clear => s

/-- R101: a delivered LUM_STATE frame. -/
def takeLumState (a : Addr) (h : Health) (s : State) : State :=
  match groupAt s.cfg.inForce a with
  | none => addUnknown a .luminaire s
  | some g =>
    if running s then setGroupState g (match h with | .ok => .ok | .fault => .lampFault) s else s

/-- R133: a delivered SIGN_STATE frame. -/
def takeSignState (a : Addr) (h : Health) (s : State) : State :=
  match signAt s.cfg.inForce a with
  | none => addUnknown a .sign s
  | some i =>
    if running s then setSignState i (match h with | .ok => .ok | .fault => .faulted) s else s

/-- R6, R123, R136: an ANNOUNCE frame from the detector address of bay `b`. -/
def announceBay (b : Nat) (s : State) : State :=
  if running s then markLamp b (setBay b { bayOf s b with lastHeard := 0 } s) else markFallbackGuidance s

/-- R34: an ANNOUNCE frame from the address of field sensor `n`. -/
def announceSensor (n : Nat) (s : State) : State :=
  if running s then takeSensorState n (rederived { s.air.sensors.nth n with silence := 0 }) s else s

/-- R99, R103: an ANNOUNCE frame from the address of group `g`. -/
def announceGroup (g : Nat) (s : State) : State := if running s then markGroup g s else markFallbackLight s

/-- R132, R136: an ANNOUNCE frame from the address of sign `i`. -/
def announceSign (i : Nat) (s : State) : State :=
  if running s then
    (presentFaces (s.cfg.inForce.signs.nth i)).foldl (fun t f => markFace i f t) s
  else markFallbackGuidance s

/-- R160: a delivered ANNOUNCE frame goes to the first owner that knows its address. -/
def takeAnnounce (a : Addr) (type : DeviceType) (s : State) : State :=
  match mapBay s.cfg.map a, fieldSensorAt s.cfg.inForce a, groupAt s.cfg.inForce a, presenceAt s.cfg.inForce a,
      signAt s.cfg.inForce a with
  | some b, _, _, _, _ => announceBay b s
  | none, some n, _, _, _ => announceSensor n s
  | none, none, some g, _, _ => announceGroup g s
  | none, none, none, some _, _ => s
  | none, none, none, none, some i => announceSign i s
  | none, none, none, none, none => addUnknown a type s

/-! ## Bus state (section 8.8) -/

/-- R170: the error count takes a value and the bus state follows it; the entry to OFF posts FIELD_STATE. -/
def setErrors (n : Nat) (s : State) : State :=
  let st := busStateOf n
  let t := { s with bus := { s.bus with errors := n, state := st } }
  if st = .off ∧ s.bus.state ≠ .off then
    post (.fieldState .off) { t with bus := { t.bus with offTaps := 0 } }
  else t

/-- R171: the controller leaves OFF. -/
def recoverBus (s : State) : State :=
  post (.fieldState .active) { s with bus := { s.bus with errors := 0, state := .active, offTaps := 0 } }

/-- R171: the field bus controller's T4 tap. -/
def busT4 (s : State) : State :=
  if loading s then s
  else if s.bus.state = .off then
    if s.bus.offTaps + 1 ≥ 4 then recoverBus s
    else { s with bus := { s.bus with offTaps := s.bus.offTaps + 1 } }
  else s

/-! ## Attempts and outcomes (section 8.7) -/

/-- The filled slots with their numbers, ascending. -/
def filledSlots (b : FieldBus) : List (Nat × Slot) :=
  (List.range 16).filterMap (fun i => (b.slots.nth i).map (fun x => (i, x)))

/-- The slot with an attempt in progress, with its number. -/
def tryingSlot (b : FieldBus) : Option (Nat × Slot) := (filledSlots b).find? (fun x => x.2.trying)

/-- R167: of two slots, the one offered first. -/
def lowerSlot (a b : Nat × Slot) : Nat × Slot := if keyRank b.2.key < keyRank a.2.key then b else a

/-- R167: the slot whose identifier is lowest. -/
def lowestSlot (b : FieldBus) : Option (Nat × Slot) :=
  match filledSlots b with
  | [] => none
  | x :: xs => some (xs.foldl lowerSlot x)

/-- A slot with its number is written back. -/
def putSlot (i : Nat) (x : Option Slot) (s : State) : State := { s with bus := s.bus.setSlot i x }

/-- R168: a face was sent. -/
def faceSent (i f : Nat) (v : FaceValue) (s : State) : State :=
  let x := { faceOf s i f with sent := some v }
  let t := setFace i f x s
  let u := if (s.guide.signs.nth i).state = .noResponse then setSignState i .ok t else t
  if x.wanted ≠ v then markFace i f u else u

/-- R168: a group's level was sent. -/
def groupSent (g : Nat) (v : Drive) (s : State) : State :=
  let x := { s.light.groups.nth g with sent := some v }
  let t := setGroup g x s
  let u := if x.state = .noResponse then setGroupState g .ok t else t
  if x.wanted ≠ v then markGroup g u else u

/-- R168: a bay lamp was sent. -/
def lampSent (b : Nat) (c : Colour) (s : State) : State :=
  let x := { s.guide.lamps.nth b with sent := some c }
  let t := lampReached b (setLamp b x s)
  if x.wanted ≠ c then markLamp b t else t

/-- R168: a success is reported to the producer of the key, with the data the frame carried. -/
def reportSuccess (x : Slot) (s : State) : State :=
  match x.key, x.data with
  | .face a f, .face v =>
    match signAt s.cfg.inForce a with
    | some i => faceSent i f v s
    | none => s
  | .group a, .level v =>
    match groupAt s.cfg.inForce a with
    | some g => groupSent g v s
    | none => s
  | .lamp a, .lamp c =>
    match mapBay s.cfg.map a with
    | some b => lampSent b c s
    | none => s
  | _, _ => s

/-- R169: NO_RESPONSE is reported to the producer of the key. -/
def reportGiveUp (x : Slot) (s : State) : State :=
  match x.key with
  | .face a _ =>
    match signAt s.cfg.inForce a with
    | some i => setSignState i .noResponse s
    | none => s
  | .group a =>
    match groupAt s.cfg.inForce a with
    | some g => setGroupState g .noResponse s
    | none => s
  | .lamp a =>
    match mapBay s.cfg.map a with
    | some b => lampLost b s
    | none => s
  | .faceAll | .call _ | .groupAll | .lampAll => s

/-- R168: the attempt in slot `i` succeeds. -/
def attemptSucceeds (i : Nat) (x : Slot) (s : State) : State :=
  let t := putSlot i none (setErrors (s.bus.errors - 1) s)
  if x.withdrawn then t else reportSuccess x t

/-- R169: a frame is given up. -/
def giveUp (i : Nat) (x : Slot) (s : State) : State :=
  let t := putSlot i none { s with bus := { s.bus with givenUp := min (s.bus.givenUp + 1) 65535 } }
  if x.withdrawn then t else reportGiveUp x t

/-- R169: the attempt in slot `i` fails; the give-up comes before the entry to OFF (assumption 28). -/
def attemptFails (i : Nat) (x : Slot) (s : State) : State :=
  let t :=
    if x.attempts + 1 ≥ 16 then giveUp i x s
    else if x.withdrawn then putSlot i none s
    else putSlot i (some { x with attempts := x.attempts + 1, trying := false }) s
  setErrors (s.bus.errors + 8) t

/-- R167: the attempt in slot `i` ends by lost arbitration; a withdrawn slot is freed (R166). -/
def arbitrationLoses (i : Nat) (x : Slot) (s : State) : State :=
  putSlot i (if x.withdrawn then none else some { x with trying := false }) s

end Sys2Proof.Machine
end

