-- ==== Sys2Proof/Machine/Validate.lean ====
section
/-! DEFINITION. The checks on a configuration: the validation of R186, and the decoding of the records of an image in
the order of R183. -/

namespace Sys2Proof.Machine

/-- R186: the reasons of a validation, in the order in which its table first writes them. -/
inductive InvalidReason
  | range | overlap | span | zoneAbsent | groupAbsent | duplicate | inputShared | signAbsent | pairMismatch | emptyMask
  | addressShared
deriving DecidableEq, Repr, Inhabited

/-- The first line that applies: the reason of the first condition that holds. -/
def firstReason (l : List (Bool × InvalidReason)) : Option InvalidReason := (l.find? (·.1)).map (·.2)

/-- Is a zone present, or zone 0 (R186)? -/
def zoneOrNull (c : Cfg) (z : Nat) : Bool := z == 0 || zonePresent c z

/-- Do two zones share a bay? -/
def zonesOverlap (a b : ZoneRec) : Bool :=
  a.bayCount != 0 && b.bayCount != 0 && decide (a.bayBase < b.bayBase + b.bayCount)
    && decide (b.bayBase < a.bayBase + a.bayCount)

/-- R186, order 1. -/
def checkZone (c : Cfg) (z : Nat) : Option InvalidReason :=
  let r := c.zones.nth z
  if zonePresent c z then
    firstReason [
      (decide (r.bayBase + r.bayCount > 512), .range),
      ((List.range z).any (fun y => zonePresent c y && zonesOverlap r (c.zones.nth y)), .overlap)]
  else none

/-- R186, order 2. -/
def checkSensor (c : Cfg) (n : Nat) : Option InvalidReason :=
  let r := c.sensors.nth n
  if r.present then
    firstReason [(!isField n && decide (r.span ≤ r.zero), .span), (!zoneOrNull c r.zone, .zoneAbsent)]
  else none

/-- R186, order 3. -/
def checkFan (c : Cfg) (n : Nat) : Option InvalidReason :=
  let r := c.fans.nth n
  if r.present then
    firstReason [(!zonePresent c r.owner || r.assist.any (fun z => !zonePresent c z), .zoneAbsent)]
  else none

/-- R186, order 4. -/
def checkGroup (c : Cfg) (g : Nat) : Option InvalidReason :=
  let r := c.groups.nth g
  if r.present then
    firstReason [(!zonePresent c r.zone, .zoneAbsent), (r.bays.any (fun b => decide (b.1 + b.2 > 512)), .range)]
  else none

/-- R186, order 5. -/
def checkPresence (c : Cfg) (i : Nat) : Option InvalidReason :=
  let r := c.presence.nth i
  if r.present then firstReason [(!(c.groups.nth r.group).present, .groupAbsent)] else none

/-- R186, order 6. -/
def checkPath (c : Cfg) (p : Nat) : Option InvalidReason :=
  let r := c.paths.nth p
  if r.present then
    firstReason [(r.groups.any (fun g => !(c.groups.nth g).present), .groupAbsent), (!decide r.groups.Nodup, .duplicate)]
  else none

/-- The inputs a pair record names. -/
def pairInputs (r : PairRec) : List Nat := r.inA :: r.inB.toList

/-- R186, order 7. -/
def checkPair (c : Cfg) (p : Nat) : Option InvalidReason :=
  let r := c.pairs.nth p
  if r.present then
    firstReason [
      (r.inB == some r.inA, .inputShared),
      ((List.range p).any (fun q => (pairInputs r).any (pairNames (c.pairs.nth q))), .inputShared),
      (!zoneOrNull c r.zone, .zoneAbsent),
      (r.role == .decision && !(r.sign.any (fun i => (c.signs.nth i).present)), .signAbsent)]
  else none

/-- R186, order 8: a present DECISION pair that names sign `i`. -/
def pairHasSign (c : Cfg) (i p : Nat) : Bool :=
  let r := c.pairs.nth p
  r.present && r.role == .decision && r.sign == some i

/-- The masks of a face of its kind that must not be empty are empty (R186). -/
def faceMaskEmpty (r : FaceRec) : Bool :=
  match r.kind with
  | .count => (maskZones r.zones).isEmpty || r.kinds == 0
  | .decision => r.kinds == 0 || r.candidates.any (fun k => (maskZones k.zones).isEmpty)
  | .level | .blank => false

/-- A mask of a face of its kind includes a zone that is not present (R186). -/
def faceZoneAbsent (c : Cfg) (r : FaceRec) : Bool :=
  match r.kind with
  | .count => (maskZones r.zones).any (fun z => !zonePresent c z)
  | .decision => r.candidates.any (fun k => (maskZones k.zones).any (fun z => !zonePresent c z))
  | .level | .blank => false

/-- The present face records of a sign. -/
def faceRecs (r : SignRec) : List FaceRec := r.faces.list.filter (·.present)

/-- R186, order 8. -/
def checkSign (c : Cfg) (i : Nat) : Option InvalidReason :=
  let r := c.signs.nth i
  if r.present then
    firstReason [
      (r.pair.any (fun p => !pairHasSign c i p)
        || (List.range 4).any (fun p => pairHasSign c i p && r.pair != some p), .pairMismatch),
      ((faceRecs r).any faceMaskEmpty, .emptyMask),
      ((faceRecs r).any (faceZoneAbsent c), .zoneAbsent)]
  else none

/-- R186, order 9. -/
def checkFilter (c : Cfg) (i : Nat) : Option InvalidReason :=
  let r := c.filters.nth i
  firstReason [(r.enabled && r.mode == .range && decide (r.high < r.low), .range)]

/-- R186, order 10. -/
def checkInput (c : Cfg) (k : Nat) : Option InvalidReason :=
  let r := c.inputs.nth k
  if r.role = .boost ∨ r.role = .close then
    firstReason [((maskZones r.zones).isEmpty, .emptyMask), ((maskZones r.zones).any (fun z => !zonePresent c z), .zoneAbsent)]
  else none

/-- R186, order 11: the device addresses of a configuration, each with its record, in the order of the table. -/
def deviceAddresses (c : Cfg) (m : DetMap) : List (RecRef × Addr) :=
  ((span 8 32).filter (fun n => (c.sensors.nth n).present)).map (fun n => (⟨.sensor, n, 0⟩, (c.sensors.nth n).source))
  ++ ((List.range 48).filter (fun g => (c.groups.nth g).present)).map (fun g => (⟨.group, g, 0⟩, (c.groups.nth g).addr))
  ++ ((List.range 32).filter (fun i => (c.presence.nth i).present)).map
      (fun i => (⟨.presence, i, 0⟩, (c.presence.nth i).addr))
  ++ ((List.range 24).filter (fun i => (c.signs.nth i).present)).map (fun i => (⟨.sign, i, 0⟩, (c.signs.nth i).addr))
  ++ (mapEntries m).map (fun e => (⟨.map, e.1, e.2.1⟩, entryAddr e.1 e.2.2))

/-- The first item whose key an earlier item holds. -/
def firstRepeat {α : Type} (seen : List Nat) : List (α × Nat) → Option α
  | [] => none
  | (x, k) :: rest => if seen.contains k then some x else firstRepeat (k :: seen) rest

/-- R186, order 12: the first failing map entry, by set and way. -/
def checkMap (seen : List Nat) : List (Nat × Nat × MapEntry) → Option (RecRef × InvalidReason)
  | [] => none
  | (set, way, e) :: rest =>
    if seen.contains e.bay then some (⟨.map, set, way⟩, .duplicate)
    else if isDevice (entryAddr set e) = false then some (⟨.map, set, way⟩, .range)
    else checkMap (e.bay :: seen) rest

/-- The first failing record of one kind, in index order. -/
def firstFailing (kind : RecKind) (is : List Nat) (check : Nat → Option InvalidReason) : Option (RecRef × InvalidReason) :=
  is.findSome? (fun i => (check i).map (fun e => (⟨kind, i, 0⟩, e)))

/-- R186: the validation of a configuration with its map: the first record that fails, with the reason. An INPUT record
is named by its input number 1 or 2. -/
def validate (c : Cfg) (m : DetMap) : Option (RecRef × InvalidReason) :=
  (firstFailing .zone zoneIndices (checkZone c))
  <|> (firstFailing .sensor (List.range 32) (checkSensor c))
  <|> (firstFailing .fan (List.range 12) (checkFan c))
  <|> (firstFailing .group (List.range 48) (checkGroup c))
  <|> (firstFailing .presence (List.range 32) (checkPresence c))
  <|> (firstFailing .path (List.range 4) (checkPath c))
  <|> (firstFailing .pair (List.range 4) (checkPair c))
  <|> (firstFailing .sign (List.range 24) (checkSign c))
  <|> (firstFailing .filter (List.range 8) (checkFilter c))
  <|> (firstFailing .input [1, 2] (fun k => checkInput c (k - 1)))
  <|> ((firstRepeat [] (deviceAddresses c m)).map (fun r => (r, InvalidReason.addressShared)))
  <|> (checkMap [] (mapEntries m))

/-! ## The records of an image (R183) -/

/-- Is a record as the part takes it, with nothing clamped, discarded or refused? -/
def unchanged {α : Type} [DecidableEq α] (r : α) (taken : Except Result α) : Bool :=
  match taken with
  | .ok x => x == r
  | .error _ => false

/-- Does a record hold only values that the part stores? A record that was never written is as the part left it. -/
def stored {α : Type} [DecidableEq α] (absent r : α) (taken : Except Result α) : Bool :=
  r == absent || unchanged r taken

/-- R183: is every field of a record within its range? `sub` is the face of a FACE record and the way of a map entry. -/
def recordInRange (b : Body) (r : RecRef) : Bool :=
  match r.kind with
  | .params => unchanged b.cfg.params (takeParams b.cfg.params)
  | .zone => stored absentZone (b.cfg.zones.nth r.index) (takeZone (b.cfg.zones.nth r.index))
  | .bay => true
  | .sensor => stored absentSensor (b.cfg.sensors.nth r.index) (takeSensor r.index (b.cfg.sensors.nth r.index))
  | .fan => stored absentFan (b.cfg.fans.nth r.index) (takeFan (b.cfg.fans.nth r.index))
  | .group => stored absentGroup (b.cfg.groups.nth r.index) (takeGroup (b.cfg.groups.nth r.index))
  | .presence => stored absentPresence (b.cfg.presence.nth r.index) (takePresence (b.cfg.presence.nth r.index))
  | .path => stored absentPath (b.cfg.paths.nth r.index) (takePath (b.cfg.paths.nth r.index))
  | .pair => stored absentPair (b.cfg.pairs.nth r.index) (takePair (b.cfg.pairs.nth r.index))
  | .sign =>
    let x := b.cfg.signs.nth r.index
    (x.present == false && x.addr == 0 && x.pair.isNone) || (isDevice x.addr && !x.pair.any (· > 3))
  | .face =>
    let x := (b.cfg.signs.nth r.index).faces.nth r.sub
    stored absentFace x (takeFace x)
  | .filter => takeFilter (b.cfg.filters.nth r.index) == b.cfg.filters.nth r.index
  | .input => takeInput (b.cfg.inputs.nth (r.index - 1)) == b.cfg.inputs.nth (r.index - 1)
  | .closure => true
  | .dimming => decide (b.dimming.nth r.index ≤ 1023)
  | .map => !(((b.map.nth r.index).nth r.sub).any (fun e => decide (e.bay > 511) || decide (e.tag > 8191)))

/-- The records of one kind in index order. -/
def recordsOf (kind : RecKind) (is : List Nat) : List RecRef := is.map (fun i => ⟨kind, i, 0⟩)

/-- R183: the records of an image in the order in which they are decoded. -/
def decodeOrder : List RecRef :=
  recordsOf .params [0] ++ recordsOf .zone zoneIndices ++ recordsOf .bay (List.range 512)
  ++ recordsOf .sensor (List.range 32) ++ recordsOf .fan (List.range 12) ++ recordsOf .group (List.range 48)
  ++ recordsOf .presence (List.range 32) ++ recordsOf .path (List.range 4) ++ recordsOf .pair (List.range 4)
  ++ recordsOf .sign (List.range 24)
  ++ (List.range 24).flatMap (fun i => (List.range 4).map (fun f => ⟨.face, i, f⟩))
  ++ recordsOf .filter (List.range 8) ++ recordsOf .input [1, 2]
  ++ recordsOf .closure (List.range 512) ++ recordsOf .dimming (List.range 256)
  ++ (List.range 128).flatMap (fun set => (List.range 4).map (fun way => ⟨.map, set, way⟩))

/-- R183: the first record of an image that does not decode: one whose bytes decode to nothing, or a field out of its
range. -/
def firstUndecoded (b : Body) (undecoded : Option RecRef) : Option RecRef :=
  (decodeOrder.find? (fun r => undecoded == some r || !recordInRange b r)) <|> undecoded

end Sys2Proof.Machine
end

