-- ==== Sys2Proof/Machine/Image.lean ====
section
/-! DEFINITION. The stored image (sections 10.2 and 10.6): the checks of a load, and what the serial memory holds as a
store goes on, fails or is cut short. -/

namespace Sys2Proof.Machine

/-- R183: the checks on page 0, then on the body; the body and the image id of a valid image, or the reason. -/
def checkImage (im : ImageRead) : Except FallbackReason (Body × BitVec 16) :=
  let p := im.page0
  if p.take 4 ≠ imageMarker then .error .noImage
  else if word16 p 12 ≠ crc16 (p.take 12) then .error .headerCrc
  else if word16 p 4 ≠ 0x0001 ∨ word16 p 8 ≠ 0x3FC0 then .error .version
  else if word16 p 10 ≠ im.bodyCrc then .error .bodyCrc
  else match firstUndecoded im.body im.undecoded with
    | some r => .error (.record r)
    | none =>
      match validate im.body.cfg im.body.map with
      | some (r, _) => .error (.invalid r)
      | none => .ok (im.body, word16 p 6)

/-- R188 to R190: the memory as its own content reads, with page 0 read as `b`. -/
def readAs (m : SerialMem) (b : List Byte) : ImageRead := ⟨b, m.body, m.bodyCrc, m.undecoded⟩

/-- R189, R190: what a load finds in a memory whose page 0 was cut short: `n` is the free value that decides (R183
names the outcomes that remain; assumption 12). -/
def checkDoubtful (m : SerialMem) (mayLoad : Bool) (b : List Byte) (n : Nat) :
    Except FallbackReason (Body × BitVec 16) :=
  match n % 3 with
  | 0 => if mayLoad then checkImage (readAs m b) else .error .bodyCrc
  | 1 => .error .noImage
  | _ => .error .headerCrc

/-- R183: the outcome of a load from the memory as the part's own writes left it. -/
def checkHeld (m : SerialMem) (n : Nat) : Except FallbackReason (Body × BitVec 16) :=
  match m.page0 with
  | .whole b => checkImage (readAs m b)
  | .cut mayLoad b => checkDoubtful m mayLoad b n

/-- R183: the outcome of a load. A memory that does not answer fails the first check. -/
def checkSource (s : State) (source : LoadSource) : Except FallbackReason (Body × BitVec 16) :=
  match source with
  | .held => checkHeld s.cfg.memory (Config.freeReading s.free)
  | .silent => .error .noImage
  | .supplied im => checkImage im

/-- A supplied image comes to stand in the memory; its bytes are those of the supplied reading. -/
def memoryAfter (m : SerialMem) (source : LoadSource) : SerialMem :=
  match source with
  | .held | .silent => m
  | .supplied im => ⟨.whole im.page0, im.body, im.bodyCrc, im.undecoded⟩

/-! ## Stores -/

/-- The header page of a store. -/
def storeHeader (id : BitVec 16) (b : Body) : List Byte := headerPage id (Config.bodyCrc b)

/-- R189: page 0 after a first write of page 0 that was cut short: either as it read before, or no longer an image. -/
def cutFirst (p : Page0) : Page0 :=
  match p with
  | .whole b => .cut true b
  | .cut m b => .cut m b

/-- R188: the memory after the page write that brings the progress to `n`. -/
def memoryWritten (m : SerialMem) (n : Nat) (id : BitVec 16) (b : Body) : SerialMem :=
  if n = 1 then { m with page0 := .whole blankPage }
  else if n = 256 then { m with body := b, bodyCrc := Config.bodyCrc b, undecoded := none }
  else if n = 257 then { m with page0 := .whole (storeHeader id b) }
  else m

/-- R189: the memory after the page write following progress `n` has failed. -/
def memoryFailed (m : SerialMem) (n : Nat) (id : BitVec 16) (b : Body) : SerialMem :=
  if n = 0 then { m with page0 := cutFirst m.page0 }
  else if n = 256 ∨ n = 257 then { m with page0 := .cut false (storeHeader id b) }
  else m

/-- R190: the memory after a reset that arrives at progress `n` of a store. -/
def memoryCut (m : SerialMem) (n : Nat) (id : BitVec 16) (b : Body) : SerialMem :=
  if n = 0 then { m with page0 := cutFirst m.page0 }
  else if n = 256 ∨ n = 257 then { m with page0 := .cut true (storeHeader id b) }
  else m

/-- R190: the memory that a reset leaves. -/
def memoryAtReset (c : ConfigUnit) : SerialMem :=
  match c.activity with
  | .idle => c.memory
  | .storing n id b => memoryCut c.memory n id b

/-- R188, R189: a store ends. -/
def endStore (outcome : StoreOutcome) (progress : Nat) (id : BitVec 16) (m : SerialMem) (s : State) : State :=
  post (.storeDone outcome id progress)
    { s with cfg := { s.cfg with
        activity := .idle
        lastStore := some outcome
        imageCurrent := outcome == .ok
        loadedId := if outcome = .ok then some id else s.cfg.loadedId
        memory := m } }

/-- Is an image store in progress (R188)? -/
def storing (s : State) : Bool :=
  match s.cfg.activity with
  | .storing .. => true
  | .idle => false

end Sys2Proof.Machine
end

