-- ==== Sys2Proof/Machine/Entry.lean ====
section
/-! DEFINITION. Resets, the end of a load, and the entries to RUNNING, EDITING and FALLBACK, block by block (R5, R28,
R58, R59, R84 to R86, R105, R118, R121, R138, R139, R155, R172, R173, R182 to R187, R199). -/

namespace Sys2Proof.Machine

/-! ## Resets (R28, R58, R84, R105, R118, R138, R155, R173, R181, R190, R191, R196, R200) -/

/-- The configuration unit after a reset: the serial memory stays. -/
def ConfigUnit.afterReset (c : ConfigUnit) : ConfigUnit := { ConfigUnit.start with memory := memoryAtReset c }

/-- R182: a power-on reset with the straps as they stand. The commands that wait, and the counter of the free values,
are the model's own and stay (assumption 29). -/
def resetPowerOn (straps : Straps) (s : State) : State :=
  { State.reset with
    cfg := s.cfg.afterReset
    link := Link.start straps false 0
    free := s.free
    pending := s.pending }

/-- R196: a commanded reset, which keeps the timebase (R181). -/
def resetCommanded (straps : Straps) (s : State) : State :=
  { State.reset with
    cfg := s.cfg.afterReset
    time := s.time
    link := Link.start straps true s.time.clock
    free := s.free
    pending := s.pending }

/-! ## Entry to RUNNING -/

/-- R182, R187: the working configuration comes into force. -/
def cfgToRunning (s : State) : State :=
  post (.configState .running none)
    { s with
      cfg := { s.cfg with inForce := s.cfg.working, state := .running, editFromFallback := false }
      link := { s.link with attnHigh := s.cfg.working.params.attnHigh } }

/-- R172: every filled slot is withdrawn, the bit rate is taken, and a controller in OFF recovers at once. -/
def busEntry (rate : Nat) (calls : List Addr) (s : State) : State :=
  let t := { s with bus := { withdrawAll s.bus with bitRate := rate, calls := calls } }
  if s.bus.state = .off then recoverBus t else t

/-- R162, R163, R172: the field bus controller enters RUNNING. -/
def busToRunning (s : State) : State :=
  let t := busEntry (params s).bitRate [allDevices] s
  { t with bus := { t.bus with unknown := [], overflow := false } }

/-- R155: is the record of a key input changed from configuration `old`? -/
def inputChanged (old : Cfg) (s : State) (k : Nat) : Bool := old.inputs.nth k != s.cfg.inForce.inputs.nth k

/-- R155: a key input whose record changed: a HELD entry is removed without OVERRIDE_END, a PENDING input posts
INPUT_PENDING (CLEARED), and the input is RELEASED. -/
def inputEntry (old : Cfg) (k : Nat) (s : State) : State :=
  if inputChanged old s k then
    let x := s.ovr.keys.nth k
    let t := setKey k { x with filter := 0, state := .released } s
    match x.state with
    | .held id => setStack (s.ovr.stack.filter (fun e => e.id != id)) t
    | .pending => post (.inputPending (keyNumber k) .cleared) t
    | .released | .spent => t
  else s

/-- R151: a PENDING input whose record stands pushes into a place that the entry freed. -/
def inputPush (k : Nat) (s : State) : State :=
  match roleKind (s.cfg.inForce.inputs.nth k).role with
  | some kind =>
    if (s.ovr.keys.nth k).state = .pending ∧ s.ovr.stack.length < 8 then
      post (.inputPending (keyNumber k) .pushed) (keyPlace k kind s)
    else s
  | none => s

/-- R151, R155: the override stack enters RUNNING. The removals and pushes are not announced one by one: every consumer
forms afresh from the stack at the same entry (assumption 24). DESIGN CHOICE (assumption 22): the changed records of both
inputs are taken IN1 then IN2, before either pushes. -/
def ovrToRunning (old : Cfg) (s : State) : State := inputPush 1 (inputPush 0 (inputEntry old 1 (inputEntry old 0 s)))

/-- R2: the zone of a bay under a configuration. -/
def zoneOfBay (c : Cfg) (b : Nat) : Nat :=
  (zoneIndices.find? (fun z =>
    zonePresent c z && decide ((c.zones.nth z).bayBase ≤ b)
      && decide (b < (c.zones.nth z).bayBase + (c.zones.nth z).bayCount))).getD 0

/-- R5: a bay as tracking starts. -/
def startBay (s : State) (b : Nat) : Bay :=
  let admin : Admin := if s.cfg.closed.nth b then .closed else .inService
  { bayOf s b with
    zone := zoneOfBay s.cfg.inForce b
    sensed := .nothing
    pending := none
    health := .ok
    admin := admin
    lastHeard := 0
    lampFault := false
    state := deriveBay admin .nothing }

/-- R5, R11: the occupancy unit enters RUNNING. DESIGN CHOICE (assumption 47): a health that becomes OK posts no
BAY_DETECTOR. -/
def occToRunning (s : State) : State :=
  { s with occ := ⟨Tab.build 512 (startBay s), 0, Tab.fill 16 (Tab.fill 4 0)⟩ }

/-- R59: was a sensor present before with the same gas and source? The source of an analog slot is its input. -/
def sameSensor (n : Nat) (old new : SensorRec) : Bool :=
  old.present && old.gas == new.gas && (!isField n || old.source == new.source)

/-- R58, R59: a sensor as RUNNING is entered. DEDUCED (assumption 40): a slot that is no longer present has warm-up
remaining 0, as after a reset. -/
def startSensor (n : Nat) (old new : SensorRec) (x : Sensor) : Sensor :=
  if new.present then
    { Sensor.start with
      state := .warmup
      warmup := if sameSensor n old new then x.warmup else new.warmup
      raw := x.raw }
  else { Sensor.start with raw := x.raw }

/-- R58, R59: a zone's air record as RUNNING is entered. DEDUCED (assumption 42): its contributor count is 0 until the
first sample, and a zone that is not present is as after a reset. -/
def startZoneAir (stack : List Entry) (c : Cfg) (z : Nat) : ZoneAir :=
  if zonePresent c z then
    let floor := ventFloor stack z
    { ZoneAir.start with floor := floor, demand := max (c.zones.nth z).fallbackDemand floor }
  else ZoneAir.start

/-- R58, R59: the air monitor enters RUNNING. -/
def airToRunning (old : Cfg) (s : State) : State :=
  { s with air := {
      sensors := Tab.build 32 (fun n =>
        startSensor n (old.sensors.nth n) (s.cfg.inForce.sensors.nth n) (s.air.sensors.nth n))
      zones := Tab.build 16 (startZoneAir s.ovr.stack s.cfg.inForce) } }

/-- R86: the coast of a channel as RUNNING is entered. -/
def entryCoast (dwell : Nat) (x : Channel) : Nat :=
  match x.state with
  | .starting | .running | .stopping | .fault => dwell
  | .stopped | .dwell => min x.coast dwell

/-- R86: a channel as RUNNING is entered. -/
def startChannel (dwell : Nat) (stack : List Entry) (n : Nat) (x : Channel) : Channel :=
  { x with
    state := .stopped
    reference := 0
    driven := none
    last := x.driven.getD x.last
    coast := entryCoast dwell x
    ready := 0
    reason := none
    forcedBelow := false
    force := effectiveForce stack n
    fwd := 0
    rev := 0 }

/-- R86: the fan drive enters RUNNING. -/
def fanToRunning (s : State) : State :=
  { s with fan := {
      channels := Tab.build 12 (fun n => startChannel (params s).dwell s.ovr.stack n (s.fan.channels.nth n))
      profile := activeProfile s.ovr.stack
      ventLost := Tab.fill 16 false } }

/-- R105: the lighting controller as RUNNING is entered, before its levels are formed. -/
def lightCleared (s : State) : State := { s with light := Lighting.start }

/-- R105: a group as RUNNING is entered. DESIGN CHOICE (assumption 44): one that is not present has the level, fade in use
and wanted value of a reset. -/
def startGroup (s : State) (g : Nat) : Group :=
  if (s.cfg.inForce.groups.nth g).present then { formedGroup s g with waiting := true } else Group.start

/-- R105: the lighting controller enters RUNNING. -/
def lightToRunning (s : State) : State :=
  let t := lightCleared s
  { t with light := { t.light with groups := Tab.build 48 (startGroup t) } }

/-- R106, R118: a loop input as RUNNING is entered. -/
def startLoop (old new : Bool) (x : LoopInput) : LoopInput :=
  if new then (if old then { x with supervised := true } else { LoopInput.start with level := x.level, supervised := true })
  else { LoopInput.start with level := x.level }

/-- R118: the loop unit enters RUNNING; a STUCK loop that is no longer supervised posts LOOP_STATE (CLEAR). DESIGN
CHOICE (assumption 22): several such notices are posted by ascending loop index. -/
def loopsToRunning (s : State) : State :=
  let named := fun i => (pairOf s.cfg.inForce i).isSome
  let freed := (List.range 8).filter (fun i => (s.loops.inputs.nth i).state == .stuck && !named i)
  postAll (freed.map (fun i => .loopState i false))
    { s with loops := {
        inputs := Tab.build 8 (fun i => startLoop (s.loops.inputs.nth i).supervised (named i) (s.loops.inputs.nth i))
        pairs := Tab.fill 4 PairRun.start
        count := s.loops.count } }

/-- R121, R139: the zone statuses as RUNNING is entered. -/
def startStatus (s : State) (z : Nat) : ZoneStatus :=
  if zonePresent s.cfg.inForce z then deriveStatus s z else ZoneStatus.start

/-- R139: a bay lamp as RUNNING is entered. -/
def startLamp (s : State) (b : Nat) : Lamp := ⟨lampColour s b, none, (s.occ.bays.nth b).detector.isSome⟩

/-- R139: a sign as RUNNING is entered; the choices are NONE and then selected. DESIGN CHOICE (assumption 44): a face that
is not present is as after a reset. DESIGN CHOICE (assumption 47): the state that becomes OK posts no SIGN_STATE. -/
def startSign (s : State) (i : Nat) : Sign :=
  let r := s.cfg.inForce.signs.nth i
  ⟨.ok, Tab.build 4 (fun f =>
    if r.present && (r.faces.nth f).present then { formedFace s (r.faces.nth f) Face.start with waiting := true }
    else Face.start)⟩

/-- R139: the guidance controller enters RUNNING. -/
def guideToRunning (s : State) : State :=
  let t := { s with guide := { Guidance.start with status := Tab.build 16 (startStatus s) } }
  { t with guide := { t.guide with lamps := Tab.build 512 (startLamp t), signs := Tab.build 24 (startSign t) } }

/-- R187: the entry to RUNNING, from LOADING or from EDITING; `old` is the configuration in force before it. -/
def enterRunning (s : State) : State :=
  let old := s.cfg.inForce
  let t := ovrToRunning old (busToRunning (cfgToRunning s))
  let u := fanToRunning (airToRunning old (occToRunning t))
  formSounder (guideToRunning (loopsToRunning (lightToRunning u)))

/-! ## Entry to EDITING -/

/-- R184: the working configuration is set equal to the configuration in force. -/
def cfgToEditing (s : State) : State :=
  post (.configState .editing none)
    { s with cfg := { s.cfg with
        working := s.cfg.inForce, state := .editing, editFromFallback := s.cfg.state == .fallback } }

/-- R5, R28: a bay as tracking stops. -/
def stopBay (x : Bay) : Bay :=
  { x with
    pending := none
    admin := if isReserved x.admin then .inService else x.admin
    state := .unknown }

/-- R5: the occupancy unit enters EDITING. -/
def occToEditing (s : State) : State :=
  { s with occ := { s.occ with bays := s.occ.bays.each stopBay, free := Tab.fill 16 (Tab.fill 4 0) } }

/-- R59: the zones whose air state is not UNKNOWN. -/
def knownZones (s : State) : List Nat := zoneIndices.filter (fun z => (s.air.zones.nth z).state != .unknown)

/-- R59: the air monitor enters EDITING: every zone becomes UNKNOWN, AIR_STATE in ascending order. -/
def airToEditing (s : State) : State :=
  formSounder (postAll ((knownZones s).map (fun z => .airState z .unknown))
    { s with air := { s.air with zones := s.air.zones.each (fun x => { x with state := .unknown, hold := 0 }) } })

/-- R85: the fan drive enters EDITING. -/
def fanToEditing (s : State) : State :=
  formVentLosts { s with fan := { s.fan with channels := s.fan.channels.each (fun x => { x with forcedBelow := false }) } }

/-- R105: the DARK zones. -/
def darkZones (s : State) : List Nat := zoneIndices.filter (fun z => s.light.dark.nth z)

/-- R105: the lighting controller enters EDITING. -/
def lightToEditing (s : State) : State :=
  postAll ((darkZones s).map (fun z => .zoneDark z false))
    { s with light := { s.light with
        groups := s.light.groups.each (fun x => { x with stay := 0, waiting := false })
        paths := Tab.fill 4 .idle
        dark := Tab.fill 16 false
        broadcast := true
        resend := 0 } }

/-- R121: the present zones whose status is not already WITHHELD (CONFIG). -/
def trackedZones (s : State) : List Nat :=
  (presentZones s).filter (fun z => s.guide.status.nth z != ZoneStatus.start)

/-- R139: a face as EDITING is entered. -/
def blankFace (x : Face) : Face := { x with wanted := .blank, waiting := false, choice := none }

/-- R121, R136, R139: the guidance controller enters EDITING. -/
def guideToEditing (s : State) : State :=
  postAll ((trackedZones s).map (fun z => .zoneGuidance z ZoneStatus.start))
    { s with guide := { s.guide with
        status := Tab.fill 16 ZoneStatus.start
        lamps := s.guide.lamps.each (fun x => { x with wanted := .off, waiting := false })
        signs := s.guide.signs.each (fun g => { g with faces := g.faces.each blankFace })
        resend := 0
        lampBroadcast := true
        faceBroadcast := true } }

/-- R184: the entry to EDITING, from RUNNING or FALLBACK. -/
def enterEditing (s : State) : State :=
  let t := occToEditing (busEntry s.bus.bitRate [] (cfgToEditing s))
  guideToEditing (lightToEditing (fanToEditing (airToEditing t)))

/-! ## The end of a load (R183) -/

/-- R84: every channel's coast is the dwell in force as the load ends. -/
def loadCoast (dwell : Nat) (s : State) : State :=
  { s with fan := { s.fan with channels := s.fan.channels.each (fun x => { x with coast := dwell }) } }

/-- R21: the detector address of a bay under a map. -/
def boundAddr (es : List (Nat × Nat × MapEntry)) (b : Nat) : Option Addr :=
  (es.find? (fun e => e.2.2.bay == b)).map (fun e => entryAddr e.1 e.2.2)

/-- R21, R28: the detector addresses of the bays are those of the map. -/
def loadDetectors (s : State) : State :=
  let es := mapEntries s.cfg.map
  { s with occ := { s.occ with
      bays := Tab.build 512 (fun b => { s.occ.bays.nth b with detector := boundAddr es b }) } }

/-- The configuration unit takes the whole of a configuration (R182, R183). -/
def takeBody (b : Body) (s : State) : State :=
  { s with cfg := { s.cfg with
      inForce := b.cfg, working := b.cfg, closed := b.closed, dimming := b.dimming, map := b.map } }

/-- R183: the load ends with a valid image. The configuration in force before the entry is the empty one, so every
sensor and loop starts afresh. -/
def loadImage (b : Body) (id : BitVec 16) (s : State) : State :=
  let t := loadDetectors (takeBody b s)
  let u := { t with cfg := { t.cfg with inForce := emptyCfg, loadedId := some id, imageCurrent := true } }
  enterRunning (loadCoast b.cfg.params.dwell u)

/-- R183: the load ends in FALLBACK. -/
def loadFallback (why : FallbackReason) (s : State) : State :=
  let t := loadCoast defaultParams.dwell (loadDetectors (takeBody emptyBody s))
  let u := { t with
    cfg := { t.cfg with state := .fallback, reason := some why, loadedId := none, imageCurrent := false }
    link := { t.link with attnHigh := defaultParams.attnHigh }
    light := { t.light with broadcast := true, resend := 0 }
    guide := { t.guide with lampBroadcast := true, faceBroadcast := true, resend := 0 } }
  busEntry defaultParams.bitRate [] (post (.configState .fallback (some why)) u)

/-- R183: the end of a load, whose outcome the source gives. -/
def endLoad (source : LoadSource) (s : State) : State :=
  let t := { s with
    free := s.free + 1
    cfg := { s.cfg with memory := memoryAfter s.cfg.memory source } }
  match checkSource s source with
  | .ok (b, id) => loadImage b id t
  | .error why => loadFallback why t

end Sys2Proof.Machine
end

