-- ==== Sys2Proof/Machine/Taps.lean ====
section
/-! DEFINITION. What each block does at a T32, T4 and T1 tap (R174), the order in which the blocks take it, and the
crystal cycle of the timebase (R174, R176, R177). -/

namespace Sys2Proof.Machine

/-! ## Counters that come round -/

/-- R123, R136: the periodic resend of guidance, or of its fallback broadcasts. -/
def resendGuidance (s : State) : State := if running s then markAllGuidance s else markFallbackGuidance s

/-- R99, R103: the periodic resend of lighting, or of its fallback broadcast. -/
def resendLight (s : State) : State := if running s then markAllGroups s else markFallbackLight s

/-- R99: the lighting resend counter at a T1 tap. -/
def lightResendTap (s : State) : State :=
  let n := (s.light.resend + 1) % 64
  let t := { s with light := { s.light with resend := n } }
  if n = 0 then resendLight t else t

/-- R123: the guidance resend counter at a T1 tap. -/
def guideResendTap (s : State) : State :=
  let n := (s.guide.resend + 1) % 64
  let t := { s with guide := { s.guide with resend := n } }
  if n = 0 then resendGuidance t else t

/-- R130: the rotation counter at a T1 tap in RUNNING. -/
def rotationTap (s : State) : State :=
  let n := (s.guide.rotation + 1) % 16
  let t := { s with guide := { s.guide with rotation := n } }
  if n = 0 then advanceUnpaired t else t

def setLevel (v : Nat) (x : Option OtherLevel) (s : State) : State :=
  { s with guide := { s.guide with levels := s.guide.levels.put v x } }

/-- R135: an entry of the other-level table turns stale. -/
def staleLevel (v : Nat) (e : OtherLevel) (s : State) : State :=
  guideLevels [v] (post (.levelStale v true) (setLevel v (some { e with age := 120 }) s))

/-- R135: a T1 tap of an entry of the other-level table in RUNNING. -/
def levelTap (v : Nat) (s : State) : State :=
  match s.guide.levels.nth v with
  | some e =>
    if e.age ≥ 120 then s
    else if e.age + 1 = 120 then staleLevel v e s
    else setLevel v (some { e with age := e.age + 1 }) s
  | none => s

/-! ## The parts of a tap -/

/-- R106 to R108: the loop inputs at a T32 tap. DESIGN CHOICE (assumption 4): one tap takes the changes of several
loops by ascending loop index; another order is sent as LOOP_OCCUPIED and LOOP_RELEASE commands. -/
def loopsT32 (levels : BitVec 8) (s : State) : State :=
  (List.range 8).foldl (fun t i => loopTap i (levels.getLsbD i) t) s

/-- R149, R150: the key inputs at a T32 tap, IN1 then IN2. -/
def keysT32 (levels : BitVec 2) (s : State) : State :=
  (List.range 2).foldl (fun t k => keyTap k (levels.getLsbD k) t) s

/-- R98: the paths at a T32 tap in RUNNING. -/
def pathsT32 (s : State) : State := if running s then (List.range 4).foldl (fun t p => pathTap p t) s else s

/-- A part of a T32 tap; during LOADING no input is read (R106, R149). -/
def runT32 (loops : BitVec 8) (keys : BitVec 2) (s : State) (p : T32Part) : State :=
  if loading s then s
  else match p with
    | .loops => loopsT32 loops s
    | .keys => keysT32 keys s
    | .paths => pathsT32 s

/-- R67, R81: the fan drive at a T4 tap: every channel's step, then the forced-below test of every present fan in
RUNNING (assumption 32). -/
def fansT4 (rdy : BitVec 12) (s : State) : State :=
  let t := (List.range 12).foldl (fun u n => fanTap n (rdy.getLsbD n) u) s
  if running t then
    ((List.range 12).filter (fun n => (t.cfg.inForce.fans.nth n).present)).foldl (fun u n => testBelow n u) t
  else t

/-- A part of a T4 tap; during LOADING nothing is stepped (R84, R173). -/
def runT4 (rdy : BitVec 12) (s : State) (p : T4Part) : State :=
  if loading s then s
  else match p with
    | .bays => bayT4 s
    | .fans => fansT4 rdy s
    | .bus => busT4 s

/-- R178: the part clock advances by 1, from its largest value to 0. -/
def clockT1 (s : State) : State := { s with time := { s.time with clock := s.time.clock + 1 } }

/-- R75: the coast of every channel at a T1 tap, driven or not. -/
def fansT1 (s : State) : State := { s with fan := { s.fan with channels := s.fan.channels.each coastTap } }

/-- R92, R99: the lighting controller at a T1 tap: stay-lit times in RUNNING, then the resend counter. -/
def lightsT1 (s : State) : State :=
  lightResendTap (if running s then (presentGroups s).foldl (fun t g => stayTap g t) s else s)

/-- R123, R130, R135: the guidance controller at a T1 tap: ages and rotation in RUNNING, then the resend counter. -/
def guideT1 (s : State) : State :=
  guideResendTap (if running s then rotationTap ((span 1 8).foldl (fun t v => levelTap v t) s) else s)

/-- R146: the override stack at a T1 tap. -/
def stackT1 (s : State) : State := expireEntries (setStack (s.ovr.stack.map Entry.tick) s)

/-- A part of a T1 tap; during LOADING only the part clock moves (R178) and the analog inputs are converted (R31). -/
def runT1 (ain : Tab (BitVec 10) 8) (s : State) (p : T1Part) : State :=
  match p with
  | .clock => clockT1 s
  | .sounder => if loading s then s else sounderTap s
  | .air => airTap ain s
  | .bays => bayT1 s
  | .fans => if loading s then s else fansT1 s
  | .lights => if loading s then s else lightsT1 s
  | .loops => loopT1 s
  | .guide => if loading s then s else guideT1 s
  | .stack => if loading s then s else stackT1 s

/-! ## Orders (assumption 4) -/

/-- The parts named by the sender, each once, then the others in the default order. -/
def orderOf {α : Type} [BEq α] (given default : List α) : List α := (given ++ default).eraseDups

def t32Default : List T32Part := [.loops, .keys, .paths]
def t4Default : List T4Part := [.bays, .fans, .bus]
def t1Default : List T1Part := [.clock, .sounder, .air, .bays, .fans, .lights, .loops, .guide, .stack]

def tapT32 (loops : BitVec 8) (keys : BitVec 2) (order : List T32Part) (s : State) : State :=
  fillSlots ((orderOf order t32Default).foldl (runT32 loops keys) s)

def tapT4 (rdy : BitVec 12) (order : List T4Part) (s : State) : State :=
  fillSlots ((orderOf order t4Default).foldl (runT4 rdy) s)

def tapT1 (ain : Tab (BitVec 10) 8) (order : List T1Part) (s : State) : State :=
  fillSlots ((orderOf order t1Default).foldl (runT1 ain) s)

/-! ## The crystal cycle (R174, R176, R177) -/

/-- R176: the cycles of a correction window. -/
def windowCycles : Nat := 1048576

/-- R176: is the cycle numbered `n` of a window adjusted under correction `c`? -/
def adjusted (c : Int) (n : Nat) : Bool :=
  let m := c.natAbs
  m != 0 && n % (windowCycles / m) == 0 && decide (1 ≤ n / (windowCycles / m)) && decide (n / (windowCycles / m) ≤ m)

/-- R174, R176: the counts the prescaler advances at cycle `n`. -/
def advance (c : Int) (n : Nat) : Nat :=
  if adjusted c n then (if c > 0 then 2 else 0) else 1

/-- R177: the correction in force and the next correction, as a window begins. -/
def Time.newWindow (t : Time) : Time :=
  match t.nextCorrection with
  | some c => { t with correction := c, nextCorrection := none }
  | none => t

/-- R174: the tap positions of `d` counts passed in going `k` counts on from position `p`. -/
def passes (d p k : Nat) : Bool := (p + k) / d != p / d

/-- R177: the timebase as a crystal cycle comes: at cycle 1 a window begins, unless CORRECTION_WINDOW has begun it
already (assumption 33). -/
def Time.atCycle (t : Time) : Time := if t.cycle = 1 ∧ t.begun = false then t.newWindow else t

/-- R174, R176: one crystal cycle of the timebase. -/
def Time.tick (t : Time) : Time :=
  let u := t.atCycle
  { u with
    prescaler := (u.prescaler + advance u.correction u.cycle) % 32768
    cycle := u.cycle % windowCycles + 1
    begun := false }

/-- The levels of the loop inputs as last read. -/
def loopLevels (s : State) : BitVec 8 :=
  BitVec.ofBoolListLE ((s.loops.inputs.list.map (·.level)).take 8) |>.setWidth 8

/-- The levels of the key inputs as last read. -/
def keyLevels (s : State) : BitVec 2 := BitVec.ofBoolListLE (s.ovr.keys.list.map (·.level)) |>.setWidth 2

/-- The levels of the ready inputs as last read. -/
def readyLevels (s : State) : BitVec 12 := BitVec.ofBoolListLE (s.fan.channels.list.map (·.rdy)) |>.setWidth 12

/-- The conversions of the analog inputs as last made. -/
def analogCounts (s : State) : Tab (BitVec 10) 8 :=
  Tab.build 8 (fun n => BitVec.ofNat 10 (s.air.sensors.nth n).raw)

/-- R174: the taps given as the prescaler goes `k` counts on, as commands with the inputs as last read (assumption 3).
A T1 position is also a T4 and a T32 position. -/
def tapsPassed (s : State) (k : Nat) : List Instr :=
  let p := s.time.prescaler
  (if passes 1024 p k then [.t32Tap (loopLevels s) (keyLevels s) []] else [])
  ++ (if passes 8192 p k then [.t4Tap (readyLevels s) []] else [])
  ++ (if passes 32768 p k then [.t1Tap (analogCounts s) []] else [])

/-- R174, R176: the part with no command waiting: one crystal cycle passes, and the taps it gives join the queue. -/
def crystalCycle (s : State) : State :=
  let u := s.time.atCycle
  { s with
    time := s.time.tick
    pending := s.pending ++ tapsPassed s (advance u.correction u.cycle) }

end Sys2Proof.Machine
end

