-- ==== Sys2Proof/Machine/LinkOps.lean ====
section
/-! DEFINITION. The service link (chapter 11): the arrival of requests and broadcasts, and the bytes that records and
notices take in a reply. -/

namespace Sys2Proof.Machine

/-- The outcome every meaning of this model gives but for an index the part does not have. -/
abbrev Out := Host.Outcome State Fault Refusal

/-- An event of thing `i` of `n`: the part has no thing with a larger index (assumption 25). -/
def within (i n : Nat) (s : State) : Out := if i < n then .next s else .fault .noSuchIndex

/-! ## Requests (R194 to R196) -/

/-- R195, R196: a complete request for the part arrives: it discards a pending reply, and a RESET whose reply it
discards, or whose reset is still due, carries out its reset first, with the straps read as the pins stand (R192,
assumption 14). -/
def arrive (s : State) : State :=
  let t := if s.link.resetDue then resetCommanded s.link.pins s else s
  { t with link := { t.link with reply := none, receiver := .hunting } }

/-- R195: a request of kind code `kind`. While DE is raised the part discards what its receiver sees (R192). In LOADING
every request but IDENTIFY and GET_STATUS (`always`) is BUSY; a body that does not fit is BAD_LENGTH; otherwise the
request's own rule runs. -/
def request {α : Type} (kind : Nat) (always : Bool) (r : Req α) (rule : α → State → State) (s : State) : State :=
  if s.link.de then s
  else
    let t := arrive s
    if loading t && !always then answer kind .busy [] t
    else match r with
      | .misfit => answer kind .badLength [] t
      | .fits x => rule x t

/-- R165: a rule after which waiting destinations are taken into free transmit slots. -/
def thenFill {α : Type} (rule : α → State → State) (x : α) (s : State) : State := fillSlots (rule x s)

/-- R194: a broadcast that the part executes without reply; a pending reply stays pending (R195). In LOADING, and when
its body does not fit, it is ignored. -/
def broadcastIn {α : Type} (r : Req α) (rule : α → State → State) (s : State) : State :=
  if s.link.de then s
  else
    let t := { s with link := { s.link with receiver := .hunting } }
    if loading t then t
    else match r with
      | .misfit => t
      | .fits x => rule x t

/-- R188: a rule that is refused with BUSY while an image store is in progress. -/
def unlessStoring (kind : Nat) (rule : State → State) (s : State) : State :=
  if storing s then answer kind .busy [] s else rule s

/-- A rule that is refused with BAD_STATE outside RUNNING. -/
def inRunning (kind : Nat) (rule : State → State) (s : State) : State :=
  if running s then rule s else answer kind .badState [] s

/-! ## Bytes of replies (section 11.8; assumptions 8 and 9) -/

/-- The index of a record named in a reply: two bytes for bays, one byte for the others. -/
def indexBytes (r : RecRef) : List Byte :=
  match r.kind with
  | .bay | .closure => u16 r.index
  | _ => u8 r.index

/-- A record named in a reply: its kind, its index, and the face of a FACE or the way of a map entry. DESIGN CHOICE
(assumption 9): the kinds that R185 does not list are bay closure 13, dimming table 14 and detector map 15. -/
def refBytes (r : RecRef) : List Byte :=
  u8 r.kind.ctorIdx ++ indexBytes r ++ (match r.kind with
    | .face | .map => u8 r.sub
    | _ => [])

/-- R186: the fields of an INVALID reply. -/
def invalidBytes (r : RecRef) (why : InvalidReason) : List Byte := refBytes r ++ u8 why.ctorIdx

/-- R183: the code of a fallback reason, in the order of its table. -/
def reasonCode : FallbackReason → Nat
  | .noImage => 0
  | .headerCrc => 1
  | .version => 2
  | .bodyCrc => 3
  | .record _ => 4
  | .invalid _ => 5

/-- R191: the fallback reason, with its record for RECORD and INVALID. DEDUCED (assumption 8): the record takes no presence
byte, since the reason tells whether it is sent. -/
def reasonBytes (r : FallbackReason) : List Byte :=
  u8 (reasonCode r) ++ (match r with
    | .record x | .invalid x => refBytes x
    | .noImage | .headerCrc | .version | .bodyCrc => [])

/-- The address field of a record: three bytes. -/
def addrBytes (a : Addr) : List Byte := u24 a

/-- A set in two bytes. -/
def maskBytes (m : BitVec 16) : List Byte := u16 m.toNat

/-- A list is preceded by the number of its items. -/
def listBytes {α : Type} (f : α → List Byte) (l : List α) : List Byte := u8 l.length ++ l.flatMap f

/-! R185: the fields of each record kind, in the order its chapter names them (assumption 8). -/

/-- The PARAMS record. R185 gives its values no order. DESIGN CHOICE (assumption 39): they stand in the order of the
chapters, those of the air job as R55 lists them, those of the fan job as R61 lists them. -/
def paramsBytes (p : Params) : List Byte :=
  u8 p.settle
  ++ u16 p.shortCo ++ u16 p.shortNo2 ++ u16 p.longCo ++ u16 p.longNo2
  ++ u8 p.arrival ++ u8 p.departure ++ u8 p.passage ++ p.curve.list.flatMap u16
  ++ u16 p.elevated ++ u16 p.high ++ u16 p.alarm ++ u8 p.hysteresis ++ u16 p.alarmHold
  ++ u16 p.startLevel ++ u16 p.stopLevel ++ u16 p.minRun ++ u16 p.rampStep ++ u8 p.readyTimeout ++ u8 p.readyLoss
  ++ u16 p.dwell ++ u16 p.fallbackSpeed ++ u8 p.sounderDiv ++ u8 p.bitRate ++ flag p.attnHigh

def zoneBytes (r : ZoneRec) : List Byte :=
  flag r.present ++ u16 r.bayBase ++ u16 r.bayCount ++ u16 r.fallbackDemand ++ u8 r.darkLimit

/-- R29: the source of an analog slot is its input, so no address is sent for it, and a field slot has no counts (DESIGN
CHOICE, assumption 45). -/
def sensorBytes (n : Nat) (r : SensorRec) : List Byte :=
  flag r.present ++ u8 r.gas.ctorIdx ++ u8 r.zone ++ (if isField n then addrBytes r.source else [])
  ++ u16 r.warmup ++ (if isField n then [] else u16 r.zero ++ u16 r.span) ++ u16 r.fullScale ++ u8 r.k

def fanBytes (r : FanRec) : List Byte :=
  flag r.present ++ u8 r.owner ++ listBytes u8 r.assist ++ u8 r.weight ++ r.dirs.list.flatMap (fun d => u8 d.ctorIdx)

def groupBytes (r : GroupRec) : List Byte :=
  flag r.present ++ u8 r.zone ++ addrBytes r.addr ++ optField (fun b => u16 b.1 ++ u16 b.2) r.bays
  ++ u8 r.base ++ u8 r.presence ++ u16 r.stayLit ++ u8 r.fade

def presenceBytes (r : PresenceRec) : List Byte := flag r.present ++ addrBytes r.addr ++ u8 r.group

def pathBytes (r : PathRec) : List Byte :=
  flag r.present ++ u8 r.pair ++ u8 r.startDelay ++ u8 r.step ++ listBytes u8 r.groups

def pairBytes (r : PairRec) : List Byte :=
  flag r.present ++ u8 r.inA ++ optField u8 r.inB ++ u8 r.role.ctorIdx ++ u8 r.zone ++ optField u8 r.sign

def signBytes (r : SignRec) : List Byte := flag r.present ++ addrBytes r.addr ++ optField u8 r.pair

def candidateBytes (c : Candidate) : List Byte := maskBytes c.zones ++ u8 c.arrow.toNat

/-- R124: the fields that belong to the face's kind; the others are not sent (DESIGN CHOICE, assumption 45). -/
def faceBytes (r : FaceRec) : List Byte :=
  flag r.present ++ u8 r.kind.ctorIdx ++ (match r.kind with
    | .count => maskBytes r.zones ++ u8 r.kinds.toNat
    | .level => u8 r.level
    | .decision => u8 r.kinds.toNat ++ listBytes candidateBytes r.candidates ++ u8 r.minFree
    | .blank => [])

/-- R158: the fields that belong to the filter's mode; the others are not sent (DESIGN CHOICE, assumption 45). -/
def filterBytes (r : FilterRec) : List Byte :=
  flag r.enabled ++ u8 r.mode.ctorIdx ++ (match r.mode with
    | .exact => addrBytes r.code.toNat
    | .mask => addrBytes r.code.toNat ++ addrBytes r.mask.toNat
    | .range => addrBytes r.low.toNat ++ addrBytes r.high.toNat)

/-- R148: the fields that belong to the input's role; the others are not sent (DESIGN CHOICE, assumption 45). -/
def inputBytes (r : InputRec) : List Byte :=
  u8 r.role.ctorIdx ++ (match r.role with
    | .boost => maskBytes r.zones ++ u16 r.value
    | .close => maskBytes r.zones
    | .profile => u8 r.value
    | .mute | .noRole => [])

/-- R140: an override entry, with the scope and value of its kind. -/
def entryBytes (e : Entry) : List Byte :=
  u8 e.id ++ u8 e.kind.ctorIdx
  ++ (if scopeKind e.kind = .unscoped then [] else maskBytes e.scope)
  ++ (match e.kind with
    | .fanForce | .ventBoost => u16 e.value
    | .profile | .lightLevel => u8 e.value
    | .zoneClose | .sounderMute => [])
  ++ optField u16 e.remaining ++ u8 e.source.ctorIdx

/-- R125: the value of a face: symbol, number or its absence, arrow code or its absence. -/
def faceValueBytes (v : FaceValue) : List Byte :=
  match v with
  | .blank => u8 0 ++ u8 0 ++ u8 0
  | .number n => u8 1 ++ u8 1 ++ u16 n ++ u8 0
  | .full => u8 2 ++ u8 0 ++ u8 0
  | .closed => u8 3 ++ u8 0 ++ u8 0
  | .arrow n c => u8 4 ++ u8 1 ++ u16 n ++ u8 1 ++ u8 c.toNat

def driveBytes (d : Drive) : List Byte := u16 d.output ++ u8 d.fade

/-! ## Notice records (section 11.8) -/

/-- The value of a notice in four bytes, but for the high byte of a bay subject. DESIGN CHOICE (assumption 9): the codes
of the values that section 11.8 does not list, INPUT_PENDING's among them. -/
def noticeValue : Notice → List Byte
  | .airState _ st => u32 st.ctorIdx
  | .sensorState _ st => u32 st.ctorIdx
  | .fanState _ st why => u8 st.ctorIdx ++ u8 ((why.map (·.ctorIdx)).getD 0xFF) ++ u16 0
  | .ventLost _ lost => u32 (if lost then 0 else 1)
  | .forcedBelow _ target => u32 target
  | .bayDetector b why => u8 (b / 256) ++ u24 why.ctorIdx
  | .reservationEnd b o => u8 (b / 256) ++ u24 o.ctorIdx
  | .loopState _ stuck => u32 (if stuck then LoopState.stuck.ctorIdx else LoopState.clear.ctorIdx)
  | .groupState _ st => u32 st.ctorIdx
  | .zoneDark _ dark => u32 (if dark then 0 else 1)
  | .zoneGuidance _ st => u8 st.status.ctorIdx ++ u8 st.reason.ctorIdx ++ u16 0
  | .signState _ st => u32 st.ctorIdx
  | .levelStale _ stale => u32 (if stale then 0 else 1)
  | .restarted commanded => u32 (if commanded then 1 else 0)
  | .configState st why => u8 st.ctorIdx ++ u8 ((why.map reasonCode).getD 0xFF) ++ u16 0
  | .storeDone o id progress =>
    u16 id.toNat ++ u16 (progress + (match o with | .ok => 0 | .failed => 0x8000))
  | .fieldState st => u32 st.ctorIdx
  | .unknownDevice _ a type => u8 type.ctorIdx ++ u24 a
  | .unknownOverflow => u32 0xFFFFFFFF
  | .overrideEnd _ cancelled => u32 (if cancelled then 1 else 0)
  | .inputPending _ v => u32 v.ctorIdx

/-- Section 11.8: the ten bytes of a notice record. -/
def noticeBytes (q : Queued) : List Byte :=
  u8 (noticeKind q.notice) ++ u8 (noticeSubject q.notice % 256) ++ noticeValue q.notice ++ u32 q.second.toNat

end Sys2Proof.Machine
end

