-- ==== Sys2Proof/Machine/AirEvents.lean ====
section
/-! DEFINITION. Meanings: the events of the air monitor whose counts end at T1 taps (assumptions 1 and 2). -/

namespace Sys2Proof.Machine

/-- R32, R35: the state and last value of a present sensor whose warm-up remaining reached 0, as the sensor stage of
the same sample forms them. The filter advances in the sample itself (R37). -/
def evaluated (n : Nat) (r : SensorRec) (x : Sensor) : Sensor :=
  if isField n then rederived x
  else
    let (st, c) := convert r x.raw
    { x with state := st, last := c.or x.last }

/-- R31, R33: a present sensor's warm-up remaining ends, its input converted as `raw`. -/
def endWarmup (n : Nat) (raw : BitVec 10) (s : State) : State :=
  let r := s.cfg.inForce.sensors.nth n
  let x := s.air.sensors.nth n
  if loading s = false ∧ r.present ∧ x.warmup = 1 then
    let y := { x with warmup := 0, raw := if isField n then x.raw else raw.toNat }
    if running s then takeSensorState n (evaluated n r y) s else setSensor n y s
  else s

/-- WARMUP_END (R33). -/
def execWarmupEnd (slot : Nat) (raw : BitVec 10) (s : State) : Out := within slot 32 (endWarmup slot raw s)

/-- R35: a present field sensor's silence count reaches 10. -/
def fallSilent (n : Nat) (s : State) : State :=
  let x := s.air.sensors.nth n
  if running s ∧ (s.cfg.inForce.sensors.nth n).present ∧ isField n ∧ x.silence = 9 then
    takeSensorState n (rederived { x with silence := 10 }) s
  else s

/-- SENSOR_SILENT (R35). -/
def execSensorSilent (slot : Nat) (s : State) : Out := within slot 32 (fallSilent slot s)

/-- R40: the dose ring of a zone whose sample number stands at 0 advances. -/
def ringEvent (z : Nat) (s : State) : State :=
  let x := s.air.zones.nth z
  if running s ∧ zonePresent s.cfg.inForce z ∧ x.sample = 0 then setZoneAir z (advanceRing x) s else s

/-- DOSE_RING_ADVANCE (R40). -/
def execDoseRingAdvance (zone : Nat) (s : State) : Out := within zone 16 (ringEvent zone s)

/-- R43: the emission credit of a zone decays at a sample numbered a multiple of 4. -/
def decayEvent (z : Nat) (s : State) : State :=
  let x := s.air.zones.nth z
  if running s ∧ zonePresent s.cfg.inForce z ∧ x.sample % 4 = 0 then setZoneAir z { x with e := decay x.e } s else s

/-- CREDIT_DECAY (R43). -/
def execCreditDecay (zone : Nat) (s : State) : Out := within zone 16 (decayEvent zone s)

/-- R52: the alarm-hold remaining of a zone in ALARM reaches 0; the sample of the same tap evaluates the zone. -/
def holdEvent (z : Nat) (s : State) : State :=
  let x := s.air.zones.nth z
  if running s ∧ zonePresent s.cfg.inForce z ∧ x.state = .alarm ∧ x.hold = 1 then setZoneAir z { x with hold := 0 } s
  else s

/-- ALARM_HOLD_END (R52). -/
def execAlarmHoldEnd (zone : Nat) (s : State) : Out := within zone 16 (holdEvent zone s)

end Sys2Proof.Machine
end

