-- ==== Sys2Proof/Machine/BusEvents.lean ====
section
/-! DEFINITION. Meanings: offering, the ends of attempts and the recovery of the bus (sections 8.7 and 8.8), and the
steps of an image store (section 10.6). -/

namespace Sys2Proof.Machine

/-- FRAME_OFFER (R167): with no attempt in progress, the filled slot with the lowest identifier is offered. -/
def execFrameOffer (s : State) : Out :=
  .next (if receives s ∧ (tryingSlot s.bus).isNone then
      match lowestSlot s.bus with
      | some (i, x) => putSlot i (some { x with trying := true }) s
      | none => s
    else s)

/-- The end of the attempt in progress, if there is one; the freed slot is then open to a waiting destination (R165). -/
def endAttempt (effect : Nat → Slot → State → State) (s : State) : State :=
  match tryingSlot s.bus with
  | some (i, x) => if receives s then fillSlots (effect i x s) else s
  | none => s

/-- ARBITRATION_LOST (R167). -/
def execArbitrationLost (s : State) : Out := .next (endAttempt arbitrationLoses s)

/-- ATTEMPT_SUCCESS (R168). -/
def execAttemptSuccess (s : State) : Out := .next (endAttempt attemptSucceeds s)

/-- ATTEMPT_FAILED (R169). -/
def execAttemptFailed (s : State) : Out := .next (endAttempt attemptFails s)

/-- BUS_OFF_RECOVERY (R171): the fourth T4 tap in OFF. -/
def execBusOffRecovery (s : State) : Out :=
  .next (if loading s = false ∧ s.bus.state = .off ∧ s.bus.offTaps = 3 then fillSlots (recoverBus s) else s)

/-- STORE_PAGE_DONE (R188). -/
def execStorePageDone (s : State) : Out :=
  .next (match s.cfg.activity with
    | .storing n id b =>
      if n < 257 then
        { s with cfg := { s.cfg with
            activity := .storing (n + 1) id b, memory := memoryWritten s.cfg.memory (n + 1) id b } }
      else s
    | .idle => s)

/-- STORE_READBACK_DONE (R188, R189). -/
def execStoreReadbackDone (agrees : Bool) (s : State) : Out :=
  .next (match s.cfg.activity with
    | .storing n id b =>
      if n = 257 then
        if agrees then endStore .ok n id s.cfg.memory s
        else endStore .failed n id (memoryFailed s.cfg.memory n id b) s
      else s
    | .idle => s)

/-- STORE_PAGE_TIMEOUT (R189). -/
def execStorePageTimeout (s : State) : Out :=
  .next (match s.cfg.activity with
    | .storing n id b => if n < 257 then endStore .failed n id (memoryFailed s.cfg.memory n id b) s else s
    | .idle => s)

end Sys2Proof.Machine
end

