-- ==== Sys2Proof/Machine/ConfigRequests.lean ====
section
/-! DEFINITION. Meanings: the requests of the configuration unit and of the dimming table (sections 10.3 to 10.6, R95). -/

namespace Sys2Proof.Machine

/-! ## Opening, closing and storing -/

/-- R184. -/
def openConfig (s : State) : State :=
  if storing s then answer 0x10 .busy [] s
  else match s.cfg.state with
    | .fallback | .running => answer 0x10 .ok [] (enterEditing s)
    | .editing => answer 0x10 .badState [] s
    | .loading => answer 0x10 .busy [] s

/-- CONFIG_OPEN (R184). -/
def execConfigOpen (r : Req Unit) (s : State) : Out := .next (request 0x10 false r (thenFill fun _ t => openConfig t) s)

/-- R186, R187. -/
def closeConfig (s : State) : State :=
  if s.cfg.state = .editing then
    match validate s.cfg.working s.cfg.map with
    | some (r, why) => answer 0x13 .invalid (invalidBytes r why) s
    | none => answer 0x13 .ok [] (enterRunning { s with cfg := { s.cfg with imageCurrent := false } })
  else answer 0x13 .badState [] s

/-- CONFIG_CLOSE (R186, R187). -/
def execConfigClose (r : Req Unit) (s : State) : Out := .next (request 0x13 false r (thenFill fun _ t => closeConfig t) s)

/-- The configuration a store writes: the working configuration as it stands (R188). -/
def workingBody (c : ConfigUnit) : Body := ⟨c.working, c.closed, c.dimming, c.map⟩

/-- R188. -/
def storeConfig (id : BitVec 16) (s : State) : State :=
  unlessStoring 0x14 (inRunning 0x14 (fun t =>
    answer 0x14 .ok [] { t with cfg := { t.cfg with activity := .storing 0 id (workingBody t.cfg) } })) s

/-- CONFIG_STORE (R188). -/
def execConfigStore (r : Req (BitVec 16)) (s : State) : Out := .next (request 0x14 false r storeConfig s)

/-! ## Writing and reading records (R185) -/

/-- An index within the range of its kind, or BAD_INDEX. -/
def indexed {α : Type} (i n : Nat) (x : Except Result α) : Except Result α := if i < n then x else .error .badIndex

/-- A taken record put in its place, with its bytes for the reply. -/
def storeRecord {α : Type} (taken : Except Result α) (put : α → Cfg) (bytes : α → List Byte) :
    Except Result (Cfg × List Byte) :=
  match taken with
  | .ok x => .ok (put x, bytes x)
  | .error e => .error e

/-- R185: a list of bay kinds for consecutive bays, cut short at bay 511. -/
def writeKinds (first : Nat) (kinds : List BayKind) (t : Tab BayKind 512) : Tab BayKind 512 :=
  (kinds.zipIdx).foldl (fun t x => t.put (first + x.2) x.1) t

/-- R124: a SIGN record without its faces. -/
def takeSign (present : Bool) (addr : Addr) (pair : Option Nat) (old : SignRec) : Except Result SignRec :=
  if pair.any (· > 3) ∨ isDevice addr = false then .error .badIndex
  else .ok { old with present := present, addr := addr, pair := pair }

/-- R185: the number of records of a kind, counted from index 0. -/
def kindSize : RecKind → Nat
  | .params => 1
  | .zone => 16
  | .bay => 512
  | .sensor => 32
  | .fan => 12
  | .group => 48
  | .presence => 32
  | .path => 4
  | .pair => 4
  | .sign => 24
  | .face => 24
  | .filter => 8
  | .input => 3
  | .closure | .dimming | .map => 0

/-- R185: is an index within the range of a record kind? ZONE 0 is not; inputs are 1 and 2; a face is 0..3. -/
def indexFits (kind : RecKind) (i sub : Nat) : Bool :=
  i < kindSize kind && (match kind with
    | .zone | .input => i != 0
    | .face => sub < 4
    | _ => true)

/-- R185: what a CONFIG_WRITE makes of the working configuration, with the record as stored, or its refusal. -/
def writeRecord (w : CfgWrite) (c : Cfg) : Except Result (Cfg × List Byte) :=
  match w with
  | .params i r => indexed i 1 (storeRecord (takeParams r) (fun x => { c with params := x }) paramsBytes)
  | .zone i r =>
    if indexFits .zone i 0 then storeRecord (takeZone r) (fun x => { c with zones := c.zones.put i x }) zoneBytes
    else .error .badIndex
  | .bay first kinds =>
    if first > 511 then .error .badIndex
    else if kinds.length = 0 ∨ kinds.length > 32 then .error .badLength
    else .ok ({ c with kinds := writeKinds first kinds c.kinds },
      listBytes (fun k => u8 k.ctorIdx) (kinds.take (512 - first)))
  | .sensor i r =>
    indexed i 32 (storeRecord (takeSensor i r) (fun x => { c with sensors := c.sensors.put i x }) (sensorBytes i))
  | .fan i r => indexed i 12 (storeRecord (takeFan r) (fun x => { c with fans := c.fans.put i x }) fanBytes)
  | .group i r => indexed i 48 (storeRecord (takeGroup r) (fun x => { c with groups := c.groups.put i x }) groupBytes)
  | .presence i r =>
    indexed i 32 (storeRecord (takePresence r) (fun x => { c with presence := c.presence.put i x }) presenceBytes)
  | .path i r => indexed i 4 (storeRecord (takePath r) (fun x => { c with paths := c.paths.put i x }) pathBytes)
  | .pair i r => indexed i 4 (storeRecord (takePair r) (fun x => { c with pairs := c.pairs.put i x }) pairBytes)
  | .sign i present addr pair =>
    indexed i 24 (storeRecord (takeSign present addr pair (c.signs.nth i))
      (fun x => { c with signs := c.signs.put i x }) signBytes)
  | .face i f r =>
    if indexFits .face i f then
      storeRecord (takeFace r)
        (fun x => { c with signs := c.signs.modify i (fun g => { g with faces := g.faces.put f x }) }) faceBytes
    else .error .badIndex
  | .filter i r =>
    indexed i 8 (storeRecord (.ok (takeFilter r)) (fun x => { c with filters := c.filters.put i x }) filterBytes)
  | .input i r =>
    if indexFits .input i 0 then
      storeRecord (.ok (takeInput r)) (fun x => { c with inputs := c.inputs.put (i - 1) x }) inputBytes
    else .error .badIndex
  | .unknownKind => .error .badIndex
  | .misfit kind i sub => if indexFits kind i sub then .error .badLength else .error .badIndex

/-- R185: a CONFIG_WRITE in EDITING; a refused record leaves the working configuration as it was. A body too short to
name a record is refused with BAD_LENGTH at the same place. -/
def writeConfig (q : Req CfgWrite) (s : State) : State :=
  if s.cfg.state = .editing then
    match q with
    | .misfit => answer 0x11 .badLength [] s
    | .fits w =>
      match writeRecord w s.cfg.working with
      | .ok (c, bytes) => answer 0x11 .ok bytes { s with cfg := { s.cfg with working := c } }
      | .error e => answer 0x11 e [] s
  else answer 0x11 .badState [] s

/-- CONFIG_WRITE (R185). -/
def execConfigWrite (r : Req CfgWrite) (s : State) : Out := .next (request 0x11 false (.fits r) writeConfig s)

/-- R185: the kinds of `n` consecutive bays, 1..32 of them, cut short at bay 511. -/
def readKinds (c : Cfg) (first n : Nat) : List BayKind :=
  ((List.range (min (clamp 1 32 n) (512 - first))).map (fun i => c.kinds.nth (first + i)))

/-- R185: the fields of a record of a configuration. -/
def recordBytes (c : Cfg) (kind : RecKind) (i sub : Nat) : List Byte :=
  match kind with
  | .params => paramsBytes c.params
  | .zone => zoneBytes (c.zones.nth i)
  | .bay => listBytes (fun k => u8 k.ctorIdx) (readKinds c i sub)
  | .sensor => sensorBytes i (c.sensors.nth i)
  | .fan => fanBytes (c.fans.nth i)
  | .group => groupBytes (c.groups.nth i)
  | .presence => presenceBytes (c.presence.nth i)
  | .path => pathBytes (c.paths.nth i)
  | .pair => pairBytes (c.pairs.nth i)
  | .sign => signBytes (c.signs.nth i)
  | .face => faceBytes ((c.signs.nth i).faces.nth sub)
  | .filter => filterBytes (c.filters.nth i)
  | .input => inputBytes (c.inputs.nth (i - 1))
  | .closure | .dimming | .map => []

/-- R185: a CONFIG_READ of the working configuration. -/
def readConfig (q : CfgRead) (s : State) : State :=
  match q with
  | .record kind i sub =>
    if indexFits kind i sub then answer 0x12 .ok (recordBytes s.cfg.working kind i sub) s
    else answer 0x12 .badIndex [] s
  | .unknownKind => answer 0x12 .badIndex [] s
  | .misfit kind i sub =>
    if indexFits kind i sub then answer 0x12 .badLength [] s else answer 0x12 .badIndex [] s

/-- CONFIG_READ (R185). -/
def execConfigRead (r : Req CfgRead) (s : State) : Out := .next (request 0x12 false r readConfig s)

/-! ## The dimming table (R95) -/

/-- R94, R95: the wanted value of a group formed again for its current level; the group is marked when it differs from
sent. -/
def rewantGroup (g : Nat) (s : State) : State :=
  let x := s.light.groups.nth g
  let y := { x with wanted := ⟨s.cfg.dimming.nth x.level, x.fade⟩ }
  note (.group g) (y.sent != some y.wanted) (setGroup g y s)

/-- R95: sixteen entries of the dimming table, each clamped. -/
def writeOutputs (block : Nat) (outputs : List Nat) (t : Tab Nat 256) : Tab Nat 256 :=
  (outputs.zipIdx).foldl (fun t x => t.put (16 * block + x.2) (clamp 0 1023 x.1)) t

/-- R95: the present groups whose current level lies in a block. -/
def blockGroups (s : State) (block : Nat) : List Nat :=
  (presentGroups s).filter (fun g => (s.light.groups.nth g).level / 16 == block)

/-- R95: a CURVE_WRITE that is taken. -/
def takeCurve (block : Nat) (outputs : List Nat) (s : State) : State :=
  let t := { s with cfg := { s.cfg with
    dimming := writeOutputs block outputs s.cfg.dimming, imageCurrent := false } }
  (blockGroups t block).foldl (fun u g => rewantGroup g u) t

/-- R95: CURVE_WRITE by its table; outputs that are not sixteen, or that the rest of the body does not hold, are refused
after the block. A body without a block is refused with BAD_LENGTH. -/
def writeCurve (q : Req (Nat × Option (List Nat))) (s : State) : State :=
  unlessStoring 0x15 (inRunning 0x15 (fun t =>
    match q with
    | .misfit => answer 0x15 .badLength [] t
    | .fits (block, given) =>
      if block > 15 then answer 0x15 .badIndex [] t
      else match given with
        | none => answer 0x15 .badLength [] t
        | some outputs =>
          if outputs.length ≠ 16 then answer 0x15 .badLength [] t
          else answer 0x15 .ok [] (takeCurve block outputs t))) s

/-- CURVE_WRITE (R95). -/
def execCurveWrite (r : Req (Nat × Option (List Nat))) (s : State) : Out :=
  .next (request 0x15 false (.fits r) (thenFill writeCurve) s)

/-- R95: the sixteen entries of a block, sent as sixteen fields. DESIGN CHOICE (assumption 41): no count precedes them,
since their number is fixed. -/
def readCurve (block : Nat) (s : State) : State :=
  if block > 15 then answer 0x16 .badIndex [] s
  else answer 0x16 .ok ((List.range 16).flatMap (fun i => u16 (s.cfg.dimming.nth (16 * block + i)))) s

/-- CURVE_READ (R95). -/
def execCurveRead (r : Req Nat) (s : State) : Out := .next (request 0x16 false r readCurve s)

end Sys2Proof.Machine
end

