-- ==== Sys2Proof/Machine/FieldFrames.lean ====
section
/-! DEFINITION. Meanings: the received field frames (sections 8.1 to 8.3). -/

namespace Sys2Proof.Machine

/-- R157, R158: a frame from address `a` that the controller delivers; otherwise nothing happens. -/
def deliver (a : Addr) (effect : State → State) (s : State) : State :=
  if delivered s a then fillSlots (effect s) else s

/-- BAY_STATE (R6). -/
def execBayState (a : Addr) (d : Det) (h : Health) (s : State) : Out := .next (deliver a (takeBayState a d h) s)

/-- GAS_VALUE (R34). -/
def execGasValue (a : Addr) (g : GasReport) (s : State) : Out := .next (deliver a (takeGasValue a g) s)

/-- PED_PRESENCE (R91). -/
def execPedPresence (a : Addr) (p : Ped) (s : State) : Out := .next (deliver a (takePed a p) s)

/-- LUM_STATE (R101). -/
def execLumState (a : Addr) (h : Health) (s : State) : Out := .next (deliver a (takeLumState a h) s)

/-- SIGN_STATE (R133). -/
def execSignState (a : Addr) (h : Health) (s : State) : Out := .next (deliver a (takeSignState a h) s)

/-- ANNOUNCE (R160). -/
def execAnnounce (a : Addr) (type : DeviceType) (s : State) : Out := .next (deliver a (takeAnnounce a type) s)

/-- R157: a received frame that is discarded; a malformed one is counted. -/
def discardFrame (why : FrameDiscard) (s : State) : State :=
  match why with
  | .malformed =>
    if receives s then { s with bus := { s.bus with malformed := min (s.bus.malformed + 1) 65535 } } else s
  | .sentKind | .unknownKind | .notDevice => s

/-- FIELD_FRAME_DISCARDED (R157). -/
def execFieldFrameDiscarded (why : FrameDiscard) (s : State) : Out := .next (discardFrame why s)

end Sys2Proof.Machine
end

