-- ==== Sys2Proof/Machine/JobEvents.lean ====
section
/-! DEFINITION. Meanings: the events of the occupancy unit, lighting, the fan drive, the loop unit and guidance
(assumptions 1 and 2), and the start of a PWM period. -/

namespace Sys2Proof.Machine

/-! ## Occupancy unit -/

/-- R10: is the settle of a bay about to end? -/
def settleDue (s : State) (b : Nat) : Bool :=
  running s && (match (bayOf s b).pending with
    | some (_, n) => n == 1
    | none => false)

/-- SETTLE_EXPIRY (R10). -/
def execSettleExpiry (bay : Nat) (s : State) : Out :=
  within bay 512 (if settleDue s bay then fillSlots (settleTap bay s) else s)

/-- SILENCE_SCAN (R11): the scan counter comes round to 0. -/
def execSilenceScan (s : State) : Out :=
  .next (if running s ∧ s.occ.scan = 15 then fillSlots (scanTap s) else s)

/-- R17: is the reservation of a bay about to run out? -/
def reservationDue (s : State) (b : Nat) : Bool := running s && (bayOf s b).admin == .reserved 1

/-- RESERVATION_EXPIRY (R17). -/
def execReservationExpiry (bay : Nat) (s : State) : Out :=
  within bay 512 (if reservationDue s bay then fillSlots (reservationTap bay s) else s)

/-! ## Lighting -/

/-- STAY_LIT_END (R92). -/
def execStayLitEnd (group : Nat) (s : State) : Out :=
  within group 48 (if running s ∧ (s.cfg.inForce.groups.nth group).present ∧ (s.light.groups.nth group).stay = 1
    then fillSlots (stayTap group s) else s)

/-- R98: is the countdown of a path about to reach 0? -/
def pathDue (s : State) (p : Nat) : Bool :=
  running s && (match s.light.paths.nth p with
    | .running _ countdown => countdown == 1
    | .idle => false)

/-- PATH_STEP (R98). -/
def execPathStep (path : Nat) (s : State) : Out :=
  within path 4 (if pathDue s path then fillSlots (pathTap path s) else s)

/-- LIGHT_RESEND (R99, R103): the resend counter comes round to 0. -/
def execLightResend (s : State) : Out :=
  .next (if loading s = false ∧ s.light.resend = 63 then fillSlots (lightResendTap s) else s)

/-! ## Fan drive -/

/-- R70, R73: the channel that a T4 tap finding its ready input inactive would leave. -/
def unreadyStep (s : State) (n : Nat) : Channel :=
  stepChannel (params s) { s.fan.channels.nth n with rdy := false, aim := channelAim s n }

/-- R70, R73: is the ready count of a driven channel in one of the states `from_` about to end in FAULT? -/
def faultDue (s : State) (n : Nat) (from_ : List FanState) : Bool :=
  fanDriven s n && from_.contains (s.fan.channels.nth n).state && (unreadyStep s n).state == .fault

/-- READY_TIMEOUT (R70, R74). -/
def execReadyTimeout (fan : Nat) (s : State) : Out :=
  within fan 12 (if faultDue s fan [.starting] then fillSlots (fanTap fan false s) else s)

/-- READY_LOSS (R73, R74). -/
def execReadyLoss (fan : Nat) (s : State) : Out :=
  within fan 12 (if faultDue s fan [.running, .stopping] then fillSlots (fanTap fan false s) else s)

/-- COAST_END (R75). -/
def execCoastEnd (fan : Nat) (s : State) : Out :=
  within fan 12 (if loading s = false ∧ (s.fan.channels.nth fan).coast = 1
    then setChannel fan (coastTap (s.fan.channels.nth fan)) s else s)

/-- PWM_PERIOD_START (R78): the outputs of every channel take the reference last formed. -/
def execPwmPeriodStart (s : State) : Out :=
  .next { s with fan := { s.fan with channels := s.fan.channels.each takeReference } }

/-! ## Loop unit -/

/-- LOOP_OCCUPIED (R107): a supervised CLEAR loop is found active at its fourth T32 tap. -/
def execLoopOccupied (loop : Nat) (s : State) : Out :=
  let x := s.loops.inputs.nth loop
  within loop 8 (if loading s = false ∧ x.supervised ∧ x.state = .clear ∧ x.filter = 3
    then fillSlots (loopTapActive loop s) else s)

/-- LOOP_RELEASE (R108). -/
def execLoopRelease (loop : Nat) (s : State) : Out :=
  within loop 8 (if loading s then s else fillSlots (releaseLoop loop s))

/-- LOOP_STUCK (R109). -/
def execLoopStuck (loop : Nat) (s : State) : Out :=
  let x := s.loops.inputs.nth loop
  within loop 8 (if loading s = false ∧ x.state = .occupied ∧ x.occupied = 119
    then fillSlots (occupiedTap loop s) else s)

/-- SEQUENCE_TIMEOUT (R113). -/
def execSequenceTimeout (pair : Nat) (s : State) : Out :=
  let x := s.loops.pairs.nth pair
  within pair 4 (if loading s = false ∧ x.sequence ≠ .idle ∧ x.time = 29 then timeoutSequence pair s else s)

/-! ## Guidance -/

/-- ROTATION_ADVANCE (R130): the rotation counter comes round to 0. -/
def execRotationAdvance (s : State) : Out :=
  .next (if running s ∧ s.guide.rotation = 15 then fillSlots (rotationTap s) else s)

/-- GUIDANCE_RESEND (R123, R136): the resend counter comes round to 0. -/
def execGuidanceResend (s : State) : Out :=
  .next (if loading s = false ∧ s.guide.resend = 63 then fillSlots (guideResendTap s) else s)

/-- LEVEL_STALE (R135). -/
def execLevelStale (level : Nat) (s : State) : Out :=
  within level 8 (if running s ∧ (s.guide.levels.nth level).any (fun e => e.age = 119)
    then fillSlots (levelTap level s) else s)

end Sys2Proof.Machine
end

