-- ==== Sys2Proof/Machine/LinkEvents.lean ====
section
/-! DEFINITION. Meanings: what the receiver of the service link takes besides requests (sections 11.1 to 11.3), and the
start and end of a reply. -/

namespace Sys2Proof.Machine

/-- R192, R193: the receiver of a part that is not sending goes to a condition. -/
def receiverTo (r : Receiver) (s : State) : State :=
  if s.link.de then s else { s with link := { s.link with receiver := r } }

/-- FRAME_SYNC (R193): a 0xA5 in HUNTING starts a frame; in IN_FRAME it is data. -/
def execFrameSync (s : State) : Out := .next (receiverTo .inFrame s)

/-- FRAME_LEN_ABANDONED (R193): a LEN of 0 or above 251 abandons the frame. -/
def execFrameLenAbandoned (len : Byte) (s : State) : Out :=
  .next (if len = 0 ∨ len > 251 then receiverTo .hunting s else s)

/-- FRAME_GAP_TIMEOUT (R193). -/
def execFrameGapTimeout (s : State) : Out := .next (receiverTo .hunting s)

/-- FRAME_CRC_MISMATCH (R193). -/
def execFrameCrcMismatch (s : State) : Out := .next (receiverTo .hunting s)

/-- R194: is a complete frame of this ADDR and KIND ignored? -/
def ignored (s : State) (addr : Nat) (kind : Byte) : Bool :=
  if addr = nodeAddress s then decide (kind ≥ 0x80)
  else if addr = 0 then kind != 0x04 && kind != 0x45
  else true

/-- FRAME_IGNORED (R194). -/
def execFrameIgnored (addr : Nat) (kind : Byte) (s : State) : Out :=
  .next (if ignored s addr kind then receiverTo .hunting s else s)

/-- UNKNOWN_KIND (R195): a request for the part whose KIND is not one of the request kinds, in every configuration
state. -/
def execUnknownKind (kind : Byte) (s : State) : Out :=
  .next (if kind ≥ 0x80 ∨ requestKinds.contains kind.toNat ∨ s.link.de then s
    else answer kind.toNat .unknownKind [] (arrive s))

/-- REPLY_START (R195): the pending reply's first byte is put on the line, with DE raised (R192). -/
def execReplyStart (s : State) : Out :=
  .next (if s.link.de then s
    else match s.link.reply with
      | some r => { s with link := { s.link with reply := none, sending := some r, de := true } }
      | none => s)

/-- REPLY_END (R192): DE is lowered and the receiver resumes hunting. -/
def execReplyEnd (s : State) : Out :=
  .next (if s.link.de then { s with link := { s.link with sending := none, de := false, receiver := .hunting } } else s)

end Sys2Proof.Machine
end

