-- ==== Sys2Proof/Machine/StackRequests.lean ====
section
/-! DEFINITION. Meanings: FAN_CLEAR, LEVEL_COUNTS and the requests on the override stack (R76, R134, R142 to R145). -/

namespace Sys2Proof.Machine

/-! ## FAN_CLEAR -/

/-- R76. -/
def clearFan (n : Nat) (s : State) : State :=
  let x := s.fan.channels.nth n
  if n > 11 then answer 0x44 .badIndex [] s
  else if x.state = .fault then
    answer 0x44 .ok [] (takeChannel n { x with state := .stopped, reason := none, reference := 0 } s)
  else answer 0x44 .badState [] s

/-- FAN_CLEAR (R76). -/
def execFanClear (r : Req Nat) (s : State) : Out := .next (request 0x44 false r (thenFill clearFan) s)

/-! ## LEVEL_COUNTS -/

/-- R134, R135: one item is written; a write to a stale entry posts LEVEL_STALE (FRESH). -/
def writeLevel (s : State) (x : Nat × Nat) : State :=
  let t := setLevel x.1 (some ⟨clamp 0 9999 x.2, 0⟩) s
  if (s.guide.levels.nth x.1).any (fun e => e.age ≥ 120) then post (.levelStale x.1 false) t else t

/-- R134: the items are written in list order, then the LEVEL faces are formed again. -/
def writeLevels (items : List (Nat × Nat)) (s : State) : State :=
  guideLevels (items.map (·.1)) (items.foldl writeLevel s)

/-- R134: does every item name a level 1..7? -/
def levelsFit (items : List (Nat × Nat)) : Bool := items.all (fun x => decide (1 ≤ x.1) && decide (x.1 ≤ 7))

/-- R134: LEVEL_COUNTS addressed to the part. -/
def levelCountsRule (q : Req (List (Nat × Nat))) (s : State) : State :=
  inRunning 0x45 (fun t =>
    match q with
    | .misfit => answer 0x45 .badLength [] t
    | .fits items =>
      if items.length = 0 ∨ items.length > 7 then answer 0x45 .badLength [] t
      else if levelsFit items then answer 0x45 .ok (u8 items.length) (writeLevels items t)
      else answer 0x45 .badIndex [] t) s

/-- R134: LEVEL_COUNTS as a broadcast. -/
def levelCountsBroadcast (items : List (Nat × Nat)) (s : State) : State :=
  if running s ∧ items.length ≠ 0 ∧ items.length ≤ 7 ∧ levelsFit items then writeLevels items s else s

/-- LEVEL_COUNTS (R134, R194). -/
def execLevelCounts (broadcast : Bool) (r : Req (List (Nat × Nat))) (s : State) : Out :=
  .next (if broadcast then broadcastIn r (thenFill levelCountsBroadcast) s else request 0x45 false (.fits r) (thenFill levelCountsRule) s)

/-! ## The override stack -/

/-- R142: the entry of an OVERRIDE_PUSH. -/
def linkEntry (s : State) (k : OverrideKind) (q : PushReq) : Entry :=
  ⟨lowestFreeId s.ovr.stack, k, takeScope k q.scope, takeValue k q.value, q.remaining.map (clamp 1 65535), .link⟩

/-- R142. -/
def pushRule (q : PushReq) (s : State) : State :=
  match overrideKindOf q.kind with
  | none => answer 0x50 .badIndex [] s
  | some k =>
    if emptyScope k q.scope then answer 0x50 .badIndex [] s
    else if s.ovr.stack.length ≥ 8 then answer 0x50 .full [] s
    else answer 0x50 .ok (entryBytes (linkEntry s k q)) (pushEntry (linkEntry s k q) s)

/-- OVERRIDE_PUSH (R142). -/
def execOverridePush (r : Req PushReq) (s : State) : Out := .next (request 0x50 false r (thenFill pushRule) s)

/-- R143: the topmost entry of source LINK. -/
def topLink (stack : List Entry) : Option Entry := topmost stack (fun e => e.source == .link)

/-- R143. -/
def popRule (s : State) : State :=
  match topLink s.ovr.stack with
  | none => answer 0x51 .notFound [] s
  | some e => answer 0x51 .ok (entryBytes e) (removeEntries (fun x => x.id == e.id) s)

/-- OVERRIDE_POP (R143). -/
def execOverridePop (r : Req Unit) (s : State) : Out := .next (request 0x51 false r (thenFill fun _ t => popRule t) s)

/-- R144. -/
def removeRule (id : Nat) (s : State) : State :=
  match s.ovr.stack.find? (fun e => e.id == id) with
  | none => answer 0x52 .notFound [] s
  | some e =>
    if e.source = .link then answer 0x52 .ok (entryBytes e) (removeEntries (fun x => x.id == id) s)
    else answer 0x52 .badState [] s

/-- OVERRIDE_REMOVE (R144). -/
def execOverrideRemove (r : Req Nat) (s : State) : Out := .next (request 0x52 false r (thenFill removeRule) s)

/-- R145: how many targets an entry with the entries `above` it is effective for. -/
def targetCount (e : Entry) (above : List Entry) : Nat :=
  match e.kind with
  | .fanForce => ((maskFans e.scope).filter (fun n => !above.any (fun x => x.coversFan n))).length
  | .lightLevel => ((maskZones e.scope).filter (fun z => !above.any (fun x => x.coversZone .lightLevel z))).length
  | .profile | .sounderMute => if above.any (fun x => x.kind == e.kind) then 0 else 1
  | .ventBoost | .zoneClose => (maskZones e.scope).length

/-- R145: the entries from bottom to top, each with its number of targets. -/
def stackBytes : List Entry → List Byte
  | [] => []
  | e :: above => entryBytes e ++ u8 (targetCount e above) ++ stackBytes above

/-- The id of the entry a key input holds. -/
def heldId : KeyState → Option Nat
  | .held id => some id
  | .released | .pending | .spent => none

def keyCode : KeyState → Nat
  | .released => 0
  | .held _ => 1
  | .pending => 2
  | .spent => 3

/-- R145: a key input with its record in force. DESIGN CHOICE (assumption 9): an active level is sent as 1. -/
def keyBytes (s : State) (k : Nat) : List Byte :=
  let x := s.ovr.keys.nth k
  flag x.level ++ inputBytes (s.cfg.inForce.inputs.nth k) ++ u8 (keyCode x.state) ++ u8 x.filter
  ++ optField u8 (heldId x.state)

def sounderCode : Sounder → Nat
  | .silent => 0
  | .sounding _ => 1
  | .muted => 2

/-- R154: the phase, held while SOUNDING: ON is 0 and OFF is 1. -/
def phaseOf : Sounder → Option Nat
  | .sounding on => some (if on then 0 else 1)
  | .silent | .muted => none

/-- R145, R154. DEDUCED (assumption 8): the phase, cleared outside SOUNDING, is sent as a field that may be absent, behind
a presence byte. -/
def listRule (s : State) : State :=
  answer 0x53 .ok (u8 s.ovr.stack.length ++ stackBytes s.ovr.stack ++ keyBytes s 0 ++ keyBytes s 1
    ++ u8 (sounderCode s.ovr.sounder) ++ optField u8 (phaseOf s.ovr.sounder)) s

/-- OVERRIDE_LIST (R145). -/
def execOverrideList (r : Req Unit) (s : State) : Out := .next (request 0x53 false r (fun _ t => listRule t) s)

end Sys2Proof.Machine
end

