-- ==== Sys2Proof/Machine/LinkRequests.lean ====
section
/-! DEFINITION. Meanings: the requests of the service link and the timebase (R179, R180, R196, R198). -/

namespace Sys2Proof.Machine

/-! ## IDENTIFY, GET_STATUS and RESET (R196) -/

/-- R196: the vendor, family and part codes, the image format version, the node address and the baud rate. -/
def identityBytes (s : State) : List Byte :=
  Config.identityCodes ++ u16 0x0001 ++ u8 (nodeAddress s) ++ u24 (baudRate s)

/-- IDENTIFY (R196). -/
def execIdentify (r : Req Unit) (s : State) : Out :=
  .next (request 0x01 true r (fun _ t => answer 0x01 .ok (identityBytes t) t) s)

/-- R191: the image activity, with the progress and the id while STORING. DEDUCED (assumption 8): they take no presence
byte, since the activity tells whether they are sent. -/
def activityBytes : Activity → List Byte
  | .idle => u8 0
  | .storing n id _ => u8 1 ++ u16 n ++ u16 id.toNat

/-- R191: the configuration unit's fields. -/
def configStatusBytes (c : ConfigUnit) : List Byte :=
  u8 c.state.ctorIdx ++ optField reasonBytes c.reason ++ optField (fun i => u16 i.toNat) c.loadedId
  ++ flag c.imageCurrent ++ activityBytes c.activity ++ optField (fun o => u8 o.ctorIdx) c.lastStore

/-- R173: the field bus controller's fields. -/
def busStatusBytes (b : FieldBus) : List Byte :=
  u8 b.state.ctorIdx ++ u16 b.errors ++ u8 (filledSlots b).length ++ u8 b.calls.length ++ u8 b.unknown.length
  ++ flag b.overflow ++ u16 b.malformed ++ u16 b.givenUp

/-- R196: the reply to GET_STATUS. -/
def statusBytes (s : State) : List Byte :=
  configStatusBytes s.cfg ++ busStatusBytes s.bus ++ u8 (sounderCode s.ovr.sounder) ++ u8 (alarmZones s).length
  ++ u16 s.loops.count ++ u8 s.link.notices.length ++ flag s.link.lost ++ u8 s.link.classes.toNat
  ++ u32 s.time.clock.toNat

/-- GET_STATUS (R196). -/
def execGetStatus (r : Req Unit) (s : State) : Out :=
  .next (request 0x02 true r (fun _ t => answer 0x02 .ok (statusBytes t) t) s)

/-- R196: RESET is answered OK, and its reset is due; the strap pins have the levels `straps` from here on
(assumption 14). -/
def resetRule (straps : Straps) (s : State) : State :=
  let t := answer 0x03 .ok [] s
  { t with link := { t.link with pins := straps, resetDue := true } }

/-- RESET (R196). -/
def execReset (r : Req Straps) (s : State) : Out := .next (request 0x03 false r resetRule s)

/-! ## The clock (R177, R179, R180) -/

/-- R177: a correction clamped into its range. -/
def clampCorrection (c : Int) : Int := max (-127) (min 127 c)

/-- R179: the part clock is set, and the next correction when one is carried. -/
def setClockTo (q : BitVec 32 × Option Int) (s : State) : State :=
  { s with time := { s.time with
      clock := q.1
      clockSet := true
      nextCorrection := match q.2 with
        | some c => some (clampCorrection c)
        | none => s.time.nextCorrection } }

/-- R179: the correction in force and the next correction or its absence. -/
def correctionBytes (t : Time) : List Byte := i8 t.correction ++ optField i8 t.nextCorrection

/-- R179. -/
def setClockRule (q : BitVec 32 × Option Int) (s : State) : State :=
  let t := setClockTo q s
  answer 0x04 .ok (u32 t.time.clock.toNat ++ correctionBytes t.time) t

/-- SET_CLOCK (R179, R194). -/
def execSetClock (broadcast : Bool) (r : Req (BitVec 32 × Option Int)) (s : State) : Out :=
  .next (if broadcast then broadcastIn r setClockTo s else request 0x04 false r setClockRule s)

/-- GET_CLOCK (R180). -/
def execGetClock (r : Req Unit) (s : State) : Out :=
  .next (request 0x05 false r (fun _ t =>
    answer 0x05 .ok (u32 t.time.clock.toNat ++ flag t.time.clockSet ++ correctionBytes t.time) t) s)

/-! ## Notices (R198) -/

/-- R198: the notices taken are removed, and LOST is read and cleared. -/
def fetchRule (s : State) : State :=
  let taken := s.link.notices.take 12
  let left := s.link.notices.drop 12
  answer 0x60 .ok (flag s.link.lost ++ u8 left.length ++ u8 taken.length ++ taken.flatMap noticeBytes)
    { s with link := s.link.withQueue left false }

/-- FETCH_NOTICES (R198). -/
def execFetchNotices (r : Req Unit) (s : State) : Out := .next (request 0x60 false r (fun _ t => fetchRule t) s)

/-- R198: does a queued notice stay when the enables change? -/
def staysQueued (old new : BitVec 6) (q : Queued) : Bool :=
  let c := noticeClass q.notice
  !(old.getLsbD c && !new.getLsbD c)

/-- R198. -/
def classesRule (new : BitVec 6) (s : State) : State :=
  let kept := s.link.notices.filter (staysQueued s.link.classes new)
  answer 0x61 .ok (u8 new.toNat ++ u8 kept.length)
    { s with link := { s.link.withQueue kept s.link.lost with classes := new } }

/-- NOTICE_CLASSES (R198). -/
def execNoticeClasses (r : Req (BitVec 6)) (s : State) : Out := .next (request 0x61 false r classesRule s)

end Sys2Proof.Machine
end

