-- ==== Sys2Proof/Machine/MapRequests.lean ====
section
/-! DEFINITION. Meanings: the requests on the detector map, the unknown-device list and the bays (sections 1.6 to 1.8,
8.4). -/

namespace Sys2Proof.Machine

/-! ## MAP_WRITE (R22, R23) -/

/-- R22: is an address used by a sensor, group, presence sensor or sign of the working configuration? -/
def addressUsed (c : Cfg) (a : Addr) : Bool := (deviceAddresses c emptyMap).any (fun x => x.2 == a)

/-- R22: the lowest-numbered free way of a set. -/
def freeWay (m : DetMap) (set : Nat) : Option Nat := (List.range 4).find? (fun w => ((m.nth set).nth w).isNone)

/-- R23, R163: a REPORT_CALL to a newly bound detector is queued, unless the call list covers it already; the new entry
is a destination whose value is formed (R166). -/
def callDetector (a : Addr) (s : State) : State :=
  if called s.bus a then s else note (.call (callFor s.bus a)) false { s with bus := queueCall a s.bus }

/-- R23, R162: the binding of address `a` to bay `b` in way `way`. -/
def bindAddress (a b way : Nat) (s : State) : State :=
  let t := { s with
    cfg := { s.cfg with map := mapPut s.cfg.map (a % 128) way (some ⟨a / 128, b⟩), imageCurrent := false }
    bus := { s.bus with unknown := s.bus.unknown.filter (fun e => e.addr != a) } }
  let u := bindBay b a t
  if running u then callDetector a u else u

/-- The fields of a CONFLICT reply: the bay already bound to the address, the address already bound to the bay, or
neither. -/
def conflictBytes (bay : Option Nat) (addr : Option Addr) : List Byte := optField u16 bay ++ optField addrBytes addr

/-- R22: the checks of MAP_WRITE in their order. -/
def mapChecks (a b : Nat) (s : State) : State :=
  if isDevice a = false ∨ b > 511 then answer 0x20 .badIndex [] s
  else match mapWay s.cfg.map a with
    | some way =>
      let bound := (mapBay s.cfg.map a).getD 0
      if bound = b then answer 0x20 .ok (u8 (a % 128) ++ u8 way) s
      else answer 0x20 .conflict (conflictBytes (some bound) none) s
    | none =>
      match (bayOf s b).detector with
      | some other => answer 0x20 .conflict (conflictBytes none (some other)) s
      | none =>
        if addressUsed s.cfg.working a then answer 0x20 .conflict (conflictBytes none none) s
        else match freeWay s.cfg.map (a % 128) with
          | none => answer 0x20 .full (u8 (a % 128)) s
          | some way => answer 0x20 .ok (u8 (a % 128) ++ u8 way) (bindAddress a b way s)

/-- A rule taken in RUNNING and EDITING, and refused with BAD_STATE in FALLBACK (R22, R24). -/
def notInFallback (kind : Nat) (rule : State → State) (s : State) : State :=
  if s.cfg.state = .fallback then answer kind .badState [] s else rule s

/-- MAP_WRITE (R22, R23). -/
def execMapWrite (r : Req (Addr × Nat)) (s : State) : Out :=
  .next (request 0x20 false r (thenFill fun x => unlessStoring 0x20 (notInFallback 0x20 (mapChecks x.1 x.2))) s)

/-! ## MAP_REMOVE and the reads of the map (R24, R25) -/

/-- R24, R163, R166: the binding of address `a`, in way `way`, to bay `b` is removed. -/
def unbindAddress (a b way : Nat) (s : State) : State :=
  let t := { s with cfg := { s.cfg with map := mapPut s.cfg.map (a % 128) way none, imageCurrent := false } }
  let u := unbindBay b t
  { u with bus := withdrawKey (.lamp a) (withdrawKey (.call a) { u.bus with calls := u.bus.calls.filter (· != a) }) }

/-- R24. -/
def removeMapping (a : Addr) (s : State) : State :=
  match mapWay s.cfg.map a with
  | some way =>
    let b := (mapBay s.cfg.map a).getD 0
    if isDevice a then answer 0x21 .ok (u16 b) (unbindAddress a b way s) else answer 0x21 .notFound [] s
  | none => answer 0x21 .notFound [] s

/-- MAP_REMOVE (R24). -/
def execMapRemove (r : Req Addr) (s : State) : Out :=
  .next (request 0x21 false r (thenFill fun a => unlessStoring 0x21 (notInFallback 0x21 (removeMapping a))) s)

/-- R25. -/
def lookupMapping (a : Addr) (s : State) : State :=
  match mapWay s.cfg.map a, mapBay s.cfg.map a with
  | some way, some b => answer 0x22 .ok (u8 (a % 128) ++ u8 way ++ u16 b) s
  | _, _ => answer 0x22 .notFound [] s

/-- MAP_LOOKUP (R25). -/
def execMapLookup (r : Req Addr) (s : State) : Out := .next (request 0x22 false r lookupMapping s)

/-- R25: one way of a set: the valid mark, then tag, address and bay. -/
def wayBytes (set : Nat) (e : Option MapEntry) : List Byte :=
  match e with
  | none => flag false
  | some x => flag true ++ u16 x.tag ++ addrBytes (entryAddr set x) ++ u16 x.bay

/-- R25. -/
def readSet (set : Nat) (s : State) : State :=
  if set > 127 then answer 0x23 .badIndex [] s
  else answer 0x23 .ok ((s.cfg.map.nth set).list.flatMap (wayBytes set)) s

/-- MAP_READ_SET (R25). -/
def execMapReadSet (r : Req Nat) (s : State) : Out := .next (request 0x23 false r readSet s)

/-! ## The unknown-device list (R162) -/

def unknownBytes (e : UnknownDevice) : List Byte := addrBytes e.addr ++ u8 e.type.ctorIdx ++ u32 e.firstSeen.toNat

/-- R162. -/
def listUnknowns (s : State) : State :=
  answer 0x24 .ok (listBytes unknownBytes s.bus.unknown ++ flag s.bus.overflow) s

/-- LIST_UNKNOWN (R162). -/
def execListUnknown (r : Req Unit) (s : State) : Out := .next (request 0x24 false r (fun _ t => listUnknowns t) s)

/-- R162. -/
def clearUnknowns (s : State) : State :=
  answer 0x25 .ok [] { s with bus := { s.bus with unknown := [], overflow := false } }

/-- CLEAR_UNKNOWN (R162). -/
def execClearUnknown (r : Req Unit) (s : State) : Out := .next (request 0x25 false r (fun _ t => clearUnknowns t) s)

/-! ## Reservations and closures (R16, R18 to R20) -/

/-- R16. -/
def reserveRequest (b time : Nat) (s : State) : State :=
  let n := clamp 1 65535 time
  if b > 511 then answer 0x40 .badIndex [] s
  else match (bayOf s b).state with
    | .free | .reserved => answer 0x40 .ok (u16 n) (reserveBay b n s)
    | .occupied | .closed | .unknown => answer 0x40 .badState [] s

/-- BAY_RESERVE (R16). -/
def execBayReserve (r : Req (Nat × Nat)) (s : State) : Out :=
  .next (request 0x40 false r (thenFill fun x => inRunning 0x40 (reserveRequest x.1 x.2)) s)

/-- R18. -/
def releaseRequest (b : Nat) (s : State) : State :=
  if b > 511 then answer 0x41 .badIndex [] s
  else if isReserved (bayOf s b).admin then answer 0x41 .ok [] (cancelReservation b s)
  else answer 0x41 .badState [] s

/-- BAY_RELEASE (R18). -/
def execBayRelease (r : Req Nat) (s : State) : Out :=
  .next (request 0x41 false r (thenFill fun b => inRunning 0x41 (releaseRequest b)) s)

/-- R19: a bay that is already CLOSED is left as it is. -/
def closeRequest (b : Nat) (s : State) : State :=
  if b > 511 then answer 0x42 .badIndex [] s
  else if (bayOf s b).admin = .closed then answer 0x42 .ok [] s
  else answer 0x42 .ok [] (closeBay b s)

/-- BAY_CLOSE (R19). DEDUCED (assumption 38): while a store runs the request is refused BUSY whatever its index. -/
def execBayClose (r : Req Nat) (s : State) : Out :=
  .next (request 0x42 false r (thenFill fun b => unlessStoring 0x42 (inRunning 0x42 (closeRequest b))) s)

/-- R20. -/
def openRequest (b : Nat) (s : State) : State :=
  if b > 511 then answer 0x43 .badIndex [] s
  else if (bayOf s b).admin = .closed then answer 0x43 .ok [] (openBay b s)
  else answer 0x43 .badState [] s

/-- BAY_OPEN (R20). DEDUCED (assumption 38): while a store runs the request is refused BUSY whatever its index. -/
def execBayOpen (r : Req Nat) (s : State) : Out :=
  .next (request 0x43 false r (thenFill fun b => unlessStoring 0x43 (inRunning 0x43 (openRequest b))) s)

end Sys2Proof.Machine
end

