-- ==== Sys2Proof/Machine/ReadRequests.lean ====
section
/-! DEFINITION. Meanings: the reads of zones, bays, sensors, fans, groups, signs and loops (R27, R56, R57, R82, R83,
R104, R117, R137). -/

namespace Sys2Proof.Machine

/-! ## READ_ZONE -/

/-- R27: how many of a zone's bays are in a state. -/
def bayCountIn (s : State) (z : Nat) (st : BayState) : Nat :=
  ((zoneBays s z).filter (fun b => (bayOf s b).state == st)).length

/-- R27: the occupancy fields of a zone; a zone that is not present has all counts 0. -/
def zoneOccupancyBytes (s : State) (z : Nat) : List Byte :=
  let here := zonePresent s.cfg.inForce z
  zoneBytes (s.cfg.inForce.zones.nth z)
  ++ (List.range 4).flatMap (fun k => u16 (if here then (s.occ.free.nth z).nth k else 0))
  ++ [BayState.free, .occupied, .reserved, .closed, .unknown].flatMap
      (fun st => u16 (if here then bayCountIn s z st else 0))

/-- R57: the air fields of a zone. -/
def zoneAirBytes (x : ZoneAir) : List Byte :=
  u16 x.s ++ u16 x.l ++ u16 x.twa ++ u16 x.e ++ u16 x.z ++ u16 x.lastD ++ u16 x.floor ++ u16 x.demand
  ++ u8 x.state.ctorIdx ++ u16 x.hold ++ u8 x.contributors ++ u8 x.index ++ u8 x.sample ++ u24 (ringSum x)
  ++ u16 (ringCount x)

/-- R83: the fan fields of a zone. -/
def zoneFanBytes (s : State) (z : Nat) : List Byte :=
  let fans := zoneFans s z
  flag (s.fan.ventLost.nth z) ++ u8 fans.length ++ u8 (faultedFans s fans).length
  ++ u8 ((List.range 12).filter (fun n =>
      (s.cfg.inForce.fans.nth n).present && (s.cfg.inForce.fans.nth n).assist.contains z)).length

/-- R104: the lighting fields of a zone. -/
def zoneLightBytes (s : State) (z : Nat) : List Byte :=
  u8 (zoneGroups s z).length ++ u8 (s.light.darkCount.nth z) ++ flag (s.light.dark.nth z)
  ++ optField (fun e => u8 e.id) (lightEntry s.ovr.stack z)

/-- R137: how many masks of a face count zone `z`: a COUNT face's own, or those of a DECISION face's candidates. -/
def faceMasksWith (r : FaceRec) (z : Nat) : Nat :=
  match r.kind with
  | .count => if maskHas r.zones z then 1 else 0
  | .decision => (r.candidates.filter (fun c => maskHas c.zones z)).length
  | .level | .blank => 0

/-- R137: the guidance fields of a zone. -/
def zoneGuidanceBytes (s : State) (z : Nat) : List Byte :=
  let st := s.guide.status.nth z
  u8 st.status.ctorIdx ++ u8 st.reason.ctorIdx
  ++ u16 ((allFaces s).foldl (fun n x => n + faceMasksWith (faceRec s x.1 x.2) z) 0)

/-- R27: READ_ZONE. -/
def readZoneRule (z : Nat) (s : State) : State :=
  if z = 0 ∨ z > 15 then answer 0x30 .badIndex [] s
  else inRunning 0x30 (fun t =>
    answer 0x30 .ok (zoneOccupancyBytes t z ++ zoneAirBytes (t.air.zones.nth z) ++ zoneFanBytes t z
      ++ zoneLightBytes t z ++ zoneGuidanceBytes t z) t) s

/-- READ_ZONE (R27, R57, R83, R104, R137). -/
def execReadZone (r : Req Nat) (s : State) : Out := .next (request 0x30 false r readZoneRule s)

/-! ## READ_BAYS -/

/-- R27: the code of a sensed value. -/
def sensedCode : Sensed → Nat
  | .vacant => 0
  | .present _ => 1
  | .nothing => 2

def adminCode : Admin → Nat
  | .inService => 0
  | .reserved _ => 1
  | .closed => 2

/-- The reservation remaining, present exactly while RESERVED. -/
def reservedTime : Admin → Option Nat
  | .reserved n => some n
  | .inService | .closed => none

/-- The occupied-since second, present exactly while PRESENT. -/
def sinceSecond : Sensed → Option (BitVec 32)
  | .present t => some t
  | .vacant | .nothing => none

/-- R27: the fields of one bay. -/
def bayBytes (s : State) (b : Nat) : List Byte :=
  let x := bayOf s b
  u8 x.zone ++ u8 (bayKind s b).ctorIdx ++ optField addrBytes x.detector ++ u8 (sensedCode x.sensed)
  ++ optField (fun p => u8 p.1.ctorIdx ++ u8 p.2) x.pending ++ u8 x.health.ctorIdx ++ u8 (adminCode x.admin)
  ++ optField u16 (reservedTime x.admin) ++ u16 x.lastHeard
  ++ optField (fun t => u32 t.toNat) (sinceSecond x.sensed) ++ flag x.lampFault ++ u8 x.state.ctorIdx

/-- R27: the entries that fit whole into `room` bytes, in order. -/
def fitEntries (room : Nat) : List (List Byte) → List (List Byte)
  | [] => []
  | e :: es => if e.length ≤ room then e :: fitEntries (room - e.length) es else []

/-- R27: READ_BAYS. The body holds the result code, the number of entries, and the entries. -/
def readBaysRule (first n : Nat) (s : State) : State :=
  if first > 511 then answer 0x31 .badIndex [] s
  else
    let count := min (clamp 1 32 n) (512 - first)
    let entries := fitEntries 248 ((span first (first + count)).map (bayBytes s))
    answer 0x31 .ok (u8 entries.length ++ entries.flatten) s

/-- READ_BAYS (R27). -/
def execReadBays (r : Req (Nat × Nat)) (s : State) : Out :=
  .next (request 0x31 false r (fun x => readBaysRule x.1 x.2) s)

/-! ## READ_SENSOR, READ_FAN, READ_GROUP -/

/-- R56: the dynamic fields of a slot. DEDUCED (assumption 8): the short and the long index, formed together, share one
presence byte. -/
def sensorStateBytes (n : Nat) (x : Sensor) : List Byte :=
  u8 x.state.ctorIdx ++ u16 x.warmup
  ++ (if isField n then u8 x.reported.ctorIdx ++ u8 x.silence else u16 x.raw)
  ++ optField u16 x.last ++ optField (fun f => u16 f.f) x.filtered
  ++ optField (fun f => u16 f.short ++ u16 f.long) x.filtered

/-- R56: READ_SENSOR. -/
def readSensorRule (n : Nat) (s : State) : State :=
  if n > 31 then answer 0x32 .badIndex [] s
  else answer 0x32 .ok (sensorBytes n (s.cfg.inForce.sensors.nth n) ++ sensorStateBytes n (s.air.sensors.nth n)) s

/-- READ_SENSOR (R56). -/
def execReadSensor (r : Req Nat) (s : State) : Out := .next (request 0x32 false r readSensorRule s)

/-- R82: the fields of a channel kept by the fan drive. -/
def channelBytes (x : Channel) : List Byte :=
  u8 x.state.ctorIdx ++ u16 x.reference ++ optField (fun d => u8 d.ctorIdx) x.driven ++ u8 x.last.ctorIdx
  ++ u16 x.coast ++ u8 x.ready ++ optField (fun w => u8 w.ctorIdx) x.reason ++ flag x.forcedBelow
  ++ u16 x.aim.computed ++ optField u16 x.aim.forced ++ u16 x.aim.target
  ++ optField (fun d => u8 d.ctorIdx) x.aim.wanted ++ u8 x.aim.call.ctorIdx
  ++ optField (fun f => u8 f.1) x.force

/-- R82: READ_FAN. -/
def readFanRule (n : Nat) (s : State) : State :=
  if n > 11 then answer 0x33 .badIndex [] s
  else
    let x := s.fan.channels.nth n
    answer 0x33 .ok (fanBytes (s.cfg.inForce.fans.nth n) ++ channelBytes x ++ u8 s.fan.profile ++ flag x.rdy
      ++ flag (fanDriven s n)) s

/-- READ_FAN (R82). -/
def execReadFan (r : Req Nat) (s : State) : Out := .next (request 0x33 false r readFanRule s)

/-- R104: READ_GROUP. The paths are all whose lists name the group, present or not. -/
def readGroupRule (g : Nat) (s : State) : State :=
  if g > 47 then answer 0x34 .badIndex [] s
  else
    let r := s.cfg.inForce.groups.nth g
    let x := s.light.groups.nth g
    let paths := (List.range 4).filter (fun p => (s.cfg.inForce.paths.nth p).groups.contains g)
    answer 0x34 .ok (groupBytes r ++ u16 x.stay ++ u8 x.level ++ u8 x.fade ++ driveBytes x.wanted
      ++ optField driveBytes x.sent ++ flag x.waiting ++ u8 x.state.ctorIdx
      ++ optField (fun e => u8 e.id) (lightEntry s.ovr.stack r.zone) ++ listBytes u8 paths) s

/-- READ_GROUP (R104). -/
def execReadGroup (r : Req Nat) (s : State) : Out := .next (request 0x34 false r readGroupRule s)

/-! ## READ_SIGN -/

/-- R137: the decision data of a face: tree, choice, and each present candidate's free count and standing. DEDUCED
(assumption 8): the choice NONE is sent as a field that is absent. -/
def decisionBytes (s : State) (r : FaceRec) (x : Face) : List Byte :=
  match r.kind with
  | .decision =>
    flag x.tree.b0 ++ flag x.tree.b1 ++ flag x.tree.b2 ++ optField u8 x.choice
    ++ r.candidates.flatMap (fun c =>
        u16 (candidateFree s r.kinds c) ++ flag (eligible s r c) ++ flag (tierOne s r c))
  | .count | .level | .blank => []

/-- R137: one face slot. -/
def faceSlotBytes (s : State) (i f : Nat) : List Byte :=
  let r := faceRec s i f
  let x := faceOf s i f
  faceBytes r ++ faceValueBytes x.wanted ++ optField faceValueBytes x.sent ++ flag x.waiting ++ decisionBytes s r x

/-- R137: the other-level table. -/
def levelsBytes (g : Guidance) : List Byte :=
  (span 1 8).flatMap (fun v => optField (fun e => u16 e.count ++ u8 e.age) (g.levels.nth v))

/-- R137: READ_SIGN. -/
def readSignRule (i : Nat) (s : State) : State :=
  if i > 23 then answer 0x35 .badIndex [] s
  else answer 0x35 .ok (signBytes (s.cfg.inForce.signs.nth i) ++ u8 (s.guide.signs.nth i).state.ctorIdx
      ++ (List.range 4).flatMap (faceSlotBytes s i) ++ levelsBytes s.guide) s

/-- READ_SIGN (R137). -/
def execReadSign (r : Req Nat) (s : State) : Out := .next (request 0x35 false r readSignRule s)

/-! ## READ_LOOPS -/

/-- R117: the fields of a loop input. -/
def loopBytes (x : LoopInput) : List Byte :=
  flag x.level ++ flag x.supervised ++ u8 x.state.ctorIdx ++ u8 x.filter ++ u8 x.occupied

/-- R117: the record of a pair in force with its sequence and tallies. -/
def pairRunBytes (r : PairRec) (x : PairRun) : List Byte :=
  pairBytes r ++ u8 x.sequence.ctorIdx ++ flag x.otherSeen ++ u8 x.time ++ u16 x.tallyIn ++ u16 x.tallyOut
  ++ u16 x.backOut ++ u16 x.timeout

/-- R117: READ_LOOPS. -/
def readLoopsRule (s : State) : State :=
  answer 0x36 .ok (s.loops.inputs.list.flatMap loopBytes
    ++ (List.range 4).flatMap (fun p => pairRunBytes (s.cfg.inForce.pairs.nth p) (s.loops.pairs.nth p))
    ++ u16 s.loops.count) s

/-- READ_LOOPS (R117). -/
def execReadLoops (r : Req Unit) (s : State) : Out := .next (request 0x36 false r (fun _ t => readLoopsRule t) s)

end Sys2Proof.Machine
end

