-- ==== Sys2Proof/Machine/Resets.lean ====
section
/-! DEFINITION. Meanings: the resets, the end of a load, the taps and the correction window. -/

namespace Sys2Proof.Machine

/-- POWER_ON_RESET (R182, R192). -/
def execPowerOnReset (straps : Straps) (s : State) : Out := .next (resetPowerOn straps s)

/-- R196: is a RESET's reset to be carried out: its reply neither waits nor is on the line? -/
def resetReady (s : State) : Bool := s.link.resetDue && s.link.reply.isNone && !s.link.de

/-- COMMANDED_RESET (R196): carried out when a RESET was answered and its reply has been sent. -/
def execCommandedReset (straps : Straps) (s : State) : Out :=
  .next (if resetReady s then resetCommanded straps s else s)

/-- LOAD_END (R183). -/
def execLoadEnd (source : LoadSource) (s : State) : Out :=
  .next (if loading s then fillSlots (endLoad source s) else s)

/-- T32_TAP (R174; R98, R106 to R108, R149, R150). -/
def execT32Tap (loops : BitVec 8) (keys : BitVec 2) (order : List T32Part) (s : State) : Out :=
  .next (tapT32 loops keys order s)

/-- T4_TAP (R174; R10, R67, R81, R171). -/
def execT4Tap (rdy : BitVec 12) (order : List T4Part) (s : State) : Out := .next (tapT4 rdy order s)

/-- T1_TAP (R174; R11, R17, R31, R75, R92, R99, R109, R113, R123, R130, R135, R146, R154, R178). -/
def execT1Tap (ain : Tab (BitVec 10) 8) (order : List T1Part) (s : State) : Out := .next (tapT1 ain order s)

/-- CORRECTION_WINDOW (R177): where cycle 1 of a window is about to come, the window begins; within a window nothing
happens (assumption 33). -/
def execCorrectionWindow (s : State) : Out :=
  .next (if s.time.cycle = 1 then { s with time := { s.time.newWindow with begun := true } } else s)

end Sys2Proof.Machine
end

