-- ==== Sys2Proof/Machine/StackEvents.lean ====
section
/-! DEFINITION. Meanings: the expiry of override entries and the events of the key inputs (assumptions 1 and 2). -/

namespace Sys2Proof.Machine

/-- OVERRIDE_EXPIRY (R146): the entries with one T1 tap remaining run out together. -/
def execOverrideExpiry (s : State) : Out :=
  .next (if loading s then s
    else fillSlots (expireEntries
      (setStack (s.ovr.stack.map (fun e => if e.remaining = some 1 then { e with remaining := some 0 } else e)) s)))

/-- INPUT_ACTIVE (R149): a RELEASED input with a role is found active at its eighth T32 tap. -/
def execInputActive (key : Nat) (s : State) : Out :=
  let x := s.ovr.keys.nth key
  within key 2 (if loading s = false ∧ (s.cfg.inForce.inputs.nth key).role ≠ .noRole ∧ x.state = .released ∧ x.filter = 7
    then fillSlots (keyTapActive key s) else s)

/-- INPUT_RELEASE (R150). -/
def execInputRelease (key : Nat) (s : State) : Out :=
  within key 2 (if loading s then s else fillSlots (keyRelease key s))

end Sys2Proof.Machine
end

