-- ==== Sys2Proof/Machine/Dispatch.lean ====
section
/-! DEFINITION. The effect of a command on everything but the queue, one arm for each command of the table. -/

namespace Sys2Proof.Machine

def exec (i : Instr) (s : State) : Host.Outcome State Fault Refusal :=
  match i with
  | .powerOnReset straps => Sys2Proof.Machine.execPowerOnReset straps s
  | .commandedReset straps => Sys2Proof.Machine.execCommandedReset straps s
  | .loadEnd source => Sys2Proof.Machine.execLoadEnd source s
  | .t32Tap loops keys order => Sys2Proof.Machine.execT32Tap loops keys order s
  | .t4Tap rdy order => Sys2Proof.Machine.execT4Tap rdy order s
  | .t1Tap ain order => Sys2Proof.Machine.execT1Tap ain order s
  | .correctionWindow => Sys2Proof.Machine.execCorrectionWindow s
  | .warmupEnd slot raw => Sys2Proof.Machine.execWarmupEnd slot raw s
  | .sensorSilent slot => Sys2Proof.Machine.execSensorSilent slot s
  | .doseRingAdvance zone => Sys2Proof.Machine.execDoseRingAdvance zone s
  | .creditDecay zone => Sys2Proof.Machine.execCreditDecay zone s
  | .alarmHoldEnd zone => Sys2Proof.Machine.execAlarmHoldEnd zone s
  | .bayState addr det health => Sys2Proof.Machine.execBayState addr det health s
  | .gasValue addr report => Sys2Proof.Machine.execGasValue addr report s
  | .pedPresence addr ped => Sys2Proof.Machine.execPedPresence addr ped s
  | .lumState addr health => Sys2Proof.Machine.execLumState addr health s
  | .signState addr health => Sys2Proof.Machine.execSignState addr health s
  | .announce addr type => Sys2Proof.Machine.execAnnounce addr type s
  | .fieldFrameDiscarded why => Sys2Proof.Machine.execFieldFrameDiscarded why s
  | .settleExpiry bay => Sys2Proof.Machine.execSettleExpiry bay s
  | .silenceScan => Sys2Proof.Machine.execSilenceScan s
  | .reservationExpiry bay => Sys2Proof.Machine.execReservationExpiry bay s
  | .stayLitEnd group => Sys2Proof.Machine.execStayLitEnd group s
  | .pathStep path => Sys2Proof.Machine.execPathStep path s
  | .lightResend => Sys2Proof.Machine.execLightResend s
  | .readyTimeout fan => Sys2Proof.Machine.execReadyTimeout fan s
  | .readyLoss fan => Sys2Proof.Machine.execReadyLoss fan s
  | .coastEnd fan => Sys2Proof.Machine.execCoastEnd fan s
  | .loopOccupied loop => Sys2Proof.Machine.execLoopOccupied loop s
  | .loopRelease loop => Sys2Proof.Machine.execLoopRelease loop s
  | .loopStuck loop => Sys2Proof.Machine.execLoopStuck loop s
  | .sequenceTimeout pair => Sys2Proof.Machine.execSequenceTimeout pair s
  | .rotationAdvance => Sys2Proof.Machine.execRotationAdvance s
  | .guidanceResend => Sys2Proof.Machine.execGuidanceResend s
  | .levelStale level => Sys2Proof.Machine.execLevelStale level s
  | .overrideExpiry => Sys2Proof.Machine.execOverrideExpiry s
  | .inputActive key => Sys2Proof.Machine.execInputActive key s
  | .inputRelease key => Sys2Proof.Machine.execInputRelease key s
  | .frameOffer => Sys2Proof.Machine.execFrameOffer s
  | .arbitrationLost => Sys2Proof.Machine.execArbitrationLost s
  | .attemptSuccess => Sys2Proof.Machine.execAttemptSuccess s
  | .attemptFailed => Sys2Proof.Machine.execAttemptFailed s
  | .busOffRecovery => Sys2Proof.Machine.execBusOffRecovery s
  | .storePageDone => Sys2Proof.Machine.execStorePageDone s
  | .storeReadbackDone agrees => Sys2Proof.Machine.execStoreReadbackDone agrees s
  | .storePageTimeout => Sys2Proof.Machine.execStorePageTimeout s
  | .frameGapTimeout => Sys2Proof.Machine.execFrameGapTimeout s
  | .frameCrcMismatch => Sys2Proof.Machine.execFrameCrcMismatch s
  | .frameIgnored addr kind => Sys2Proof.Machine.execFrameIgnored addr kind s
  | .unknownKind kind => Sys2Proof.Machine.execUnknownKind kind s
  | .replyStart => Sys2Proof.Machine.execReplyStart s
  | .replyEnd => Sys2Proof.Machine.execReplyEnd s
  | .identify r => Sys2Proof.Machine.execIdentify r s
  | .getStatus r => Sys2Proof.Machine.execGetStatus r s
  | .reset r => Sys2Proof.Machine.execReset r s
  | .setClock broadcast r => Sys2Proof.Machine.execSetClock broadcast r s
  | .getClock r => Sys2Proof.Machine.execGetClock r s
  | .configOpen r => Sys2Proof.Machine.execConfigOpen r s
  | .configWrite r => Sys2Proof.Machine.execConfigWrite r s
  | .configRead r => Sys2Proof.Machine.execConfigRead r s
  | .configClose r => Sys2Proof.Machine.execConfigClose r s
  | .configStore r => Sys2Proof.Machine.execConfigStore r s
  | .curveWrite r => Sys2Proof.Machine.execCurveWrite r s
  | .curveRead r => Sys2Proof.Machine.execCurveRead r s
  | .mapWrite r => Sys2Proof.Machine.execMapWrite r s
  | .mapRemove r => Sys2Proof.Machine.execMapRemove r s
  | .mapLookup r => Sys2Proof.Machine.execMapLookup r s
  | .mapReadSet r => Sys2Proof.Machine.execMapReadSet r s
  | .listUnknown r => Sys2Proof.Machine.execListUnknown r s
  | .clearUnknown r => Sys2Proof.Machine.execClearUnknown r s
  | .readZone r => Sys2Proof.Machine.execReadZone r s
  | .readBays r => Sys2Proof.Machine.execReadBays r s
  | .readSensor r => Sys2Proof.Machine.execReadSensor r s
  | .readFan r => Sys2Proof.Machine.execReadFan r s
  | .readGroup r => Sys2Proof.Machine.execReadGroup r s
  | .readSign r => Sys2Proof.Machine.execReadSign r s
  | .readLoops r => Sys2Proof.Machine.execReadLoops r s
  | .bayReserve r => Sys2Proof.Machine.execBayReserve r s
  | .bayRelease r => Sys2Proof.Machine.execBayRelease r s
  | .bayClose r => Sys2Proof.Machine.execBayClose r s
  | .bayOpen r => Sys2Proof.Machine.execBayOpen r s
  | .fanClear r => Sys2Proof.Machine.execFanClear r s
  | .levelCounts broadcast r => Sys2Proof.Machine.execLevelCounts broadcast r s
  | .overridePush r => Sys2Proof.Machine.execOverridePush r s
  | .overridePop r => Sys2Proof.Machine.execOverridePop r s
  | .overrideRemove r => Sys2Proof.Machine.execOverrideRemove r s
  | .overrideList r => Sys2Proof.Machine.execOverrideList r s
  | .fetchNotices r => Sys2Proof.Machine.execFetchNotices r s
  | .noticeClasses r => Sys2Proof.Machine.execNoticeClasses r s
  | .frameSync => Sys2Proof.Machine.execFrameSync s
  | .frameLenAbandoned len => Sys2Proof.Machine.execFrameLenAbandoned len s
  | .pwmPeriodStart => Sys2Proof.Machine.execPwmPeriodStart s

end Sys2Proof.Machine
end

