-- ==== Sys2Proof/Machine/Step.lean ====
section
/-! DEFINITION. One step of the part: the command at the front of the queue, or a cycle of the crystal. -/

namespace Sys2Proof.Machine

/-- One step: the command at the front of the queue is taken out and its effect happens; with no command waiting one
crystal cycle of the timebase passes (assumption 3). -/
def step (s : State) : Host.Outcome State Fault Refusal :=
  match s.pending with
  | [] => .next (crystalCycle s)
  | c :: rest => exec c { s with pending := rest }

/-- The part with the command that a table word spells at the front of its queue. -/
def State.withFetchWord (s : State) (nbits w : Nat) : State :=
  match decodeTableWord nbits w with
  | some c => { s with pending := c :: s.pending }
  | none => s

end Sys2Proof.Machine
end

