-- ==== Sys2Proof/Machine/Frames.lean ====
section
/-! DEFINITION. The frames of section 11.8 as bytes: what the part puts on the CAN segment and on the service link, and
the command that a received field frame stands for. -/

namespace Sys2Proof.Machine

/-! ## Field frames (R156, R157, section 11.8) -/

/-- A CAN frame: its 29-bit identifier and its data bytes. -/
structure FieldFrame where
  ident : BitVec 29
  data : List Byte
deriving DecidableEq, Repr

/-- The priority class of a frame. -/
def FieldFrame.class_ (f : FieldFrame) : Nat := f.ident.toNat / 2 ^ 26

/-- The kind code of a frame. -/
def FieldFrame.kind (f : FieldFrame) : Nat := f.ident.toNat / 2 ^ 20 % 2 ^ 6

/-- The field address of a frame. -/
def FieldFrame.addr (f : FieldFrame) : Addr := f.ident.toNat % 2 ^ 20

/-- The identifier of a class, a kind code and an address. -/
def identifier (class_ kind : Nat) (a : Addr) : BitVec 29 := BitVec.ofNat 29 (class_ * 2 ^ 26 + kind * 2 ^ 20 + a)

/-- SIGN_FACE: symbol, number or 0xFFFF, arrow code or 0xFF. -/
def symbolData (v : FaceValue) : List Byte :=
  match v with
  | .blank => u8 0 ++ u16 0xFFFF ++ u8 0xFF
  | .number n => u8 1 ++ u16 n ++ u8 0xFF
  | .full => u8 2 ++ u16 0xFFFF ++ u8 0xFF
  | .closed => u8 3 ++ u16 0xFFFF ++ u8 0xFF
  | .arrow n c => u8 4 ++ u16 n ++ u8 c.toNat

/-- SIGN_FACE: the face index, or 0xFF for ALL; the other keys carry none. -/
def faceByte (k : DestKey) : List Byte :=
  match k with
  | .face _ f => u8 f
  | .faceAll => u8 0xFF
  | .call _ | .group _ | .groupAll | .lamp _ | .lampAll => []

/-- The data bytes of a sent frame. -/
def sentData (k : DestKey) (d : FrameData) : List Byte :=
  faceByte k ++ (match d with
    | .face v => symbolData v
    | .call => []
    | .level x => u16 x.output ++ u8 x.fade
    | .lamp c => u8 c.ctorIdx)

/-- The frame that a filled slot puts on the bus. -/
def slotFrame (x : Slot) : FieldFrame := ⟨BitVec.ofNat 29 (keyIdentifier x.key), sentData x.key x.data⟩

/-- The frame on the bus, while an attempt is in progress. -/
def frameOnBus (s : State) : Option FieldFrame := (tryingSlot s.bus).map (fun x => slotFrame x.2)

/-! ## Received field frames -/

/-- The codes of a received frame's data, in the order of R156. -/
def detCodes : List Det := [.present, .vacant]
def healthCodes : List Health := [.ok, .fault]
def pedCodes : List Ped := [.detected, .clear]
def typeCodes : List DeviceType := [.detector, .gasSensor, .luminaire, .presence, .sign, .other]

/-- The value of a code in a list of codes. -/
def coded {α : Type} (l : List α) (b : Byte) : Option α := l[b.toNat]?

/-- GAS_VALUE: the value is taken with status OK only. -/
def gasReport (status hi lo : Byte) : Option GasReport :=
  if status = 0 then some (.ok (hi ++ lo).toNat)
  else if status = 1 then some .warmup
  else if status = 2 then some .fault
  else none

/-- The command of a frame of received kind `kind` from a device, or none for a malformed one (R157). -/
def frameCommand (kind : Nat) (a : Addr) (data : List Byte) : Option Instr :=
  match kind, data with
  | 0x01, [d, h] => do return .bayState a (← coded detCodes d) (← coded healthCodes h)
  | 0x02, [st, hi, lo] => do return .gasValue a (← gasReport st hi lo)
  | 0x03, [d] => do return .pedPresence a (← coded pedCodes d)
  | 0x04, [h] => do return .lumState a (← coded healthCodes h)
  | 0x05, [h] => do return .signState a (← coded healthCodes h)
  | 0x06, [t] => do return .announce a (← coded typeCodes t)
  | _, _ => none

/-- R157: the command that a received frame stands for. -/
def receivedFrame (f : FieldFrame) : Instr :=
  if 0x10 ≤ f.kind ∧ f.kind ≤ 0x13 then .fieldFrameDiscarded .sentKind
  else if f.kind = 0 ∨ 0x06 < f.kind then .fieldFrameDiscarded .unknownKind
  else if isDevice f.addr = false then .fieldFrameDiscarded .notDevice
  else (frameCommand f.kind f.addr f.data).getD (.fieldFrameDiscarded .malformed)

/-- The data of a GAS_VALUE; the value bytes of a status other than OK are not taken, and stand as 0. -/
def gasData (g : GasReport) : List Byte :=
  match g with
  | .ok v => u8 0 ++ u16 v
  | .warmup => u8 1 ++ u16 0
  | .fault => u8 2 ++ u16 0

def detCode : Det → Nat
  | .present => 0
  | .vacant => 1

/-- The frame by which a device of class `c` sends a received kind. -/
def deviceFrame (c : Nat) (i : Instr) : Option FieldFrame :=
  match i with
  | .bayState a d h => some ⟨identifier c 0x01 a, u8 (detCode d) ++ u8 h.ctorIdx⟩
  | .gasValue a g => some ⟨identifier c 0x02 a, gasData g⟩
  | .pedPresence a p => some ⟨identifier c 0x03 a, u8 p.ctorIdx⟩
  | .lumState a h => some ⟨identifier c 0x04 a, u8 h.ctorIdx⟩
  | .signState a h => some ⟨identifier c 0x05 a, u8 h.ctorIdx⟩
  | .announce a t => some ⟨identifier c 0x06 a, u8 t.ctorIdx⟩
  | _ => none

/-! ## Service-link frames (R193, R195, section 11.8) -/

/-- The bytes of a frame: SYNC, ADDR, LEN, KIND, body and CRC. -/
def linkFrame (addr kind : Nat) (body : List Byte) : List Byte :=
  let inner := u8 addr ++ u8 (1 + body.length) ++ u8 kind ++ body
  u8 0xA5 ++ inner ++ bytes16 (crc16 inner)

/-- The bytes of a reply of the part (R195). -/
def replyFrame (s : State) (r : Reply) : List Byte := linkFrame (nodeAddress s) r.kind r.body

/-- The bytes on the line while DE is raised. -/
def bytesOnLine (s : State) : List Byte :=
  match s.link.sending with
  | some r => replyFrame s r
  | none => []

end Sys2Proof.Machine
end

