-- ==== Sys2Proof/Machine/Bodies.lean ====
section
/-! DEFINITION. The command that the bytes of a service-link frame spell (R193 to R195, section 11.8): the framing, and
the body of every request field by field. -/

namespace Sys2Proof.Machine

/-! ## Reading fields -/

/-- A way to read some fields from the front of a body: their value with the bytes that are left, or none where the
body is too short for them. -/
def Reader (α : Type) : Type := List Byte → Option (α × List Byte)

/-- No field, of value `x`. -/
def always {α : Type} (x : α) : Reader α := fun bs => some (x, bs)

/-- A field, then the fields that follow it. -/
def Reader.andThen {α β : Type} (p : Reader α) (f : α → Reader β) : Reader β := fun bs =>
  match p bs with
  | some (x, rest) => f x rest
  | none => none

/-- A field of one byte. -/
def byteField : Reader Byte := fun bs =>
  match bs with
  | b :: rest => some (b, rest)
  | [] => none

/-- A field of `n` bytes, the most significant first. -/
def natField : Nat → Reader Nat
  | 0 => always 0
  | n + 1 => byteField.andThen fun b => (natField n).andThen fun x => always (b.toNat * 256 ^ n + x)

/-- A signed field of one byte. -/
def signedField : Reader Int := byteField.andThen fun b => always b.toInt

/-- Section 11.8: the value of a list that a number stands for. The manual gives a number outside the list no value, so
it is a free value (assumption 30). -/
def listed {α : Type} [Inhabited α] (l : List α) (n : Nat) : α :=
  l.getD (if n < l.length then n else Config.unlisted l.length n % l.length) default

/-- A field coded by its place in a list. -/
def codeField {α : Type} [Inhabited α] (l : List α) : Reader α := byteField.andThen fun b => always (listed l b.toNat)

/-- A yes or no, and a presence byte: 1 or 0 (assumption 9). -/
def flagField : Reader Bool := codeField [false, true]

/-- An optional field with its presence byte. -/
def optionalField {α : Type} (p : Reader α) : Reader (Option α) := flagField.andThen fun here =>
  if here then p.andThen fun x => always (some x) else always none

/-- `n` fields of one form. -/
def repeated {α : Type} (p : Reader α) : Nat → Reader (List α)
  | 0 => always []
  | n + 1 => p.andThen fun x => (repeated p n).andThen fun xs => always (x :: xs)

/-- A list, preceded by the number of its items. -/
def listField {α : Type} (p : Reader α) : Reader (List α) := byteField.andThen fun n => repeated p n.toNat

def u8Field : Reader Nat := natField 1
def u16Field : Reader Nat := natField 2
def addrField : Reader Addr := natField 3
def maskField : Reader (BitVec 16) := u16Field.andThen fun n => always (BitVec.ofNat 16 n)

/-- A kind mask: bits 0 to 3. DESIGN CHOICE (assumption 46): bits 4 to 7 stand for no kind and are ignored. -/
def kindMaskField : Reader KindMask := u8Field.andThen fun n => always (BitVec.ofNat 4 n)

/-- A number whose field has `w` bits; one that has more is given no value, so it is a free value (assumption 30). -/
def bitsOf (w n : Nat) : BitVec w := BitVec.ofNat w (if n < 2 ^ w then n else Config.unlisted (2 ^ w) n)

/-- A field of three bytes whose values have 20 bits. -/
def bits20Field : Reader (BitVec 20) := addrField.andThen fun n => always (bitsOf 20 n)

/-- A table of `n` fields of one form. -/
def tableField {α : Type} [Inhabited α] (p : Reader α) (n : Nat) : Reader (Tab α n) :=
  (repeated p n).andThen fun l => always (Tab.build n (fun i => l.getD i default))

/-! ## The records of CONFIG_WRITE -/

def gasCodes : List Gas := [.co, .no2]
def dirCodes : List ProfileDir := [.forward, .reverse, .off]
def roleCodes : List PairRole := [.entry, .aisle, .decision]
def faceCodes : List FaceKind := [.count, .level, .decision, .blank]
def modeCodes : List FilterMode := [.exact, .mask, .range]
def inputCodes : List InputRole := [.noRole, .boost, .close, .profile, .mute]
def bayCodes : List BayKind := [.standard, .accessible, .charging, .family]
def recordCodes : List RecKind :=
  [.params, .zone, .bay, .sensor, .fan, .group, .presence, .path, .pair, .sign, .face, .filter, .input]

/-- The PARAMS record. R185 gives its values no order. DESIGN CHOICE (assumption 39): they stand as in `paramsBytes`. -/
def paramsField : Reader Params :=
  u8Field.andThen fun settle => u16Field.andThen fun shortCo => u16Field.andThen fun shortNo2 =>
  u16Field.andThen fun longCo => u16Field.andThen fun longNo2 => u8Field.andThen fun arrival =>
  u8Field.andThen fun departure => u8Field.andThen fun passage => (tableField u16Field 17).andThen fun curve =>
  u16Field.andThen fun elevated => u16Field.andThen fun high => u16Field.andThen fun alarm =>
  u8Field.andThen fun hysteresis => u16Field.andThen fun alarmHold => u16Field.andThen fun startLevel =>
  u16Field.andThen fun stopLevel => u16Field.andThen fun minRun => u16Field.andThen fun rampStep =>
  u8Field.andThen fun readyTimeout => u8Field.andThen fun readyLoss => u16Field.andThen fun dwell =>
  u16Field.andThen fun fallbackSpeed => u8Field.andThen fun sounderDiv => u8Field.andThen fun bitRate =>
  flagField.andThen fun attnHigh =>
  always ⟨settle, arrival, departure, passage, shortCo, shortNo2, longCo, longNo2, curve, elevated, high, alarm,
    hysteresis, alarmHold, startLevel, stopLevel, minRun, rampStep, readyTimeout, readyLoss, dwell, fallbackSpeed,
    sounderDiv, bitRate, attnHigh⟩

def zoneField : Reader ZoneRec :=
  flagField.andThen fun present => u16Field.andThen fun base => u16Field.andThen fun count =>
  u16Field.andThen fun demand => u8Field.andThen fun dark => always ⟨present, base, count, demand, dark⟩

/-- R29: an analog slot has counts and no source; a field slot has a source and no counts; the body carries no others
(DESIGN CHOICE, assumption 45). -/
def sensorField (n : Nat) : Reader SensorRec :=
  flagField.andThen fun present => (codeField gasCodes).andThen fun gas => u8Field.andThen fun zone =>
  (if isField n then addrField else always 0).andThen fun source => u16Field.andThen fun warmup =>
  (if isField n then always 0 else u16Field).andThen fun zeroCounts =>
  (if isField n then always 0 else u16Field).andThen fun top =>
  u16Field.andThen fun scale => u8Field.andThen fun k =>
  always ⟨present, gas, zone, source, warmup, zeroCounts, top, scale, k⟩

def fanField : Reader FanRec :=
  flagField.andThen fun present => u8Field.andThen fun owner => (listField u8Field).andThen fun assist =>
  u8Field.andThen fun weight => (tableField (codeField dirCodes) 4).andThen fun dirs =>
  always ⟨present, owner, assist, weight, dirs⟩

def groupField : Reader GroupRec :=
  flagField.andThen fun present => u8Field.andThen fun zone => addrField.andThen fun a =>
  (optionalField (u16Field.andThen fun base => u16Field.andThen fun count => always (base, count))).andThen fun bays =>
  u8Field.andThen fun base => u8Field.andThen fun presence => u16Field.andThen fun stay => u8Field.andThen fun fade =>
  always ⟨present, zone, a, bays, base, presence, stay, fade⟩

def presenceField : Reader PresenceRec :=
  flagField.andThen fun present => addrField.andThen fun a => u8Field.andThen fun group => always ⟨present, a, group⟩

def pathField : Reader PathRec :=
  flagField.andThen fun present => u8Field.andThen fun pair => u8Field.andThen fun delay =>
  u8Field.andThen fun step => (listField u8Field).andThen fun groups => always ⟨present, pair, delay, step, groups⟩

def pairField : Reader PairRec :=
  flagField.andThen fun present => u8Field.andThen fun a => (optionalField u8Field).andThen fun b =>
  (codeField roleCodes).andThen fun role => u8Field.andThen fun zone => (optionalField u8Field).andThen fun sign =>
  always ⟨present, a, b, role, zone, sign⟩

def candidateField : Reader Candidate :=
  maskField.andThen fun zones => u8Field.andThen fun arrow => always ⟨zones, bitsOf 3 arrow⟩

/-- R124: the fields that belong to the face's kind, and no others. DESIGN CHOICE (assumption 45): a body that carries the
others too does not fit its form. -/
def faceField : Reader FaceRec :=
  flagField.andThen fun present => (codeField faceCodes).andThen fun kind =>
  match kind with
  | .count => maskField.andThen fun zones => kindMaskField.andThen fun kinds =>
    always ⟨present, kind, zones, kinds, 1, [], 1⟩
  | .level => u8Field.andThen fun level => always ⟨present, kind, 0, 0, level, [], 1⟩
  | .decision => kindMaskField.andThen fun kinds => (listField candidateField).andThen fun candidates =>
    u8Field.andThen fun least => always ⟨present, kind, 0, kinds, 1, candidates, least⟩
  | .blank => always ⟨present, kind, 0, 0, 1, [], 1⟩

/-- R158: the fields that belong to the filter's mode, and no others. DESIGN CHOICE (assumption 45): a body that carries
the others too does not fit its form. -/
def filterField : Reader FilterRec :=
  flagField.andThen fun enabled => (codeField modeCodes).andThen fun mode =>
  match mode with
  | .exact => bits20Field.andThen fun code => always ⟨enabled, mode, code, 0, 0, 0⟩
  | .mask => bits20Field.andThen fun code => bits20Field.andThen fun mask => always ⟨enabled, mode, code, mask, 0, 0⟩
  | .range => bits20Field.andThen fun low => bits20Field.andThen fun high => always ⟨enabled, mode, 0, 0, low, high⟩

/-- R148: the fields that belong to the input's role, and no others (DESIGN CHOICE, assumption 45). -/
def inputField : Reader InputRec :=
  (codeField inputCodes).andThen fun role =>
  match role with
  | .boost => maskField.andThen fun zones => u16Field.andThen fun value => always ⟨role, zones, value⟩
  | .close => maskField.andThen fun zones => always ⟨role, zones, 0⟩
  | .profile => u8Field.andThen fun value => always ⟨role, 0, value⟩
  | .mute | .noRole => always ⟨role, 0, 0⟩

/-- The fields of a record that fill the rest of a body, or the record that the body does not fit. -/
def wholeRecord {α : Type} (p : Reader α) (make : α → CfgWrite) (kind : RecKind) (i sub : Nat) (bs : List Byte) :
    Req CfgWrite :=
  match p bs with
  | some (x, []) => .fits (make x)
  | some (_, _ :: _) | none => .fits (.misfit kind i sub)

/-- The index of a record: two bytes for a bay, sign and face for a FACE, one byte for the others. -/
def indexField (kind : RecKind) : Reader (Nat × Nat) :=
  match kind with
  | .bay => u16Field.andThen fun i => always (i, 0)
  | .face => u8Field.andThen fun i => u8Field.andThen fun f => always (i, f)
  | _ => u8Field.andThen fun i => always (i, 0)

/-- R185: the record of a kind and an index in the rest of a CONFIG_WRITE body. -/
def recordWrite (kind : RecKind) (i sub : Nat) (bs : List Byte) : Req CfgWrite :=
  match kind with
  | .params => wholeRecord paramsField (.params i) kind i sub bs
  | .zone => wholeRecord zoneField (.zone i) kind i sub bs
  | .bay => wholeRecord (listField (codeField bayCodes)) (.bay i) kind i sub bs
  | .sensor => wholeRecord (sensorField i) (.sensor i) kind i sub bs
  | .fan => wholeRecord fanField (.fan i) kind i sub bs
  | .group => wholeRecord groupField (.group i) kind i sub bs
  | .presence => wholeRecord presenceField (.presence i) kind i sub bs
  | .path => wholeRecord pathField (.path i) kind i sub bs
  | .pair => wholeRecord pairField (.pair i) kind i sub bs
  | .sign => wholeRecord (flagField.andThen fun present => addrField.andThen fun a =>
      (optionalField u8Field).andThen fun pair => always (present, a, pair))
      (fun x => .sign i x.1 x.2.1 x.2.2) kind i sub bs
  | .face => wholeRecord faceField (.face i sub) kind i sub bs
  | .filter => wholeRecord filterField (.filter i) kind i sub bs
  | .input => wholeRecord inputField (.input i) kind i sub bs
  | .closure | .dimming | .map => .fits .unknownKind

/-- R185: the body of a CONFIG_WRITE: kind, index, record. DESIGN CHOICE (assumption 48): a body of an unknown kind fits
whatever its length. -/
def configWriteBody (bs : List Byte) : Req CfgWrite :=
  match bs with
  | [] => .misfit
  | k :: rest =>
    match coded recordCodes k with
    | none => .fits .unknownKind
    | some kind =>
      match indexField kind rest with
      | some (i, fields) => recordWrite kind i.1 i.2 fields
      | none => .misfit

/-- R185: the body of a CONFIG_READ: kind, index, and the number of bays for kind BAY. DESIGN CHOICE (assumption 48): a body
of an unknown kind fits whatever its length. -/
def configReadBody (bs : List Byte) : Req CfgRead :=
  match bs with
  | [] => .misfit
  | k :: rest =>
    match coded recordCodes k with
    | none => .fits .unknownKind
    | some kind =>
      match indexField kind rest with
      | some (i, fields) =>
        match kind, fields with
        | .bay, [n] => .fits (.record kind i.1 n.toNat)
        | .bay, _ => .fits (.misfit kind i.1 0)
        | _, [] => .fits (.record kind i.1 i.2)
        | _, _ :: _ => .fits (.misfit kind i.1 i.2)
      | none => .misfit

/-! ## The other bodies -/

/-- A body that holds some fields and nothing more. -/
def whole {α : Type} (p : Reader α) (bs : List Byte) : Req α :=
  match p bs with
  | some (x, []) => .fits x
  | some (_, _ :: _) | none => .misfit

/-- A request whose fields are taken in another form. -/
def reqMap {α β : Type} (f : α → β) (r : Req α) : Req β :=
  match r with
  | .fits x => .fits (f x)
  | .misfit => .misfit

/-- A body that carries nothing. -/
def emptyBodyOf (bs : List Byte) : Req Unit := if bs.isEmpty then .fits () else .misfit

/-- R95: a block and its outputs, or none where the rest of the body does not hold them. DESIGN CHOICE (assumption 41):
the outputs are a list with its count, so that a wrong number of them is refused by the rule itself. -/
def curveField : Reader (Nat × Option (List Nat)) := u8Field.andThen fun block => fun rest =>
  match listField u16Field rest with
  | some (outputs, []) => some ((block, some outputs), [])
  | some (_, _ :: _) | none => some ((block, none), [])

/-- R134: the items, each a level and a count. -/
def levelsField : Reader (List (Nat × Nat)) :=
  listField (u8Field.andThen fun v => u16Field.andThen fun n => always (v, n))

/-- R142: kind, scope, value and remaining time; scope and value of the kinds that have them only (DESIGN CHOICE,
assumption 45). DESIGN CHOICE (assumption 48): a body of none of the six kinds fits whatever its length, so that R142
answers it BAD_INDEX. -/
def pushField : Reader PushReq := u8Field.andThen fun k =>
  let timed := fun (scope : BitVec 16) (value : Nat) =>
    (optionalField u16Field).andThen fun t => always (PushReq.mk k scope value t)
  match overrideKindOf k with
  | some .fanForce | some .ventBoost => maskField.andThen fun m => u16Field.andThen fun v => timed m v
  | some .lightLevel => maskField.andThen fun m => u8Field.andThen fun v => timed m v
  | some .zoneClose => maskField.andThen fun m => timed m 0
  | some .profile => u8Field.andThen fun v => timed 0 v
  | some .sounderMute => timed 0 0
  | none => fun _ => some (⟨k, 0, 0, none⟩, [])

/-- R179: a part-clock value and an optional correction. -/
def clockField : Reader (BitVec 32 × Option Int) :=
  (natField 4).andThen fun n => (optionalField signedField).andThen fun c => always (BitVec.ofNat 32 n, c)

/-- Two fields. -/
def pairOfFields {α β : Type} (p : Reader α) (q : Reader β) : Reader (α × β) :=
  p.andThen fun a => q.andThen fun b => always (a, b)

/-- The request of a kind code with a body (section 11.8), or the frame of an unknown kind. `pins` are the levels that
a RESET carries (assumption 14). DESIGN CHOICE (assumption 46): bits 6 and 7 of the class enables of NOTICE_CLASSES stand
for no class and are ignored. DEDUCED (assumption 49): the id of an OVERRIDE_REMOVE is one byte, so a body with a longer
one does not fit and is answered BAD_LENGTH. -/
def requestOf (pins : Straps) (kind : Byte) (body : List Byte) : Instr :=
  match kind.toNat with
  | 0x01 => .identify (emptyBodyOf body)
  | 0x02 => .getStatus (emptyBodyOf body)
  | 0x03 => .reset (reqMap (fun _ => pins) (emptyBodyOf body))
  | 0x04 => .setClock false (whole clockField body)
  | 0x05 => .getClock (emptyBodyOf body)
  | 0x10 => .configOpen (emptyBodyOf body)
  | 0x11 => .configWrite (configWriteBody body)
  | 0x12 => .configRead (configReadBody body)
  | 0x13 => .configClose (emptyBodyOf body)
  | 0x14 => .configStore (reqMap (BitVec.ofNat 16) (whole u16Field body))
  | 0x15 => .curveWrite (whole curveField body)
  | 0x16 => .curveRead (whole u8Field body)
  | 0x20 => .mapWrite (whole (pairOfFields addrField u16Field) body)
  | 0x21 => .mapRemove (whole addrField body)
  | 0x22 => .mapLookup (whole addrField body)
  | 0x23 => .mapReadSet (whole u8Field body)
  | 0x24 => .listUnknown (emptyBodyOf body)
  | 0x25 => .clearUnknown (emptyBodyOf body)
  | 0x30 => .readZone (whole u8Field body)
  | 0x31 => .readBays (whole (pairOfFields u16Field u8Field) body)
  | 0x32 => .readSensor (whole u8Field body)
  | 0x33 => .readFan (whole u8Field body)
  | 0x34 => .readGroup (whole u8Field body)
  | 0x35 => .readSign (whole u8Field body)
  | 0x36 => .readLoops (emptyBodyOf body)
  | 0x40 => .bayReserve (whole (pairOfFields u16Field u16Field) body)
  | 0x41 => .bayRelease (whole u16Field body)
  | 0x42 => .bayClose (whole u16Field body)
  | 0x43 => .bayOpen (whole u16Field body)
  | 0x44 => .fanClear (whole u8Field body)
  | 0x45 => .levelCounts false (whole levelsField body)
  | 0x50 => .overridePush (whole pushField body)
  | 0x51 => .overridePop (emptyBodyOf body)
  | 0x52 => .overrideRemove (whole u8Field body)
  | 0x53 => .overrideList (emptyBodyOf body)
  | 0x60 => .fetchNotices (emptyBodyOf body)
  | 0x61 => .noticeClasses (reqMap (BitVec.ofNat 6) (whole u8Field body))
  | _ => .unknownKind kind

/-- R194: the broadcast of a kind code, or the ignored frame of another kind. -/
def broadcastOf (kind : Byte) (body : List Byte) : Instr :=
  if kind = 0x04 then .setClock true (whole clockField body)
  else if kind = 0x45 then .levelCounts true (whole levelsField body)
  else .frameIgnored 0 kind

/-! ## Whole frames -/

/-- R194: the command of a complete frame. -/
def completeFrame (pins : Straps) (s : State) (addr kind : Byte) (body : List Byte) : Instr :=
  if addr.toNat = nodeAddress s then
    if kind ≥ 0x80 then .frameIgnored addr.toNat kind else requestOf pins kind body
  else if addr = 0 then broadcastOf kind body
  else .frameIgnored addr.toNat kind

/-- R193: the command that the bytes after a SYNC spell, when no more bytes follow: an abandoned LEN, a frame broken
off by the gap, a CRC that does not match, or a complete frame. -/
def frameBytes (pins : Straps) (s : State) (bs : List Byte) : Instr :=
  match bs with
  | addr :: len :: rest =>
    if len = 0 ∨ len > 251 then .frameLenAbandoned len
    else
      let body := rest.take len.toNat
      let crc := (rest.drop len.toNat).take 2
      match body, crc with
      | kind :: fields, [hi, lo] =>
        if crc16 (addr :: len :: body) = hi ++ lo then completeFrame pins s addr kind fields
        else .frameCrcMismatch
      | _, _ => .frameGapTimeout
  | _ => .frameGapTimeout

end Sys2Proof.Machine
end

