-- ==== Sys2Proof/WellFormed.lean ====
section
/-! DEFINITION. The commands that can come from outside: every field within the bits or bytes that carry it
(sections 4.5 and 11.8), every event naming a thing the part has. -/

namespace Sys2Proof

/-- A value that fits `n` bytes. -/
def fits (n x : Nat) : Bool := x < 256 ^ n

/-- A list whose length fits its one byte, of items that fit. -/
def fitsList {α : Type} (p : α → Bool) (l : List α) : Bool := fits 1 l.length && l.all p

/-- A request whose fields fit, or a body that does not fit its form. -/
def fitsReq {α : Type} (p : α → Bool) : Req α → Bool
  | .fits x => p x
  | .misfit => true

/-- A field address of 20 bits. -/
def fitsAddr (a : Addr) : Bool := a < 2 ^ 20

/-- An order that names no part twice. -/
def noRepeat {α : Type} [DecidableEq α] (l : List α) : Bool := decide l.Nodup

def fitsParams (p : Params) : Bool :=
  [p.settle, p.arrival, p.departure, p.passage, p.hysteresis, p.readyTimeout, p.readyLoss, p.sounderDiv,
    p.bitRate].all (fits 1)
  && [p.shortCo, p.shortNo2, p.longCo, p.longNo2, p.elevated, p.high, p.alarm, p.alarmHold, p.startLevel, p.stopLevel,
    p.minRun, p.rampStep, p.dwell, p.fallbackSpeed].all (fits 2)
  && p.curve.list.all (fits 2)

def fitsZone (r : ZoneRec) : Bool := [r.bayBase, r.bayCount, r.fallbackDemand].all (fits 2) && fits 1 r.darkLimit

def fitsSensor (r : SensorRec) : Bool :=
  fits 1 r.zone && fits 3 r.source && [r.warmup, r.zero, r.span, r.fullScale].all (fits 2) && fits 1 r.k

def fitsFan (r : FanRec) : Bool := fits 1 r.owner && fitsList (fits 1) r.assist && fits 1 r.weight

def fitsGroup (r : GroupRec) : Bool :=
  [r.zone, r.base, r.presence, r.fade].all (fits 1) && fits 3 r.addr && fits 2 r.stayLit
  && r.bays.all (fun b => fits 2 b.1 && fits 2 b.2)

def fitsPresence (r : PresenceRec) : Bool := fits 3 r.addr && fits 1 r.group

def fitsPath (r : PathRec) : Bool := [r.pair, r.startDelay, r.step].all (fits 1) && fitsList (fits 1) r.groups

def fitsPair (r : PairRec) : Bool := [r.inA, r.zone].all (fits 1) && r.inB.all (fits 1) && r.sign.all (fits 1)

def fitsFace (r : FaceRec) : Bool := fits 1 r.level && fits 1 r.minFree && fits 1 r.candidates.length

def fitsInput (r : InputRec) : Bool := fits 2 r.value

/-- R185: a CONFIG_WRITE whose fields fit their bytes; the length of a `misfit` record and an unknown kind are free. -/
def fitsWrite : CfgWrite → Bool
  | .params i r => fits 1 i && fitsParams r
  | .zone i r => fits 1 i && fitsZone r
  | .bay first kinds => fits 2 first && fits 1 kinds.length
  | .sensor i r => fits 1 i && fitsSensor r
  | .fan i r => fits 1 i && fitsFan r
  | .group i r => fits 1 i && fitsGroup r
  | .presence i r => fits 1 i && fitsPresence r
  | .path i r => fits 1 i && fitsPath r
  | .pair i r => fits 1 i && fitsPair r
  | .sign i _ a pair => fits 1 i && fits 3 a && pair.all (fits 1)
  | .face i f r => fits 1 i && fits 1 f && fitsFace r
  | .filter i _ => fits 1 i
  | .input i r => fits 1 i && fitsInput r
  | .unknownKind => true
  | .misfit kind i sub => fits (if kind = .bay then 2 else 1) i && fits 1 sub

def fitsRead : CfgRead → Bool
  | .record kind i sub => fits (if kind = .bay then 2 else 1) i && fits 1 sub
  | .unknownKind => true
  | .misfit kind i sub => fits (if kind = .bay then 2 else 1) i && fits 1 sub

def fitsPush (q : PushReq) : Bool := fits 1 q.kind && fits 2 q.value && q.remaining.all (fits 2)

/-- A correction of one signed byte. -/
def fitsCorrection (c : Int) : Bool := -128 ≤ c && c ≤ 127

/-- Section 11.8: bit 0 of a zone mask is ignored, so the records that a body decodes to have it clear
(assumption 11). -/
def fitsMasks (c : Cfg) : Bool :=
  c.signs.list.all (fun x => x.faces.list.all (fun f =>
    !f.zones.getLsbD 0 && f.candidates.all (fun y => !y.zones.getLsbD 0)))
  && c.inputs.list.all (fun x => !x.zones.getLsbD 0)

/-- The header page of a supplied image has its 64 bytes (R183), and its masks are sets over zones 1..15. -/
def fitsSource : LoadSource → Bool
  | .held | .silent => true
  | .supplied im => im.page0.length == 64 && fitsMasks im.body.cfg

/-- A command that can come from outside. -/
def wellFormed : Instr → Bool
  | .powerOnReset _ | .commandedReset _ | .correctionWindow => true
  | .loadEnd source => fitsSource source
  | .t32Tap _ _ order => noRepeat order
  | .t4Tap _ order => noRepeat order
  | .t1Tap _ order => noRepeat order
  | .warmupEnd slot _ => decide (slot < 32)
  | .sensorSilent slot => 8 ≤ slot && slot < 32
  | .doseRingAdvance z | .creditDecay z | .alarmHoldEnd z => 1 ≤ z && z < 16
  | .bayState a _ _ | .pedPresence a _ | .lumState a _ | .signState a _ | .announce a _ => fitsAddr a
  | .gasValue a g => fitsAddr a && (match g with
    | .ok v => fits 2 v
    | .warmup | .fault => true)
  | .fieldFrameDiscarded _ => true
  | .settleExpiry b | .reservationExpiry b => b < 512
  | .silenceScan | .lightResend | .rotationAdvance | .guidanceResend | .overrideExpiry => true
  | .stayLitEnd g => g < 48
  | .pathStep p => p < 4
  | .readyTimeout n | .readyLoss n | .coastEnd n => n < 12
  | .loopOccupied i | .loopRelease i | .loopStuck i => i < 8
  | .sequenceTimeout p => p < 4
  | .levelStale v => 1 ≤ v && v < 8
  | .inputActive k | .inputRelease k => k < 2
  | .frameOffer | .arbitrationLost | .attemptSuccess | .attemptFailed | .busOffRecovery => true
  | .storePageDone | .storeReadbackDone _ | .storePageTimeout => true
  | .frameGapTimeout | .frameCrcMismatch | .frameSync | .replyStart | .replyEnd | .pwmPeriodStart => true
  | .frameIgnored a _ => fits 1 a
  | .unknownKind kind => kind < 0x80 && !requestKinds.contains kind.toNat
  | .frameLenAbandoned len => len == 0 || len > 251
  | .identify _ | .getStatus _ | .reset _ | .getClock _ | .configOpen _ | .configClose _ | .listUnknown _
  | .clearUnknown _ | .readLoops _ | .overridePop _ | .overrideList _ | .fetchNotices _ => true
  | .configStore _ | .noticeClasses _ => true
  | .setClock _ r => fitsReq (fun x => x.2.all fitsCorrection) r
  | .configWrite r => fitsReq fitsWrite r
  | .configRead r => fitsReq fitsRead r
  | .curveWrite r => fitsReq (fun x => fits 1 x.1 && x.2.all (fitsList (fits 2))) r
  | .mapWrite r => fitsReq (fun x => fits 3 x.1 && fits 2 x.2) r
  | .mapRemove r | .mapLookup r => fitsReq (fits 3) r
  | .curveRead r | .mapReadSet r | .readZone r | .readSensor r | .readFan r | .readGroup r | .readSign r | .fanClear r
  | .overrideRemove r => fitsReq (fits 1) r
  | .readBays r => fitsReq (fun x => fits 2 x.1 && fits 1 x.2) r
  | .bayReserve r => fitsReq (fun x => fits 2 x.1 && fits 2 x.2) r
  | .bayRelease r | .bayClose r | .bayOpen r => fitsReq (fits 2) r
  | .levelCounts _ r => fitsReq (fitsList (fun x => fits 1 x.1 && fits 2 x.2)) r
  | .overridePush r => fitsReq fitsPush r

end Sys2Proof
end

