-- ==== Sys2Proof/Safety.lean ====
section
/-! DEFINITION. What the statements say of a state: the laws of the manual that every step keeps, the parts of the state
that a command may change, and when the part takes a request. -/

namespace Sys2Proof.Machine

/-! ## Frames -/

/-- The parts of the state. `slots` are the transmit slots and the call list, `bus` the rest of the field bus
controller; `notices` are the notice queue, LOST and ATTN, `link` the rest of the service link. -/
inductive Block
  | cfg | time | occ | air | fan | light | loops | guide | ovr | slots | bus | notices | link | free | pending
deriving DecidableEq, Repr

/-- The part `b` of the state is the same in `s` and `t`. -/
def keeps (s t : State) : Block → Prop
  | .cfg => t.cfg = s.cfg
  | .time => t.time = s.time
  | .occ => t.occ = s.occ
  | .air => t.air = s.air
  | .fan => t.fan = s.fan
  | .light => t.light = s.light
  | .loops => t.loops = s.loops
  | .guide => t.guide = s.guide
  | .ovr => t.ovr = s.ovr
  | .slots => t.bus.slots = s.bus.slots ∧ t.bus.calls = s.bus.calls
  | .bus => t.bus = { s.bus with slots := t.bus.slots, calls := t.bus.calls }
  | .notices => t.link.notices = s.link.notices ∧ t.link.lost = s.link.lost ∧ t.link.attn = s.link.attn
  | .link => t.link = { s.link with notices := t.link.notices, lost := t.link.lost, attn := t.link.attn }
  | .free => t.free = s.free
  | .pending => t.pending = s.pending

/-- Only the parts `bs` of the state may differ between `s` and `t`. -/
def changesOnly (bs : List Block) (s t : State) : Prop := ∀ b, b ∉ bs → keeps s t b

/-! ## The laws of the manual -/

/-- R197: at most 32 notices, no two with the same kind and subject; R199: ATTN is active exactly when the queue is
non-empty or LOST is set. -/
structure QueueLaw (l : Link) : Prop where
  bounded : l.notices.length ≤ 32
  distinct : l.notices.Pairwise (fun a b => sameNotice a.notice b.notice = false)
  attn : l.attn = attnOf l.notices l.lost

/-- R174, R176, R177: the prescaler, the cycle of the window and the two correction values. -/
structure TimeLaw (x : Time) : Prop where
  prescaler : x.prescaler < 32768
  cycle : 1 ≤ x.cycle ∧ x.cycle ≤ windowCycles
  correction : x.correction.natAbs ≤ 127
  next : ∀ c, x.nextCorrection = some c → c.natAbs ≤ 127

/-- R110, R115: the level vehicle count stays within 0..9999 and the tallies within 0..65535. -/
structure CountLaw (l : Loops) : Prop where
  count : l.count ≤ 9999
  tallies : ∀ p, p < 4 →
    (l.pairs.nth p).tallyIn ≤ 65535 ∧ (l.pairs.nth p).tallyOut ≤ 65535 ∧ (l.pairs.nth p).backOut ≤ 65535
      ∧ (l.pairs.nth p).timeout ≤ 65535

/-- R141: at most eight entries, with distinct ids within 1..255; R140: the values that bound a demand or a speed. -/
structure StackLaw (stack : List Entry) : Prop where
  bounded : stack.length ≤ 8
  distinct : (stack.map (·.id)).Nodup
  range : ∀ e ∈ stack, 1 ≤ e.id ∧ e.id ≤ 255
  values : ∀ e ∈ stack, e.value ≤ 1000

/-- R152: the sounder sounds exactly when some zone is in ALARM and no SOUNDER_MUTE entry is on the stack; it is silent
exactly when no zone is in ALARM. -/
structure SounderLaw (s : State) : Prop where
  sounds : (∃ on, s.ovr.sounder = .sounding on) ↔ (alarmZones s ≠ [] ∧ muted s = false)
  silent : s.ovr.sounder = .silent ↔ alarmZones s = []

/-- R1, R45, R60, R61: the values of a configuration that bound a demand and a reference. -/
structure Tuned (c : Cfg) : Prop where
  curve : ∀ i, i < 17 → c.params.curve.nth i ≤ 1000
  minRun : c.params.minRun ≤ 1000
  fallbackSpeed : c.params.fallbackSpeed ≤ 1000
  demands : ∀ z, 1 ≤ z → z < 16 → (c.zones.nth z).fallbackDemand ≤ 1000
  weights : ∀ n, n < 12 → (c.fans.nth n).weight ≤ 100

/-- R185: both copies of the records hold values within these ranges. -/
structure CfgLaw (s : State) : Prop where
  inForce : Tuned s.cfg.inForce
  working : Tuned s.cfg.working

/-- R44: the values of a zone's air record. -/
structure ZoneAirLaw (x : ZoneAir) : Prop where
  e : x.e ≤ 1000
  s : x.s ≤ 2000
  l : x.l ≤ 2000
  twa : x.twa ≤ 2000
  z : x.z ≤ 2000
  lastD : x.lastD ≤ 1000
  floor : x.floor ≤ 1000
  demand : x.demand ≤ 1000
  /-- R41: no bucket holds more than 2000 for each of its samples. -/
  ring : ∀ i, i < 16 → (x.ring.nth i).sum ≤ 2000 * (x.ring.nth i).count

/-- R38: the indices of a sensor's filtered value. -/
def SensorLaw (x : Sensor) : Prop := ∀ f, x.filtered = some f → f.short ≤ 2000 ∧ f.long ≤ 2000

/-- R38, R44: the values of the air job. -/
structure AirLaw (s : State) : Prop where
  zones : ∀ z, z < 16 → ZoneAirLaw (s.air.zones.nth z)
  sensors : ∀ n, n < 32 → SensorLaw (s.air.sensors.nth n)

/-- Does a channel's state turn the fan: STARTING, RUNNING and STOPPING (section 3.3)? -/
abbrev turns (st : FanState) : Prop := st = .starting ∨ st = .running ∨ st = .stopping

/-- R62, R67, R78: what holds of a fan channel in its state, under the minimum run of a configuration. -/
structure ChannelLaw (p : Params) (x : Channel) : Prop where
  /-- The driven direction is present exactly in STARTING, RUNNING and STOPPING. -/
  driven : x.driven.isSome = true ↔ turns x.state
  /-- The fault reason is present exactly in FAULT. -/
  reason : x.reason.isSome = true ↔ x.state = .fault
  /-- The reference is 0 in STOPPED, DWELL and FAULT. -/
  resting : ¬ turns x.state → x.reference = 0
  /-- It lies within the minimum run and 1000 in STARTING, RUNNING and STOPPING. -/
  turning : turns x.state → p.minRun ≤ x.reference ∧ x.reference ≤ 1000
  /-- The outputs FWD and REV are never both non-zero. -/
  outputs : x.fwd = 0 ∨ x.rev = 0
  /-- The value of an effective FAN_FORCE. -/
  force : ∀ f, x.force = some f → f.2 ≤ 1000

/-- R67: the law of every channel; no fan turns during LOADING. -/
structure FanLaw (s : State) : Prop where
  channels : ∀ n, n < 12 → ChannelLaw (params s) (s.fan.channels.nth n)
  loading : loading s = true → ∀ n, n < 12 → ¬ turns (s.fan.channels.nth n).state

/-- R4: the state of every bay is the one derived from its admin and sensed values. -/
def BayLaw (s : State) : Prop := ∀ b, b < 512 → (bayOf s b).state = bayStateOf (running s) (bayOf s b)

/-- R15: how many bays of a zone and a kind are FREE. -/
def freeBays (s : State) (z : Nat) (k : BayKind) : Nat :=
  ((List.range 512).filter (fun b =>
    (bayOf s b).zone == z && bayKind s b == k && (bayOf s b).state == .free)).length

/-- R15: the free counts are the numbers of FREE bays, and outside RUNNING every bay is UNKNOWN and every count 0. -/
structure FreeLaw (s : State) : Prop where
  counts : ∀ z k, zonePresent s.cfg.inForce z = true → (s.occ.free.nth z).nth k.ctorIdx = freeBays s z k
  untracked : running s = false → (∀ b, b < 512 → (bayOf s b).state = .unknown)
    ∧ (∀ z k, z < 16 → k < 4 → (s.occ.free.nth z).nth k = 0)

/-- R21: the map holds at most one entry per address and at most one per bay; a bay's detector address is present
exactly when the map holds an entry for it, with that entry's address. -/
structure MapLaw (s : State) : Prop where
  addresses : (mapEntries s.cfg.map).Pairwise (fun x y => entryAddr x.1 x.2.2 ≠ entryAddr y.1 y.2.2)
  bays : (mapEntries s.cfg.map).Pairwise (fun x y => x.2.2.bay ≠ y.2.2.bay)
  detectors : ∀ b, b < 512 → (bayOf s b).detector = boundAddr (mapEntries s.cfg.map) b

/-- R164, R167, R169: no key stands in two slots, one attempt at most is in progress, a slot has at most fifteen
unsuccessful attempts behind it, and only a slot with an attempt in progress is marked withdrawn. -/
structure SlotLaw (b : FieldBus) : Prop where
  distinct : (filledSlots b).Pairwise (fun x y => x.2.key ≠ y.2.key)
  single : (filledSlots b).Pairwise (fun x y => x.2.trying = false ∨ y.2.trying = false)
  attempts : ∀ i x, i < 16 → b.slots.nth i = some x → x.attempts ≤ 15 ∧ (x.withdrawn = true → x.trying = true)

/-- R165: outside LOADING no destination is left waiting while a slot is free, unless its key stands in a slot. -/
def FillLaw (s : State) : Prop :=
  loading s = false → freeSlot s.bus ≠ none →
    ∀ d, d ∈ waitingDests s → ∀ k, destKey s d = some k → slotWith s.bus k ≠ none

/-- R161, R163, R170, R171: the error count with the bus state that follows it, the taps counted in OFF, and the
lengths of the two lists. -/
structure BusLaw (b : FieldBus) : Prop where
  errors : b.errors ≤ 263
  state : b.state = busStateOf b.errors
  off : b.offTaps < 4
  calls : b.calls.length ≤ 16
  unknown : b.unknown.length ≤ 8

/-- R47: the floor of a zone: the largest value among the VENT_BOOST entries that cover it, or 0 when there is none. -/
def floorIs (stack : List Entry) (z n : Nat) : Prop :=
  (∀ e ∈ stack, e.coversZone .ventBoost z = true → e.value ≤ n) ∧
  (n = 0 ∨ ∃ e ∈ stack, e.coversZone .ventBoost z = true ∧ e.value = n)

/-- R47, R48: in RUNNING every present zone holds its floor, and the demand that its contributors, its last D, its
fallback demand and its floor give. -/
def DemandLaw (s : State) : Prop :=
  running s = true → ∀ z, zonePresent s.cfg.inForce z = true →
    let x := s.air.zones.nth z
    let fallback := (s.cfg.inForce.zones.nth z).fallbackDemand
    floorIs s.ovr.stack z x.floor ∧
    (0 < x.contributors → x.demand = max x.lastD x.floor) ∧
    (x.contributors = 0 → x.state ≠ .alarm → x.demand = max fallback x.floor) ∧
    (x.contributors = 0 → x.state = .alarm → x.demand = max x.lastD (max fallback x.floor))

/-- R119: in RUNNING the status of every present zone is the one its inputs give. -/
def StatusLaw (s : State) : Prop :=
  running s = true → ∀ z, zonePresent s.cfg.inForce z = true → s.guide.status.nth z = deriveStatus s z

/-- R79: in RUNNING and EDITING, VENT_LOST of every present zone is the one its fans give. -/
def VentLaw (s : State) : Prop :=
  running s = true ∨ s.cfg.state = .editing →
    ∀ z, zonePresent s.cfg.inForce z = true → s.fan.ventLost.nth z = deriveVentLost s z

/-- R102: in RUNNING the dark count of every present zone is the number of its groups not OK, and the zone is DARK
exactly when that exceeds its dark limit. -/
def DarkLaw (s : State) : Prop :=
  running s = true → ∀ z, zonePresent s.cfg.inForce z = true →
    s.light.darkCount.nth z = deriveDarkCount s z
      ∧ (s.light.dark.nth z = true ↔ (s.cfg.inForce.zones.nth z).darkLimit < deriveDarkCount s z)

/-- R122: the wanted colour of every bay lamp is the one its bay and zone give. -/
def LampLaw (s : State) : Prop := ∀ b, b < 512 → (s.guide.lamps.nth b).wanted = lampColour s b

/-- R126, R127: the value that a COUNT, LEVEL or BLANK face shows. -/
def faceShows (s : State) (r : FaceRec) : Option FaceValue :=
  match r.kind with
  | .count => some (countValue s r)
  | .level => some (levelValue s r.level)
  | .blank => some .blank
  | .decision => none

/-- R128 to R131: the choice of a DECISION face is NONE or a candidate of the eligible set, so one whose free count over
OPEN zones is at least the minimum; it is NONE only when none of the candidates 0..3 is eligible; and the face wants what
that choice shows. -/
structure ChoiceLaw (s : State) (r : FaceRec) (x : Face) : Prop where
  eligible : ∀ k, x.choice = some k → k ∈ eligibleSet s r
  enough : ∀ k, x.choice = some k → ∃ c, r.candidates[k]? = some c ∧ r.minFree ≤ candidateFree s r.kinds c
  none : x.choice = none → ∀ k, k < 4 → k ∉ eligibleSet s r
  wanted : x.wanted = choiceValue s r x.choice

/-- R126 to R131: in RUNNING every present COUNT, LEVEL and BLANK face wants the value its inputs give, and every present
DECISION face keeps the law of its choice. -/
def FaceLaw (s : State) : Prop :=
  running s = true → ∀ x, x ∈ allFaces s →
    let r := faceRec s x.1 x.2
    (∀ v, faceShows s r = some v → (faceOf s x.1 x.2).wanted = v) ∧
    (r.kind = .decision → ChoiceLaw s r (faceOf s x.1 x.2))

/-- R93, R94: in RUNNING the level, the fade and the wanted value of every present group are those its inputs give;
R89: its stay-lit time does not exceed the configured one. -/
def GroupLaw (s : State) : Prop :=
  running s = true → ∀ g, g ∈ presentGroups s →
    (s.light.groups.nth g).stay ≤ (s.cfg.inForce.groups.nth g).stayLit ∧ s.light.groups.nth g = formedGroup s g

/-! ## Passages -/

/-- R129, R130: a DECISION face is advanced: its tree turned away from its choice, a selection made, its value formed. -/
def Advanced (s : State) (r : FaceRec) (old new : Face) : Prop :=
  let turned := match old.choice with
    | some k => if k < 2 then { old.tree with b0 := true, b1 := k == 0 } else { old.tree with b0 := false, b2 := k == 2 }
    | none => old.tree
  new.tree = turned ∧ new.choice = select turned (eligibleSet s r) ∧ new.wanted = choiceValue s r new.choice

/-- R97, R98: a path that has just started; with no start delay its first group is already triggered. -/
def startedPath (r : PathRec) : PathRun :=
  if 0 < r.startDelay then .running 0 r.startDelay else if 1 < r.groups.length then .running 1 r.step else .idle

/-- R97, R98: group `g` is triggered at once when the paths of pair `p` start. -/
def triggeredAtStart (s : State) (p g : Nat) : Prop :=
  g ∈ presentGroups s ∧ ∃ q ∈ presentPaths s,
    (s.cfg.inForce.paths.nth q).pair = p ∧ (s.cfg.inForce.paths.nth q).startDelay = 0 ∧
    (s.cfg.inForce.paths.nth q).groups[0]? = some g

/-- R130: face `f` of sign `i` is a present DECISION face of the sign of pair `p`, whose role is DECISION. -/
def turnedBy (s : State) (p i f : Nat) : Prop :=
  (s.cfg.inForce.pairs.nth p).role = .decision ∧ (s.cfg.inForce.pairs.nth p).sign = some i ∧ (i, f) ∈ allFaces s ∧
    (faceRec s i f).kind = .decision

/-- R116: what the passage `d` at pair `p` announces, in going from `s` to `t`: in RUNNING every passage credits the pair's
zone (R42), and an IN or undirected one starts the pair's paths (R97) and turns the arrows of its sign (R130). Nothing else
of the air, the paths, the groups and the faces changes, and nothing at all outside RUNNING or without a passage. -/
structure PassageTold (s t : State) (p : Nat) (d : Option Direction) : Prop where
  credited : running s = true → d ≠ none → ∀ z, z = (s.cfg.inForce.pairs.nth p).zone → zonePresent s.cfg.inForce z = true →
    t.air.zones.nth z = { s.air.zones.nth z with e := min 1000 ((s.air.zones.nth z).e + (params s).passage) }
  otherAir : (running s = true → d ≠ none → zonePresent s.cfg.inForce (s.cfg.inForce.pairs.nth p).zone = false) →
    t.air = s.air
  otherZones : t.air = { s.air with zones := t.air.zones } ∧
    ∀ z, z ≠ (s.cfg.inForce.pairs.nth p).zone → t.air.zones.nth z = s.air.zones.nth z
  started : running s = true → d = some .into ∨ d = some .undirected →
    (∀ q ∈ presentPaths s, (s.cfg.inForce.paths.nth q).pair = p →
      t.light.paths.nth q = startedPath (s.cfg.inForce.paths.nth q)) ∧
    (∀ g, triggeredAtStart s p g → (t.light.groups.nth g).stay = (s.cfg.inForce.groups.nth g).stayLit) ∧
    (∀ i f, turnedBy s p i f → Advanced s (faceRec s i f) (faceOf s i f) (faceOf t i f))
  otherPaths : ∀ q, (running s = true → d = some .into ∨ d = some .undirected → q ∈ presentPaths s →
    (s.cfg.inForce.paths.nth q).pair ≠ p) → t.light.paths.nth q = s.light.paths.nth q
  otherGroups : ∀ g, (running s = true → d = some .into ∨ d = some .undirected → ¬ triggeredAtStart s p g) →
    { t.light.groups.nth g with waiting := false } = { s.light.groups.nth g with waiting := false }
  otherFaces : ∀ i f, (running s = true → d = some .into ∨ d = some .undirected → ¬ turnedBy s p i f) →
    { faceOf t i f with waiting := false } = { faceOf s i f with waiting := false }

/-! ## The records of the configuration -/

/-- R185: the record that a CONFIG_WRITE names, by its kind, its index and a second number: the face of a FACE record, the
number of kinds of a BAY record. None for an unknown kind and for a body that does not fit. -/
def writtenRecord : CfgWrite → Option (RecKind × Nat × Nat)
  | .params i _ => some (.params, i, 0) | .zone i _ => some (.zone, i, 0)
  | .bay first kinds => some (.bay, first, kinds.length) | .sensor i _ => some (.sensor, i, 0)
  | .fan i _ => some (.fan, i, 0) | .group i _ => some (.group, i, 0) | .presence i _ => some (.presence, i, 0)
  | .path i _ => some (.path, i, 0) | .pair i _ => some (.pair, i, 0) | .sign i _ _ _ => some (.sign, i, 0)
  | .face i f _ => some (.face, i, f) | .filter i _ => some (.filter, i, 0) | .input i _ => some (.input, i, 0)
  | .unknownKind | .misfit _ _ _ => none

/-- R185: the indices of each record kind. -/
def inRange : RecKind → Nat → Nat → Prop
  | .params, i, _ => i = 0
  | .zone, i, _ => 1 ≤ i ∧ i ≤ 15
  | .bay, i, _ => i ≤ 511
  | .sensor, i, _ | .presence, i, _ => i ≤ 31
  | .fan, i, _ => i ≤ 11
  | .group, i, _ => i ≤ 47
  | .path, i, _ | .pair, i, _ => i ≤ 3
  | .sign, i, _ => i ≤ 23
  | .face, i, f => i ≤ 23 ∧ f ≤ 3
  | .filter, i, _ => i ≤ 7
  | .input, i, _ => 1 ≤ i ∧ i ≤ 2
  | .closure, _, _ | .dimming, _, _ | .map, _, _ => False

/-- R185: the records of two configurations are equal, but for the record of kind `k` at index `i`, or for the `n` bays
from `i` on where `k` is BAY, or for face `n` of sign `i` where `k` is FACE. A SIGN record holds no face. -/
structure SameBut (k : RecKind) (i n : Nat) (c d : Cfg) : Prop where
  params : k ≠ .params → d.params = c.params
  zones : ∀ j, k ≠ .zone ∨ j ≠ i → d.zones.nth j = c.zones.nth j
  kinds : ∀ b, k ≠ .bay ∨ b < i ∨ i + n ≤ b → d.kinds.nth b = c.kinds.nth b
  sensors : ∀ j, k ≠ .sensor ∨ j ≠ i → d.sensors.nth j = c.sensors.nth j
  fans : ∀ j, k ≠ .fan ∨ j ≠ i → d.fans.nth j = c.fans.nth j
  groups : ∀ j, k ≠ .group ∨ j ≠ i → d.groups.nth j = c.groups.nth j
  presence : ∀ j, k ≠ .presence ∨ j ≠ i → d.presence.nth j = c.presence.nth j
  paths : ∀ j, k ≠ .path ∨ j ≠ i → d.paths.nth j = c.paths.nth j
  pairs : ∀ j, k ≠ .pair ∨ j ≠ i → d.pairs.nth j = c.pairs.nth j
  signs : ∀ j, k ≠ .sign ∨ j ≠ i →
    d.signs.nth j = { c.signs.nth j with faces := (d.signs.nth j).faces }
  faces : ∀ j f, k ≠ .face ∨ j ≠ i ∨ f ≠ n → (d.signs.nth j).faces.nth f = (c.signs.nth j).faces.nth f
  filters : ∀ j, k ≠ .filter ∨ j ≠ i → d.filters.nth j = c.filters.nth j
  inputs : ∀ j, k ≠ .input ∨ j + 1 ≠ i → d.inputs.nth j = c.inputs.nth j

/-! ## The timebase and the resets -/

/-- R176: the adjusted cycles of a window under correction `c`. -/
def adjustedCycle (c : Int) (n : Nat) : Prop := ∃ j, 1 ≤ j ∧ j ≤ c.natAbs ∧ n = j * (1048576 / c.natAbs)

/-- R174: a position that comes every `d` counts is passed as the prescaler goes from `p` by `k` counts. -/
def positionPassed (d p k : Nat) : Prop := ∃ m, p < d * m ∧ d * m ≤ p + k

/-- R28, R58, R84, R105, R118, R138, R155, R173, R191, R200: what every reset leaves, but for the timebase and the one
notice. -/
structure FreshlyReset (t : State) : Prop where
  cfg : t.cfg.state = .loading ∧ t.cfg.reason = none ∧ t.cfg.loadedId = none ∧ t.cfg.imageCurrent = false
    ∧ t.cfg.activity = .idle ∧ t.cfg.lastStore = none
  occ : t.occ = State.reset.occ
  air : t.air = State.reset.air
  fan : t.fan = State.reset.fan
  light : t.light = State.reset.light
  loops : t.loops = State.reset.loops
  guide : t.guide = State.reset.guide
  ovr : t.ovr = State.reset.ovr
  bus : t.bus = State.reset.bus
  link : t.link.receiver = .hunting ∧ t.link.reply = none ∧ t.link.de = false ∧ t.link.resetDue = false
    ∧ t.link.lost = false ∧ t.link.classes = BitVec.allOnes 6 ∧ t.link.attn = true ∧ t.link.attnHigh = false

/-- R197: the notice `n` was posted in going from `s` to `t`: unless its class is disabled it stands in the queue with
the second, or LOST is set. -/
def announced (s t : State) (n : Notice) : Prop :=
  s.link.classes.getLsbD (noticeClass n) = true → ⟨n, s.time.clock⟩ ∈ t.link.notices ∨ t.link.lost = true

/-- A destination's value is on its way: its waiting mark is set, or its key stands in a slot (R165, R166). -/
def onItsWay (t : State) (d : Dest) : Prop :=
  d ∈ waitingDests t ∨ ∃ k, destKey t d = some k ∧ slotWith t.bus k ≠ none

/-- R6, R34, R91, R101, R133, R160: a report from address `a` whose owner does not know it, with the device type that
the unknown-device list takes (R161). -/
inductive UnknownReport (s : State) (a : Addr) : Instr → DeviceType → Prop
  | bay (d : Det) (h : Health) : mapBay s.cfg.map a = none → UnknownReport s a (.bayState a d h) .detector
  | gas (g : GasReport) : fieldSensorAt s.cfg.inForce a = none → UnknownReport s a (.gasValue a g) .gasSensor
  | ped (p : Ped) : presenceAt s.cfg.inForce a = none → UnknownReport s a (.pedPresence a p) .presence
  | lum (h : Health) : groupAt s.cfg.inForce a = none → UnknownReport s a (.lumState a h) .luminaire
  | sign (h : Health) : signAt s.cfg.inForce a = none → UnknownReport s a (.signState a h) .sign
  | announce (type : DeviceType) : mapBay s.cfg.map a = none → fieldSensorAt s.cfg.inForce a = none →
      groupAt s.cfg.inForce a = none → presenceAt s.cfg.inForce a = none → signAt s.cfg.inForce a = none →
      UnknownReport s a (.announce a type) type

/-! ## When requests are taken -/

/-- R192, R195, R196: the part can execute a request: it is not sending, no reset is due, and it is not LOADING. -/
def takesRequests (s : State) : Prop := s.link.de = false ∧ s.link.resetDue = false ∧ s.cfg.state ≠ .loading

/-- R195: the kind code of a request addressed to the part; none for the other commands. -/
def requestCode : Instr → Option Nat
  | .identify _ => some 0x01 | .getStatus _ => some 0x02 | .reset _ => some 0x03 | .setClock false _ => some 0x04
  | .getClock _ => some 0x05 | .configOpen _ => some 0x10 | .configWrite _ => some 0x11 | .configRead _ => some 0x12
  | .configClose _ => some 0x13 | .configStore _ => some 0x14 | .curveWrite _ => some 0x15 | .curveRead _ => some 0x16
  | .mapWrite _ => some 0x20 | .mapRemove _ => some 0x21 | .mapLookup _ => some 0x22 | .mapReadSet _ => some 0x23
  | .listUnknown _ => some 0x24 | .clearUnknown _ => some 0x25 | .readZone _ => some 0x30 | .readBays _ => some 0x31
  | .readSensor _ => some 0x32 | .readFan _ => some 0x33 | .readGroup _ => some 0x34 | .readSign _ => some 0x35
  | .readLoops _ => some 0x36 | .bayReserve _ => some 0x40 | .bayRelease _ => some 0x41 | .bayClose _ => some 0x42
  | .bayOpen _ => some 0x43 | .fanClear _ => some 0x44 | .levelCounts false _ => some 0x45
  | .overridePush _ => some 0x50 | .overridePop _ => some 0x51 | .overrideRemove _ => some 0x52
  | .overrideList _ => some 0x53 | .fetchNotices _ => some 0x60 | .noticeClasses _ => some 0x61
  | _ => none

/-- R195: a request whose body does not fit its form, of a kind that checks this before anything else. -/
def misfitFirst (c : Instr) : Prop :=
  c = .identify .misfit ∨ c = .getStatus .misfit ∨ c = .reset .misfit ∨ c = .setClock false .misfit ∨
  c = .getClock .misfit ∨ c = .configOpen .misfit ∨ c = .configRead .misfit ∨ c = .configClose .misfit ∨
  c = .configStore .misfit ∨ c = .curveRead .misfit ∨ c = .mapWrite .misfit ∨ c = .mapRemove .misfit ∨
  c = .mapLookup .misfit ∨ c = .mapReadSet .misfit ∨ c = .listUnknown .misfit ∨ c = .clearUnknown .misfit ∨
  c = .readZone .misfit ∨ c = .readBays .misfit ∨ c = .readSensor .misfit ∨ c = .readFan .misfit ∨
  c = .readGroup .misfit ∨ c = .readSign .misfit ∨ c = .readLoops .misfit ∨ c = .bayReserve .misfit ∨
  c = .bayRelease .misfit ∨ c = .bayClose .misfit ∨ c = .bayOpen .misfit ∨ c = .fanClear .misfit ∨
  c = .overridePush .misfit ∨ c = .overridePop .misfit ∨ c = .overrideRemove .misfit ∨ c = .overrideList .misfit ∨
  c = .fetchNotices .misfit ∨ c = .noticeClasses .misfit

/-- The part as a request finds it: the frame is complete and a pending reply is discarded (R193, R195). -/
def received (s : State) : State := { s with link := { s.link with reply := none, receiver := .hunting } }

/-- The part with only a reply pending to request kind `kind`, with result `r` and fields `fields` (R195). -/
def repliedOnly (s : State) (kind : Nat) (r : Result) (fields : List Byte) : State :=
  { s with link := { s.link with reply := some ⟨kind + 0x80, u8 (resultCode r) ++ fields⟩, receiver := .hunting } }

/-- The service link between `s` and `t` has taken one request, and its reply is pending; only the notices may differ
besides (R195). -/
def answers (s t : State) (kind : Nat) (r : Result) (fields : List Byte) : Prop :=
  t.link = { s.link with
    reply := some ⟨kind + 0x80, u8 (resultCode r) ++ fields⟩, receiver := .hunting
    notices := t.link.notices, lost := t.link.lost, attn := t.link.attn }

end Sys2Proof.Machine
end

