-- ==== Sys2Proof/Certificates/Slice0/Obligations.lean ====
section
/-! DEFINITION. The statements about the part, for the provers. Each docstring names the rules a statement rests on and
the log entries of the model's own choices in it. -/

open Sys2Proof Sys2Proof.Machine

/-! ## Steps, resets and taps -/

/-- A step takes the command at the front of the queue and runs it on the part with the queue's rest. -/
def Obligations.StepRunsTheFrontCommand : Prop :=
  ∀ (c : Instr) (rest : List Instr) (s : State),
    s.pending = c :: rest → step s = exec c { s with pending := rest }

/-- R174, R176, R177: with no command waiting a step is one crystal cycle: the window takes its correction at cycle 1,
the prescaler advances by the counts of the cycle, and a tap is queued for every position passed. That an idle step is a
crystal cycle, and the mark by which CORRECTION_WINDOW has begun the window already, are the model's choices
(assumptions 3 and 33). -/
def Obligations.IdleStepCountsOneCrystalCycle : Prop :=
  ∀ s : State, TimeLaw s.time → s.pending = [] →
    let begins := s.time.cycle = 1 ∧ s.time.begun = false
    ∃ (t : State) (k : Nat) (c : Int), step s = .next t ∧ changesOnly [.time, .pending] s t ∧
      c = (if begins then s.time.nextCorrection.getD s.time.correction else s.time.correction) ∧
      (adjustedCycle c s.time.cycle → k = if c > 0 then 2 else 0) ∧
      (¬ adjustedCycle c s.time.cycle → k = 1) ∧
      t.time = { s.time with
        prescaler := (s.time.prescaler + k) % 32768
        cycle := if s.time.cycle = 1048576 then 1 else s.time.cycle + 1
        correction := c
        nextCorrection := if begins then none else s.time.nextCorrection
        begun := false } ∧
      ((∃ l i, .t32Tap l i [] ∈ t.pending) ↔ positionPassed 1024 s.time.prescaler k) ∧
      ((∃ r, .t4Tap r [] ∈ t.pending) ↔ positionPassed 8192 s.time.prescaler k) ∧
      ((∃ a, .t1Tap a [] ∈ t.pending) ↔ positionPassed 32768 s.time.prescaler k) ∧
      t.pending.length ≤ 3

/-- R176: over a whole window of 1,048,576 cycles under correction `c` the prescaler advances by 1,048,576 + c. -/
def Obligations.WindowAdvancesByItsCorrection : Prop :=
  ∀ c : Int, c.natAbs ≤ 127 →
    ((List.range 1048576).map (fun n => (advance c (n + 1) : Int))).sum = 1048576 + c

/-- R28, R58, R84, R105, R118, R138, R155, R173, R181, R191, R196, R200: what the two resets leave. The model's own
choices in it: the values of the registers to which the rules give none (assumptions 15 and 16), a commanded reset only
while a RESET's reset is due with its reply neither waiting nor on the line (assumption 19), the straps as operands
(assumption 14), and the queue and the counter of the free values that stay (assumption 29). -/
def Obligations.ResetsLeaveTheResetValues : Prop :=
  ∀ (straps : Straps) (s : State),
    (∃ t, exec (.powerOnReset straps) s = .next t ∧ FreshlyReset t ∧ t.time = ⟨0, 1, 0, none, 0, false, false⟩
      ∧ t.link.notices = [⟨.restarted false, 0⟩] ∧ t.link.straps = straps ∧ t.link.pins = straps
      ∧ t.pending = s.pending ∧ t.free = s.free) ∧
    (s.link.resetDue = true → s.link.reply = none → s.link.de = false →
      ∃ t, exec (.commandedReset straps) s = .next t ∧ FreshlyReset t ∧ t.time = s.time
        ∧ t.link.notices = [⟨.restarted true, s.time.clock⟩] ∧ t.link.straps = straps ∧ t.link.pins = straps
        ∧ t.pending = s.pending ∧ t.free = s.free)

/-- R183, R187: the end of a load enters RUNNING with the image's configuration, or FALLBACK with the empty one and the
reason; a memory that does not answer gives NO_IMAGE. -/
def Obligations.LoadEndsInRunningOrFallback : Prop :=
  ∀ (source : LoadSource) (s : State), loading s = true →
    (∀ b id, checkSource s source = .ok (b, id) →
      ∃ t, exec (.loadEnd source) s = .next t ∧ t.cfg.state = .running ∧ t.cfg.inForce = b.cfg ∧ t.cfg.working = b.cfg
        ∧ t.cfg.closed = b.closed ∧ t.cfg.dimming = b.dimming ∧ t.cfg.map = b.map ∧ t.cfg.loadedId = some id
        ∧ t.cfg.imageCurrent = true ∧ t.bus.bitRate = b.cfg.params.bitRate ∧ t.link.attnHigh = b.cfg.params.attnHigh
        ∧ announced s t (.configState .running none) ∧ t.time = s.time ∧ t.pending = s.pending) ∧
    (∀ why, checkSource s source = .error why →
      ∃ t, exec (.loadEnd source) s = .next t ∧ t.cfg.state = .fallback ∧ t.cfg.reason = some why
        ∧ t.cfg.inForce = emptyCfg ∧ t.cfg.working = emptyCfg ∧ t.cfg.map = emptyMap ∧ t.cfg.loadedId = none
        ∧ t.cfg.imageCurrent = false ∧ t.bus.bitRate = 125 ∧ t.link.attnHigh = false
        ∧ announced s t (.configState .fallback (some why)) ∧ t.time = s.time ∧ t.pending = s.pending) ∧
    checkSource s .silent = .error .noImage

/-- R177, R179: a window that begins takes the next correction, and SET_CLOCK sets the clock, the clock-set flag and the
next correction, clamped, whether addressed or broadcast. That the command of a window's start acts where cycle 1 is
about to come, marks the window begun, and does nothing within a window is the model's choice (assumption 33); so is the
layout of the reply (assumptions 8 and 9). -/
def Obligations.CorrectionAndClockAreSet : Prop :=
  ∀ (s : State),
    (s.time.cycle = 1 → exec .correctionWindow s = .next { s with time := { s.time with
      correction := s.time.nextCorrection.getD s.time.correction, nextCorrection := none, begun := true } }) ∧
    (s.time.cycle ≠ 1 → exec .correctionWindow s = .next s) ∧
    ∀ (n : BitVec 32) (c : Option Int), takesRequests s →
      ∃ x : Time, x = { s.time with
          clock := n, clockSet := true
          nextCorrection := match c with
            | some k => some (if k < -127 then -127 else if k > 127 then 127 else k)
            | none => s.time.nextCorrection } ∧
        exec (.setClock false (.fits (n, c))) s
          = .next { repliedOnly s 0x04 .ok (u32 n.toNat ++ correctionBytes x) with time := x } ∧
        exec (.setClock true (.fits (n, c))) s
          = .next { s with time := x, link := { s.link with receiver := .hunting } }

/-- R31, R75, R178: a T1 tap advances the part clock by 1, from its largest value to 0, and converts the eight analog
inputs into the raw counts of their slots in every configuration state; outside LOADING it also counts the warm-up of
every present sensor and the coast of every fan that does not turn, and in LOADING it does nothing else. -/
def Obligations.T1TapCountsSecondsAndCoasts : Prop :=
  ∀ (ain : Tab (BitVec 10) 8) (order : List T1Part) (s : State),
    ∃ t, exec (.t1Tap ain order) s = .next t ∧ t.time = { s.time with clock := s.time.clock + 1 } ∧
      changesOnly [.time, .loops, .ovr, .occ, .air, .fan, .light, .guide, .slots, .notices] s t ∧
      (∀ n, n < 8 → (t.air.sensors.nth n).raw = (ain.nth n).toNat) ∧
      (loading s = true → changesOnly [.time, .air] s t ∧ t.air.zones = s.air.zones ∧
        ∀ n, n < 32 → { t.air.sensors.nth n with raw := 0 } = { s.air.sensors.nth n with raw := 0 } ∧
          (8 ≤ n → t.air.sensors.nth n = s.air.sensors.nth n)) ∧
      (loading s = false → ∀ n, n < 32 → (t.air.sensors.nth n).warmup =
        if (s.cfg.inForce.sensors.nth n).present = true then (s.air.sensors.nth n).warmup - 1
        else (s.air.sensors.nth n).warmup) ∧
      (loading s = false → ∀ n, n < 12 →
        (t.fan.channels.nth n).state = (s.fan.channels.nth n).state ∧
        (t.fan.channels.nth n).reference = (s.fan.channels.nth n).reference ∧
        (t.fan.channels.nth n).coast =
          if turns (s.fan.channels.nth n).state then (s.fan.channels.nth n).coast
          else (s.fan.channels.nth n).coast - 1)

/-- R63, R66, R67: a T4 tap gives every driven channel one state step with its ready input and the values of the tap,
and no other channel any. The forced-below mark is tested after it (R81, assumption 32). -/
def Obligations.T4TapStepsEveryDrivenFan : Prop :=
  ∀ (rdy : BitVec 12) (order : List T4Part) (s : State), loading s = false →
    ∃ t, exec (.t4Tap rdy order) s = .next t ∧
      changesOnly [.occ, .air, .fan, .light, .guide, .slots, .bus, .notices] s t ∧
      ∀ n, n < 12 →
        let x := { s.fan.channels.nth n with rdy := rdy.getLsbD n }
        { t.fan.channels.nth n with forcedBelow := x.forcedBelow }
          = if fanDriven s n then stepChannel (params s) { x with aim := channelAim s n } else x

/-- R63: in RUNNING the computed target of a present fan at a T4 tap is the larger of its owner zone's demand and its
assist part, and lies within 0..1000. -/
def Obligations.ComputedTargetComesFromTheDemands : Prop :=
  ∀ (rdy : BitVec 12) (order : List T4Part) (s : State) (n : Nat), running s = true → n < 12 →
    (s.cfg.inForce.fans.nth n).present = true →
    ∃ t, exec (.t4Tap rdy order) s = .next t ∧
      let r := s.cfg.inForce.fans.nth n
      let demand := fun z => (s.air.zones.nth z).demand
      (∃ m, (∀ z ∈ r.assist, demand z ≤ m) ∧ (m = 0 ∨ ∃ z ∈ r.assist, m = demand z) ∧
        (t.fan.channels.nth n).aim.computed = max (demand r.owner) (m * r.weight / 100)) ∧
      (CfgLaw s → AirLaw s → (t.fan.channels.nth n).aim.computed ≤ 1000)

/-- R68 to R74: the state step of a channel, line by line of the rules' tables. -/
def Obligations.FanStepFollowsTheTables : Prop :=
  ∀ (p : Params) (x : Channel) (d : Dir),
    let y := stepChannel p x
    let call := x.aim.call
    let turnsAway := call = .stop ∨ ∃ w, x.aim.wanted = some w ∧ x.driven ≠ some w
    let started := { x with state := .starting, driven := some d, reference := p.minRun, ready := 0, coast := 0 }
    let faulted := fun why : FanFault => { x with
      state := .fault, reference := 0, last := d, driven := none, coast := p.dwell, ready := 0, reason := some why }
    (x.state = .stopped → (call ≠ .run → y = x) ∧
      (call = .run → x.aim.wanted = some d →
        (0 < x.coast → d ≠ x.last → y = { x with state := .dwell }) ∧ (x.coast = 0 ∨ d = x.last → y = started))) ∧
    (x.state = .dwell → (call ≠ .run → y = { x with state := .stopped }) ∧
      (call = .run → x.aim.wanted = some d →
        (x.coast = 0 ∨ d = x.last → y = started) ∧ (0 < x.coast → d ≠ x.last → y = x))) ∧
    (x.state = .starting → x.driven = some d →
      (turnsAway → y = { x with state := .stopping, ready := 0 }) ∧
      (¬ turnsAway → x.rdy = true → y = { x with state := .running, ready := 0 }) ∧
      (¬ turnsAway → x.rdy = false → x.ready + 1 < p.readyTimeout → y = { x with ready := x.ready + 1 }) ∧
      (¬ turnsAway → x.rdy = false → p.readyTimeout ≤ x.ready + 1 → y = faulted .noReady)) ∧
    (x.state = .running ∨ x.state = .stopping → x.driven = some d →
      (x.rdy = false → p.readyLoss ≤ x.ready + 1 → y = faulted .readyLost) ∧
      ∀ n, (n = if x.rdy then 0 else x.ready + 1) → (x.rdy = false → n < p.readyLoss) →
        (x.state = .running → turnsAway → y = { x with state := .stopping, ready := n }) ∧
        (x.state = .running → ¬ turnsAway →
          let goal := max x.aim.target p.minRun
          y = { x with
            ready := n
            reference := if x.reference ≤ goal then min goal (x.reference + p.rampStep)
              else max goal (x.reference - p.rampStep) }) ∧
        (x.state = .stopping → call = .run → x.aim.wanted = some d → y = { x with state := .running, ready := n }) ∧
        (x.state = .stopping → ¬ (call = .run ∧ x.aim.wanted = some d) →
          (x.reference = p.minRun → y = { x with
            state := .stopped, reference := 0, last := d, driven := none, coast := p.dwell, ready := 0 }) ∧
          (x.reference ≠ p.minRun →
            y = { x with ready := n, reference := max p.minRun (x.reference - p.rampStep) }))) ∧
    (x.state = .fault → y = x)

/-- R106 to R108: a T32 tap outside LOADING reads every loop input: an inactive one is CLEAR at once, and a supervised
CLEAR one is OCCUPIED at its fourth active tap in a row. An inactive reading stands for the release (assumption 21). -/
def Obligations.T32TapFiltersTheLoops : Prop :=
  ∀ (levels : BitVec 8) (keys : BitVec 2) (order : List T32Part) (s : State), loading s = false →
    ∃ t, exec (.t32Tap levels keys order) s = .next t ∧
      changesOnly [.loops, .ovr, .air, .fan, .light, .guide, .slots, .notices] s t ∧
      ∀ i, i < 8 →
        let x := s.loops.inputs.nth i
        t.loops.inputs.nth i =
          if levels.getLsbD i = false then { x with level := false, state := .clear, filter := 0, occupied := 0 }
          else if x.supervised = true ∧ x.state = .clear then
            (if x.filter + 1 < 4 then { x with level := true, filter := x.filter + 1 }
             else { x with level := true, state := .occupied, filter := 0, occupied := 0 })
          else { x with level := true }

/-! ## The air job -/

/-- R31, R39 to R44, R50 to R53: in RUNNING a T1 tap whose air monitor goes first gives every present zone its zone
stage, on the sensors as the same tap converts and filters them. Which block goes first is the sender's order
(assumption 4). -/
def Obligations.T1TapTakesTheAirSample : Prop :=
  ∀ (ain : Tab (BitVec 10) 8) (rest : List T1Part) (s : State), running s = true →
    ∃ t, exec (.t1Tap ain (.air :: rest)) s = .next t ∧
      (∀ n, n < 32 → t.air.sensors.nth n = (tapSensors ain s).nth n) ∧
      ∀ z, zonePresent s.cfg.inForce z = true →
        let fs := contributions { s with air := { s.air with sensors := tapSensors ain s } } z
        let y := zoneStage (params s) (s.cfg.inForce.zones.nth z).fallbackDemand fs (s.air.zones.nth z)
        let x := t.air.zones.nth z
        x.ring = y.ring ∧ x.index = y.index ∧ x.sample = y.sample ∧ x.s = y.s ∧ x.l = y.l ∧ x.twa = y.twa ∧ x.z = y.z
          ∧ x.lastD = y.lastD ∧ x.state = y.state ∧ x.hold = y.hold ∧ x.contributors = y.contributors

/-- R43: the decay of the emission credit. It runs at every sample numbered a multiple of 4, with or without a
contributor; at a T1 tap in RUNNING every present zone sheds its credit so, whatever the order of the blocks (where no
loop turns STUCK at the tap, whose passage would bring a credit of its own); the decay takes at least 1 of a credit of at
least 1 and never more than the credit; it brings any credit to 0; and a zone without a contributor keeps its Z. -/
def Obligations.CreditDecaysAtEveryFourthSample : Prop :=
  (∀ (p : Params) (fallback : Nat) (fs : List Filtered) (x : ZoneAir),
    (zoneStage p fallback fs x).e = (if x.sample % 4 = 0 then x.e - (x.e + 7) / 8 else x.e) ∧
    (fs = [] → (zoneStage p fallback fs x).z = x.z)) ∧
  (∀ (ain : Tab (BitVec 10) 8) (order : List T1Part) (z : Nat) (s : State), running s = true →
    zonePresent s.cfg.inForce z = true →
    (∀ i, i < 8 → (s.loops.inputs.nth i).state = .occupied → (s.loops.inputs.nth i).occupied < 119) →
    let x := s.air.zones.nth z
    ∃ t, exec (.t1Tap ain order) s = .next t ∧
      (t.air.zones.nth z).e = if x.sample % 4 = 0 then x.e - (x.e + 7) / 8 else x.e) ∧
  (∀ e : Nat, (1 ≤ e → 1 ≤ (e + 7) / 8) ∧ (e + 7) / 8 ≤ e ∧ (∃ k, decay^[k] e = 0) ∧ decay 1 = 0 ∧
    decay 1000 = 875) ∧
  ((List.range 64).filter (fun n => n % 4 == 0)).length = 16 ∧
  ((List.range 19).map (fun k => decay^[k] 40)
    = [40, 35, 30, 26, 22, 19, 16, 14, 12, 10, 8, 7, 6, 5, 4, 3, 2, 1, 0])

/-- R46: the demand curve. At the zone stage of a zone with a contributor the last D is the point or the segment of the
curve over Z, with the division truncating toward zero; it lies between the ends of its segment and never reaches the
far one; and on a falling segment it stands at or less than 1 above the straight line. -/
def Obligations.DemandFollowsTheCurve : Prop :=
  ∀ (p : Params) (fallback : Nat) (fs : List Filtered) (x : ZoneAir), fs ≠ [] →
    let y := zoneStage p fallback fs x
    let i := y.z / 125
    let a : Int := p.curve.nth i
    let b : Int := p.curve.nth (i + 1)
    (i = 16 → y.z = 2000 ∧ y.lastD = p.curve.nth 16) ∧
    (i ≠ 16 → (y.lastD : Int) = a + ((b - a) * ((y.z : Int) - 125 * i)).tdiv 125 ∧
      min a b ≤ y.lastD ∧ (y.lastD : Int) ≤ max a b ∧ (a ≠ b → (y.lastD : Int) ≠ b) ∧
      (b < a → (b - a) * ((y.z : Int) - 125 * i) ≤ 125 * (y.lastD - a) ∧
        125 * (y.lastD - a) < (b - a) * ((y.z : Int) - 125 * i) + 125)) ∧
    ((∀ k, k < 17 → p.curve.nth k ≤ 1000) → y.lastD ≤ 1000) ∧
    ((a = 800 ∧ b = 600 ∧ (y.z : Int) - 125 * i = 1) → y.lastD = 799)

/-- R50 to R53: with a contributor, a zone rises at once to the state its Z gives; it stays in its state while Z is not
below that state's threshold less the hysteresis, or while its alarm hold runs; else it falls to the highest state below
whose threshold less the hysteresis Z reaches, or to CLEAR. Out of UNKNOWN it takes the state its Z gives. Without a
contributor it becomes UNKNOWN, unless its alarm hold runs. Entering ALARM sets the hold, which counts down in ALARM and
is 0 in every other state. -/
def Obligations.AirStateRisesAtOnceAndFallsByHysteresis : Prop :=
  (∀ (p : Params) (z hold : Nat) (st : AirState),
    let up := stateOfIndex p z
    let new := nextKnown p z hold st
    let held := st = .alarm ∧ 0 < hold
    (st = .unknown → new = up) ∧
    airRank up ≤ airRank new ∧
    (airRank st < airRank up → new = up) ∧
    (st ≠ .unknown → airRank up < airRank new →
      airRank new ≤ airRank st ∧ (threshold p new ≤ z + p.hysteresis ∨ (new = .alarm ∧ held))) ∧
    (st ≠ .unknown → airRank up ≤ airRank st → threshold p st ≤ z + p.hysteresis ∨ held → new = st) ∧
    (st ≠ .unknown → airRank up ≤ airRank st → z + p.hysteresis < threshold p st → ¬ held →
      airRank new < airRank st ∧ (new = .clear ∨ new = .elevated ∨ new = .high) ∧
      (new ≠ .clear → threshold p new ≤ z + p.hysteresis) ∧
      ∀ t, t = .elevated ∨ t = .high → airRank t < airRank st → threshold p t ≤ z + p.hysteresis →
        airRank t ≤ airRank new)) ∧
  (∀ (p : Params) (fallback : Nat) (fs : List Filtered) (x : ZoneAir),
    let y := zoneStage p fallback fs x
    (fs ≠ [] → y.state = nextKnown p y.z (if x.state = .alarm then x.hold - 1 else x.hold) x.state) ∧
    (fs = [] → y.state = if x.state = .alarm ∧ 1 < x.hold then .alarm else .unknown) ∧
    y.hold = (if y.state ≠ .alarm then 0 else if x.state = .alarm then x.hold - 1 else p.alarmHold))

/-- R32, R33, R35, R40, R43, R52: the ends of the counts of the air job, each as the event of its tap (assumptions 1 and
2): a warm-up, a field sensor's silence, a bucket of the dose ring, a decay of the credit, an alarm hold. -/
def Obligations.AirCountsEnd : Prop :=
  ∀ (s : State),
    (∀ n (raw : BitVec 10), n < 32 → loading s = false → (s.cfg.inForce.sensors.nth n).present = true →
      (s.air.sensors.nth n).warmup = 1 →
      ∃ t, exec (.warmupEnd n raw) s = .next t ∧ changesOnly [.air, .notices] s t ∧ t.air.zones = s.air.zones ∧
        (∀ m, m ≠ n → t.air.sensors.nth m = s.air.sensors.nth m) ∧
        (t.air.sensors.nth n).warmup = 0 ∧
        (t.air.sensors.nth n).raw = (if n < 8 then raw.toNat else (s.air.sensors.nth n).raw) ∧
        (t.air.sensors.nth n).filtered = (s.air.sensors.nth n).filtered ∧
        (running s = true → n < 8 →
          let r := s.cfg.inForce.sensors.nth n
          (t.air.sensors.nth n).state =
            (if raw.toNat + 20 < r.zero then .faultLow else if raw.toNat ≤ max r.zero r.span then .ok else .over) ∧
          (r.zero < raw.toNat → raw.toNat ≤ r.span →
            (t.air.sensors.nth n).last = some ((raw.toNat - r.zero) * r.fullScale / (r.span - r.zero))))) ∧
    (∀ n, 8 ≤ n → n < 32 → running s = true → (s.cfg.inForce.sensors.nth n).present = true →
      (s.air.sensors.nth n).silence = 9 →
      ∃ t, exec (.sensorSilent n) s = .next t ∧ changesOnly [.air, .notices] s t ∧ t.air.zones = s.air.zones ∧
        (∀ m, m ≠ n → t.air.sensors.nth m = s.air.sensors.nth m) ∧
        t.air.sensors.nth n = { s.air.sensors.nth n with
          silence := 10, state := if 0 < (s.air.sensors.nth n).warmup then .warmup else .silent }) ∧
    (∀ z, running s = true → zonePresent s.cfg.inForce z = true → (s.air.zones.nth z).sample = 0 →
      let x := s.air.zones.nth z
      let y := { x with index := (x.index + 1) % 16, ring := x.ring.put ((x.index + 1) % 16) ⟨0, 0⟩ }
      exec (.doseRingAdvance z) s = .next { s with air := { s.air with zones := s.air.zones.put z y } }) ∧
    (∀ z, running s = true → zonePresent s.cfg.inForce z = true → (s.air.zones.nth z).sample % 4 = 0 →
      let x := s.air.zones.nth z
      let y := { x with e := x.e - (x.e + 7) / 8 }
      exec (.creditDecay z) s = .next { s with air := { s.air with zones := s.air.zones.put z y } }) ∧
    (∀ z, running s = true → zonePresent s.cfg.inForce z = true → (s.air.zones.nth z).state = .alarm →
      (s.air.zones.nth z).hold = 1 →
      let y := { s.air.zones.nth z with hold := 0 }
      exec (.alarmHoldEnd z) s = .next { s with air := { s.air with zones := s.air.zones.put z y } })

/-! ## Received field frames -/

/-- R8: the first healthy report of a bay whose sensed value is NONE is taken at once, with the second for a present
vehicle and with no emission credit and no presence trigger; the bay's state is derived again, a change to PRESENT ends
a reservation, and a health FAULT ends with a notice. -/
def Obligations.FirstHealthyReportIsTakenAtOnce : Prop :=
  ∀ (a : Addr) (d : Det) (b : Nat) (s : State), running s = true → delivered s a = true →
    mapBay s.cfg.map a = some b → b < 512 → (bayOf s b).sensed = .nothing →
    ∃ t, exec (.bayState a d .ok) s = .next t ∧ changesOnly [.occ, .light, .guide, .slots, .notices] s t ∧
      (bayOf t b).sensed = (match d with
        | .present => .present s.time.clock
        | .vacant => .vacant) ∧
      (bayOf t b).state = deriveBay (bayOf t b).admin (bayOf t b).sensed ∧
      (bayOf t b).pending = none ∧ (bayOf t b).health = .ok ∧ (bayOf t b).lastHeard = 0 ∧
      (bayOf t b).admin = (if d = .present ∧ isReserved (bayOf s b).admin = true then .inService else (bayOf s b).admin) ∧
      (bayOf t b).zone = (bayOf s b).zone ∧ (bayOf t b).detector = (bayOf s b).detector ∧
      (bayOf t b).lampFault = (bayOf s b).lampFault ∧
      (∀ c, c ≠ b → bayOf t c = bayOf s c) ∧
      (∀ g, (t.light.groups.nth g).stay = (s.light.groups.nth g).stay) ∧
      (d = .present → isReserved (bayOf s b).admin = true → announced s t (.reservationEnd b .taken)) ∧
      ((bayOf s b).health = .fault → announced s t (.bayDetector b .ok))

/-- R7, R9, R12: a healthy report for a bay with a sensed value is compared with it and with the pending value; under a
settle count of 0 a differing one takes effect at once, as the end of a settle does; a report with health FAULT sets the
sensed value to NONE. -/
def Obligations.LaterReportsSettleOrFault : Prop :=
  ∀ (a : Addr) (d : Det) (b : Nat) (s : State), running s = true → delivered s a = true →
    mapBay s.cfg.map a = some b → b < 512 →
    ((bayOf s b).sensed ≠ .nothing → (agrees d (bayOf s b).sensed = true ∨ 0 < (params s).settle) →
      ∃ t, exec (.bayState a d .ok) s = .next t ∧ changesOnly [.occ, .light, .guide, .slots, .notices] s t ∧
        bayOf t b = { bayOf s b with
          health := .ok, lastHeard := 0
          pending := if agrees d (bayOf s b).sensed = true then none
            else if (bayOf s b).pending = none then some (d, (params s).settle) else (bayOf s b).pending } ∧
        (∀ c, c ≠ b → bayOf t c = bayOf s c) ∧ t.occ.free = s.occ.free ∧
        ((bayOf s b).health = .fault → announced s t (.bayDetector b .ok))) ∧
    ((bayOf s b).sensed ≠ .nothing → agrees d (bayOf s b).sensed = false → (params s).settle = 0 →
      (bayOf s b).pending = none →
      let w := if d = .present then (params s).arrival else (params s).departure
      ∃ t, exec (.bayState a d .ok) s = .next t ∧ changesOnly [.occ, .air, .light, .guide, .slots, .notices] s t ∧
        bayOf t b = { bayOf s b with
          health := .ok, lastHeard := 0, pending := none
          sensed := match d with
            | .present => .present s.time.clock
            | .vacant => .vacant
          admin := if d = .present ∧ isReserved (bayOf s b).admin = true then .inService else (bayOf s b).admin
          state := (bayOf t b).state } ∧
        (bayOf t b).state = deriveBay (bayOf t b).admin (bayOf t b).sensed ∧
        (∀ c, c ≠ b → bayOf t c = bayOf s c) ∧ t.air.sensors = s.air.sensors ∧
        (∀ z, t.air.zones.nth z = if z = (bayOf s b).zone ∧ zonePresent s.cfg.inForce z = true
          then { s.air.zones.nth z with e := min 1000 ((s.air.zones.nth z).e + w) } else s.air.zones.nth z) ∧
        (∀ g, (t.light.groups.nth g).stay =
          if g ∈ presentGroups s ∧ rangeHas (s.cfg.inForce.groups.nth g) b = true
          then (s.cfg.inForce.groups.nth g).stayLit else (s.light.groups.nth g).stay) ∧
        (d = .present → isReserved (bayOf s b).admin = true → announced s t (.reservationEnd b .taken)) ∧
        ((bayOf s b).health = .fault → announced s t (.bayDetector b .ok))) ∧
    (∃ t, exec (.bayState a d .fault) s = .next t ∧ changesOnly [.occ, .light, .guide, .slots, .notices] s t ∧
      bayOf t b = { bayOf s b with
        sensed := .nothing, pending := none, health := .fault, lastHeard := 0, state := (bayOf t b).state } ∧
      (bayOf t b).state = deriveBay (bayOf s b).admin .nothing ∧
      (∀ c, c ≠ b → bayOf t c = bayOf s c) ∧
      (∀ g, (t.light.groups.nth g).stay = (s.light.groups.nth g).stay) ∧
      ((bayOf s b).health = .ok → announced s t (.bayDetector b .fault)))

/-- R6, R157, R158, R161: a delivered report from an address its owner does not know joins the unknown-device list with
its device type and the second, once per address, while the list has room; beyond that the overflow mark is set. A frame
that the controller does not receive, whose address is no device's or that no filter accepts does nothing; a malformed
frame is counted up to 65535, and the other discarded frames are not. -/
def Obligations.UnknownAndDiscardedFrames : Prop :=
  ∀ (s : State),
    (∀ (a : Addr) (c : Instr) (type : DeviceType), UnknownReport s a c type → delivered s a = true →
      let listed := s.bus.unknown.any (fun e => e.addr == a)
      ∃ t, exec c s = .next t ∧ changesOnly [.bus, .light, .guide, .slots, .notices] s t ∧
        t.bus.errors = s.bus.errors ∧ t.bus.state = s.bus.state ∧ t.bus.malformed = s.bus.malformed ∧
        (∀ g, { t.light.groups.nth g with waiting := false } = { s.light.groups.nth g with waiting := false }) ∧
        (listed = true → t.bus.unknown = s.bus.unknown ∧ t.bus.overflow = s.bus.overflow) ∧
        (listed = false → s.bus.unknown.length < 8 →
          t.bus.unknown = s.bus.unknown ++ [⟨a, type, s.time.clock⟩] ∧ t.bus.overflow = s.bus.overflow ∧
          announced s t (.unknownDevice s.bus.unknown.length a type)) ∧
        (listed = false → 8 ≤ s.bus.unknown.length → t.bus.unknown = s.bus.unknown ∧ t.bus.overflow = true ∧
          (s.bus.overflow = false → announced s t .unknownOverflow))) ∧
    (∀ a, delivered s a = false → ∀ c,
      ((∃ d h, c = .bayState a d h) ∨ (∃ g, c = .gasValue a g) ∨ (∃ p, c = .pedPresence a p) ∨ (∃ h, c = .lumState a h)
        ∨ (∃ h, c = .signState a h) ∨ ∃ type, c = .announce a type) → exec c s = .next s) ∧
    (∀ a, delivered s a = true ↔ s.cfg.state ≠ .loading ∧ s.bus.state ≠ .off ∧ 0x00001 ≤ a ∧ a ≤ 0xFFFFE ∧
      ((∀ i, i < 8 → (s.cfg.inForce.filters.nth i).enabled = false) ∨
        ∃ i, i < 8 ∧ (s.cfg.inForce.filters.nth i).enabled = true ∧
          let r := s.cfg.inForce.filters.nth i
          let x := BitVec.ofNat 20 a
          match r.mode with
          | .exact => x = r.code
          | .mask => x &&& r.mask = r.code &&& r.mask
          | .range => r.low ≤ x ∧ x ≤ r.high)) ∧
    exec (.fieldFrameDiscarded .malformed) s = .next (if s.cfg.state ≠ .loading ∧ s.bus.state ≠ .off then
      { s with bus := { s.bus with malformed := min (s.bus.malformed + 1) 65535 } } else s) ∧
    (∀ why, why ≠ .malformed → exec (.fieldFrameDiscarded why) s = .next s)

/-- R34, R35, R89, R91, R101, R133: a GAS_VALUE report sets its sensor's silence to 0 and its status and takes the
value, cut at the full scale; a pedestrian report triggers its group; the states of luminaires and signs follow their
reports. -/
def Obligations.SensorLightAndSignReports : Prop :=
  ∀ (a : Addr) (s : State), running s = true → delivered s a = true →
    (∀ g n, fieldSensorAt s.cfg.inForce a = some n →
      let full := (s.cfg.inForce.sensors.nth n).fullScale
      let x := s.air.sensors.nth n
      ∃ t, exec (.gasValue a g) s = .next t ∧ changesOnly [.air, .light, .guide, .slots, .notices] s t ∧
        t.air.zones = s.air.zones ∧ (∀ m, m ≠ n → t.air.sensors.nth m = s.air.sensors.nth m) ∧
        t.air.sensors.nth n = { x with
          silence := 0
          reported := match g with
            | .ok v => if v ≤ full then .ok else .over
            | .warmup => .warmup
            | .fault => .fault
          last := match g with
            | .ok v => some (min v full)
            | .warmup | .fault => x.last
          state := if 0 < x.warmup then .warmup else match g with
            | .ok v => if v ≤ full then .ok else .over
            | .warmup => .warmup
            | .fault => .fault }) ∧
    (∀ i p, presenceAt s.cfg.inForce a = some i →
      let g := (s.cfg.inForce.presence.nth i).group
      ∃ t, exec (.pedPresence a p) s = .next t ∧ changesOnly [.light, .guide, .slots] s t ∧
        ∀ h, (t.light.groups.nth h).stay =
          if p = .detected ∧ h = g ∧ h < 48 ∧ (s.cfg.inForce.groups.nth g).present = true
          then (s.cfg.inForce.groups.nth g).stayLit else (s.light.groups.nth h).stay) ∧
    (∀ g h, groupAt s.cfg.inForce a = some g →
      let st := if h = .ok then GroupState.ok else .lampFault
      ∃ t, exec (.lumState a h) s = .next t ∧ changesOnly [.light, .guide, .slots, .notices] s t ∧
        (∀ k, (t.light.groups.nth k).state = if k = g then st else (s.light.groups.nth k).state) ∧
        ((s.light.groups.nth g).state ≠ st → announced s t (.groupState g st))) ∧
    (∀ i h, signAt s.cfg.inForce a = some i →
      let st := if h = .ok then SignHealth.ok else .faulted
      ∃ t, exec (.signState a h) s = .next t ∧ changesOnly [.light, .guide, .slots, .notices] s t ∧
        (∀ k, (t.guide.signs.nth k).state = if k = i then st else (s.guide.signs.nth k).state) ∧
        ((s.guide.signs.nth i).state ≠ st → announced s t (.signState i st)))

/-- R6, R34, R99, R123, R132, R160: an ANNOUNCE frame goes to the first owner that knows its address: in RUNNING a bay's
last-heard and a sensor's silence return to 0, and a bay lamp, a group or the faces of a sign are sent again. -/
def Obligations.AnnounceGoesToItsOwner : Prop :=
  ∀ (a : Addr) (type : DeviceType) (s : State), running s = true → delivered s a = true →
    (∀ b, mapBay s.cfg.map a = some b → b < 512 →
      ∃ t, exec (.announce a type) s = .next t ∧ changesOnly [.occ, .light, .guide, .slots] s t ∧
        bayOf t b = { bayOf s b with lastHeard := 0 } ∧ (∀ c, c ≠ b → bayOf t c = bayOf s c) ∧
        ((bayOf s b).detector ≠ none → onItsWay t (.lamp b))) ∧
    (mapBay s.cfg.map a = none → ∀ n, fieldSensorAt s.cfg.inForce a = some n →
      ∃ t, exec (.announce a type) s = .next t ∧ changesOnly [.air, .light, .guide, .slots, .notices] s t ∧
        (t.air.sensors.nth n).silence = 0 ∧ (∀ m, m ≠ n → t.air.sensors.nth m = s.air.sensors.nth m)) ∧
    (mapBay s.cfg.map a = none → fieldSensorAt s.cfg.inForce a = none → ∀ g, groupAt s.cfg.inForce a = some g →
      ∃ t, exec (.announce a type) s = .next t ∧ changesOnly [.light, .guide, .slots] s t ∧ onItsWay t (.group g)) ∧
    (mapBay s.cfg.map a = none → fieldSensorAt s.cfg.inForce a = none → groupAt s.cfg.inForce a = none →
      presenceAt s.cfg.inForce a = none → ∀ i, signAt s.cfg.inForce a = some i →
      ∃ t, exec (.announce a type) s = .next t ∧ changesOnly [.light, .guide, .slots] s t ∧
        ∀ f ∈ presentFaces (s.cfg.inForce.signs.nth i), onItsWay t (.face i f))

/-- R156, R157, section 11.8: the part reads back from the bytes of a device's frame the report it carries, of whatever
priority class. -/
def Obligations.DeviceFramesAreReadBack : Prop :=
  ∀ (c : Nat) (i : Instr) (f : FieldFrame), wellFormed i = true → deviceFrame c i = some f →
    (∃ a, isDevice a = true ∧ ((∃ d h, i = .bayState a d h) ∨ (∃ g, i = .gasValue a g) ∨ (∃ p, i = .pedPresence a p) ∨
      (∃ h, i = .lumState a h) ∨ (∃ h, i = .signState a h) ∨ ∃ type, i = .announce a type)) →
    receivedFrame f = i

/-! ## Events of the blocks -/

/-- R10, R12, R90: the settle of a bay ends: sensed takes the pending value, the bay's zone takes its emission credit,
and every present group whose bay range holds the bay is triggered. It is the event of the settle's last T4 tap
(assumptions 1 and 2). -/
def Obligations.SettleExpiryMovesAVehicle : Prop :=
  ∀ (b : Nat) (d : Det) (s : State), b < 512 → running s = true → (bayOf s b).pending = some (d, 1) →
    let w := if d = .present then (params s).arrival else (params s).departure
    let zone := (bayOf s b).zone
    ∃ t, exec (.settleExpiry b) s = .next t ∧ changesOnly [.occ, .air, .light, .guide, .slots, .notices] s t ∧
      (bayOf t b).sensed = (match d with
        | .present => .present s.time.clock
        | .vacant => .vacant) ∧
      (bayOf t b).pending = none ∧
      (bayOf t b).admin = (if d = .present ∧ isReserved (bayOf s b).admin = true then .inService else (bayOf s b).admin) ∧
      (∀ c, c ≠ b → bayOf t c = bayOf s c) ∧
      t.air.sensors = s.air.sensors ∧
      (∀ z, t.air.zones.nth z = if z = zone ∧ zonePresent s.cfg.inForce z = true
        then { s.air.zones.nth z with e := min 1000 ((s.air.zones.nth z).e + w) } else s.air.zones.nth z) ∧
      (∀ g, (t.light.groups.nth g).stay =
        if g ∈ presentGroups s ∧ rangeHas (s.cfg.inForce.groups.nth g) b = true
        then (s.cfg.inForce.groups.nth g).stayLit else (s.light.groups.nth g).stay) ∧
      (d = .present → isReserved (bayOf s b).admin = true → announced s t (.reservationEnd b .taken))

/-- R11, R17: the silence scan at the 16th T1 tap sets every silent bay to NONE and leaves the others, and a reservation
that runs out returns its bay to service (assumptions 1 and 2). -/
def Obligations.SilenceAndReservationsEnd : Prop :=
  ∀ (s : State), running s = true →
    (s.occ.scan = 15 →
      ∃ t, exec .silenceScan s = .next t ∧ changesOnly [.occ, .light, .guide, .slots, .notices] s t ∧ t.occ.scan = 0 ∧
        ∀ b, b < 512 →
          let x := bayOf s b
          let silent := x.detector ≠ none ∧ 180 < x.lastHeard ∧ x.sensed ≠ .nothing
          (silent → (bayOf t b).sensed = .nothing ∧ (bayOf t b).pending = none ∧ (bayOf t b).health = x.health ∧
            (bayOf t b).admin = x.admin ∧ (bayOf t b).lastHeard = x.lastHeard) ∧
          (¬ silent → bayOf t b = x)) ∧
    (∀ b, b < 512 → (bayOf s b).admin = .reserved 1 →
      ∃ t, exec (.reservationExpiry b) s = .next t ∧ changesOnly [.occ, .light, .guide, .slots, .notices] s t ∧
        bayOf t b = { bayOf s b with admin := .inService, state := deriveBay .inService (bayOf s b).sensed } ∧
        (∀ c, c ≠ b → bayOf t c = bayOf s c) ∧ announced s t (.reservationEnd b .expired))

/-- R92, R93, R94, R98: a stay-lit time that ends forms its group again, and a path whose countdown ends triggers its
front group and moves on, or falls idle after its last (assumptions 1 and 2). -/
def Obligations.StayLitAndPathsEnd : Prop :=
  ∀ (s : State), running s = true →
    (∀ g, g ∈ presentGroups s → (s.light.groups.nth g).stay = 1 →
      ∃ t, exec (.stayLitEnd g) s = .next t ∧ changesOnly [.light, .guide, .slots] s t ∧
        (t.light.groups.nth g).stay = 0 ∧ (t.light.groups.nth g).level = groupLevel t g ∧
        (t.light.groups.nth g).wanted = ⟨s.cfg.dimming.nth (groupLevel t g), groupFade s g⟩ ∧
        (∀ h, h ≠ g →
          { t.light.groups.nth h with waiting := false } = { s.light.groups.nth h with waiting := false })) ∧
    (∀ p front, p < 4 → s.light.paths.nth p = .running front 1 →
      let r := s.cfg.inForce.paths.nth p
      ∃ t, exec (.pathStep p) s = .next t ∧ changesOnly [.light, .guide, .slots] s t ∧
        t.light.paths.nth p = (if front + 1 < r.groups.length then .running (front + 1) r.step else .idle) ∧
        (∀ q, q ≠ p → t.light.paths.nth q = s.light.paths.nth q) ∧
        (∀ g, (t.light.groups.nth g).stay =
          if r.groups[front]? = some g ∧ g ∈ presentGroups s then (s.cfg.inForce.groups.nth g).stayLit
          else (s.light.groups.nth g).stay))

/-- R99, R103, R123, R132, R136: at the 64th T1 tap every present group, and every present face and mapped bay lamp, is
sent again in RUNNING, and the fallback broadcasts in FALLBACK and EDITING (assumptions 1 and 2). -/
def Obligations.ResendsSendEverythingAgain : Prop :=
  ∀ (s : State), loading s = false →
    (s.light.resend = 63 →
      ∃ t, exec .lightResend s = .next t ∧ changesOnly [.light, .guide, .slots] s t ∧ t.light.resend = 0 ∧
        (∀ g, { t.light.groups.nth g with waiting := false } = { s.light.groups.nth g with waiting := false }) ∧
        (running s = true → ∀ g ∈ presentGroups s, onItsWay t (.group g)) ∧
        (running s = false → onItsWay t .groupAll)) ∧
    (s.guide.resend = 63 →
      ∃ t, exec .guidanceResend s = .next t ∧ changesOnly [.light, .guide, .slots] s t ∧ t.guide.resend = 0 ∧
        t.guide.status = s.guide.status ∧
        (running s = true → (∀ x ∈ allFaces s, onItsWay t (.face x.1 x.2)) ∧
          ∀ b, b < 512 → (bayOf s b).detector ≠ none → onItsWay t (.lamp b)) ∧
        (running s = false → onItsWay t .faceAll ∧ onItsWay t .lampAll))

/-- R129, R130: at the 16th T1 tap every DECISION face of a present sign without a pair turns its tree away from its
choice and selects again; the faces of the other signs stand (assumptions 1 and 2). -/
def Obligations.RotationTurnsUnpairedDecisions : Prop :=
  ∀ (s : State), running s = true → s.guide.rotation = 15 →
    ∃ t, exec .rotationAdvance s = .next t ∧ changesOnly [.light, .guide, .slots] s t ∧ t.guide.rotation = 0 ∧
      ∀ x ∈ allFaces s,
        let r := faceRec s x.1 x.2
        let old := faceOf s x.1 x.2
        let new := faceOf t x.1 x.2
        (r.kind = .decision → (s.cfg.inForce.signs.nth x.1).pair = none → Advanced s r old new) ∧
        (r.kind ≠ .decision ∨ (s.cfg.inForce.signs.nth x.1).pair ≠ none →
          { new with waiting := false } = { old with waiting := false })

/-- R134, R135: LEVEL_COUNTS writes its items in list order, each with its count clamped and age 0, with or without a
reply, and an entry turns stale at age 120. A list outside RUNNING, of a wrong length or with a level outside 1..7 is
refused in this order, and as a broadcast ignored; the refusals are stated where no destination waits beside a free slot,
so that they fill none (R165). The stale entry is the event of its last T1 tap (assumptions 1 and 2), and the layout of
the reply is the model's choice (assumption 8). -/
def Obligations.OtherLevelsAreWrittenAndTurnStale : Prop :=
  ∀ (s : State),
    (∀ v e, running s = true → v < 8 → s.guide.levels.nth v = some e → e.age = 119 →
      ∃ t, exec (.levelStale v) s = .next t ∧ changesOnly [.light, .guide, .slots, .notices] s t ∧
        t.guide.levels = s.guide.levels.put v (some { e with age := 120 }) ∧ announced s t (.levelStale v true)) ∧
    (∀ items : List (Nat × Nat), takesRequests s → FillLaw s →
      let refused := fun r => exec (.levelCounts false (.fits items)) s = .next (repliedOnly s 0x45 r []) ∧
        exec (.levelCounts true (.fits items)) s = .next { s with link := { s.link with receiver := .hunting } }
      (running s = false → refused .badState) ∧
      (running s = true → items.length = 0 ∨ 7 < items.length → refused .badLength) ∧
      (running s = true → 1 ≤ items.length → items.length ≤ 7 → ∀ x ∈ items, x.1 = 0 ∨ 7 < x.1 → refused .badIndex)) ∧
    (∀ items : List (Nat × Nat), running s = true → takesRequests s → 1 ≤ items.length → items.length ≤ 7 →
      (∀ x ∈ items, 1 ≤ x.1 ∧ x.1 ≤ 7) →
      let written := items.foldl (fun t x => t.put x.1 (some ⟨min x.2 9999, 0⟩)) s.guide.levels
      (∃ t, exec (.levelCounts false (.fits items)) s = .next t ∧
        changesOnly [.light, .guide, .slots, .notices, .link] s t ∧ answers s t 0x45 .ok (u8 items.length) ∧
        t.guide.levels = written) ∧
      (∃ t, exec (.levelCounts true (.fits items)) s = .next t ∧
        changesOnly [.light, .guide, .slots, .notices, .link] s t ∧ t.link.reply = s.link.reply ∧
        t.guide.levels = written))

/-- R70, R73, R74, R75, R78: a fan whose ready wait or ready loss ends is in FAULT with its coast time set, a coast ends
at 0, and at the start of a PWM period each channel drives the output of its direction alone (assumptions 1 and 2). -/
def Obligations.FanEventsFaultCoastAndDrive : Prop :=
  ∀ (s : State),
    (∀ n, n < 12 → fanDriven s n = true →
      let x := s.fan.channels.nth n
      let aim := channelAim s n
      let faulted := fun (t : State) (why : FanFault) => changesOnly [.fan, .light, .guide, .slots, .notices] s t ∧
        (let y := t.fan.channels.nth n
         y.state = .fault ∧ y.reason = some why ∧ y.reference = 0 ∧ y.driven = none ∧ y.last = x.driven.getD x.last ∧
          y.coast = (params s).dwell ∧ y.ready = 0) ∧
        (∀ m, m ≠ n → t.fan.channels.nth m = s.fan.channels.nth m) ∧ announced s t (.fanState n .fault (some why))
      (x.state = .starting → aim.call ≠ .stop → (aim.wanted = none ∨ aim.wanted = x.driven) →
        (params s).readyTimeout ≤ x.ready + 1 → ∃ t, exec (.readyTimeout n) s = .next t ∧ faulted t .noReady) ∧
      (x.state = .running ∨ x.state = .stopping → (params s).readyLoss ≤ x.ready + 1 →
        ∃ t, exec (.readyLoss n) s = .next t ∧ faulted t .readyLost)) ∧
    (∀ n, n < 12 → loading s = false → ¬ turns (s.fan.channels.nth n).state → (s.fan.channels.nth n).coast = 1 →
      let y := { s.fan.channels.nth n with coast := 0 }
      exec (.coastEnd n) s = .next { s with fan := { s.fan with channels := s.fan.channels.put n y } }) ∧
    (∃ t, exec .pwmPeriodStart s = .next t ∧ changesOnly [.fan] s t ∧ t.fan.profile = s.fan.profile ∧
      t.fan.ventLost = s.fan.ventLost ∧ ∀ n, n < 12 →
        let x := s.fan.channels.nth n
        t.fan.channels.nth n = { x with
          fwd := if x.driven = some .forward then x.reference else 0
          rev := if x.driven = some .reverse then x.reference else 0 })

/-- R106 to R109, R113: a loop is OCCUPIED at its fourth active tap, CLEAR at its release and STUCK after 120 seconds, and
a sequence ends at its timeout with the timeout tally raised (assumptions 1 and 2). -/
def Obligations.LoopEventsChangeTheirInput : Prop :=
  ∀ (s : State), loading s = false →
    (∀ i, i < 8 →
      let x := s.loops.inputs.nth i
      let becomes := fun (t : State) (y : LoopInput) => changesOnly [.loops, .air, .light, .guide, .slots, .notices] s t ∧
        t.loops.inputs.nth i = y ∧ ∀ j, j ≠ i → t.loops.inputs.nth j = s.loops.inputs.nth j
      (x.supervised = true → x.state = .clear → x.filter = 3 →
        ∃ t, exec (.loopOccupied i) s = .next t ∧
          becomes t { x with level := true, state := .occupied, filter := 0, occupied := 0 }) ∧
      (∃ t, exec (.loopRelease i) s = .next t ∧
        becomes t { x with level := false, state := .clear, filter := 0, occupied := 0 } ∧
        (x.state = .stuck → t.loops = { s.loops with inputs := t.loops.inputs } ∧ announced s t (.loopState i false)) ∧
        (x.state = .clear → t.loops = { s.loops with inputs := t.loops.inputs })) ∧
      (x.state = .occupied → x.occupied = 119 →
        ∃ t, exec (.loopStuck i) s = .next t ∧ becomes t { x with state := .stuck, occupied := 120 } ∧
          announced s t (.loopState i true))) ∧
    (∀ p, p < 4 → (s.loops.pairs.nth p).sequence ≠ .idle → (s.loops.pairs.nth p).time = 29 →
      let x := s.loops.pairs.nth p
      let y := { x with sequence := .idle, otherSeen := false, time := 0, timeout := min (x.timeout + 1) 65535 }
      exec (.sequenceTimeout p) s = .next { s with loops := { s.loops with pairs := s.loops.pairs.put p y } })

/-- R42, R97, R98, R111, R112, R114, R115, R116, R130: the release that clears both loops of a pair completes its
sequence: a passage IN or OUT when the other loop was seen, a back-out otherwise, and nothing from IDLE; a loop of a
single-loop pair that becomes OCCUPIED is one undirected passage. An ENTRY pair moves the level vehicle count, which stays
within 0..9999. In RUNNING every passage credits the pair's zone with the passage weight; one IN or undirected starts the
pair's paths, and at a DECISION pair advances the DECISION faces of its sign; one OUT starts no path and turns no arrow.
Outside RUNNING a passage is announced to no block. -/
def Obligations.SequencesBecomePassages : Prop :=
  ∀ (i p : Nat) (s : State), i < 8 → loading s = false → pairOf s.cfg.inForce i = some p →
    let r := s.cfg.inForce.pairs.nth p
    let x := s.loops.pairs.nth p
    let idle := { x with sequence := .idle, otherSeen := false, time := 0 }
    let sat := fun n => min (n + 1) 65535
    let entry := fun (up : Nat) (t : State) => t.loops.count = if r.role = .entry then up else s.loops.count
    (∀ b, r.inB = some b → (s.loops.inputs.nth i).state = .occupied →
      (s.loops.inputs.nth (if r.inA = i then b else r.inA)).state ≠ .occupied →
      (if r.inA = i then b else r.inA) ≠ i →
      ∃ t, exec (.loopRelease i) s = .next t ∧ (∀ q, q ≠ p → t.loops.pairs.nth q = s.loops.pairs.nth q) ∧
        (x.sequence = .aFirst → x.otherSeen = true →
          t.loops.pairs.nth p = { idle with tallyIn := sat x.tallyIn } ∧ entry (min (s.loops.count + 1) 9999) t ∧
          PassageTold s t p (some .into)) ∧
        (x.sequence = .bFirst → x.otherSeen = true →
          t.loops.pairs.nth p = { idle with tallyOut := sat x.tallyOut } ∧ entry (s.loops.count - 1) t ∧
          PassageTold s t p (some .out)) ∧
        (x.sequence ≠ .idle → x.otherSeen = false →
          t.loops.pairs.nth p = { idle with backOut := sat x.backOut } ∧ t.loops.count = s.loops.count ∧
          PassageTold s t p none) ∧
        (x.sequence = .idle → t.loops.pairs.nth p = x ∧ t.loops.count = s.loops.count ∧ PassageTold s t p none)) ∧
    (r.inB = none → (s.loops.inputs.nth i).supervised = true → (s.loops.inputs.nth i).state = .clear →
      (s.loops.inputs.nth i).filter = 3 →
      ∃ t, exec (.loopOccupied i) s = .next t ∧ (∀ q, q ≠ p → t.loops.pairs.nth q = s.loops.pairs.nth q) ∧
        t.loops.pairs.nth p = { x with tallyIn := sat x.tallyIn } ∧ entry (min (s.loops.count + 1) 9999) t ∧
        PassageTold s t p (some .undirected))

/-- R141, R146, R149, R150, R151: entries that run out leave the stack together; a key input found active long enough
places its entry on top and holds its id, or waits when the stack is full; its release removes the entry
(assumptions 1 and 2). The two clauses that remove entries are for a part whose other inputs are not PENDING, so that
none pushes into the room (R151). -/
def Obligations.KeysAndExpiryMoveTheStack : Prop :=
  ∀ (s : State), loading s = false →
    let calm := fun k => (s.ovr.keys.nth k).state ≠ .pending
    let stackBlocks : List Block := [.ovr, .air, .fan, .light, .guide, .slots, .notices]
    (calm 0 → calm 1 →
      ∃ t, exec .overrideExpiry s = .next t ∧ changesOnly stackBlocks s t ∧ t.ovr.keys = s.ovr.keys ∧
        t.ovr.stack = s.ovr.stack.filter (fun e => e.remaining ≠ some 1 ∧ e.remaining ≠ some 0)) ∧
    (∀ k kind, k < 2 → roleKind (s.cfg.inForce.inputs.nth k).role = some kind → (s.ovr.keys.nth k).state = .released →
      (s.ovr.keys.nth k).filter = 7 →
      let e := keyEntry s k kind
      ∃ t, exec (.inputActive k) s = .next t ∧ changesOnly stackBlocks s t ∧
        (s.ovr.stack.length < 8 → t.ovr.stack = s.ovr.stack ++ [e] ∧ t.ovr.keys.nth k = ⟨true, 0, .held e.id⟩) ∧
        (8 ≤ s.ovr.stack.length → t.ovr.stack = s.ovr.stack ∧ t.ovr.keys.nth k = ⟨true, 0, .pending⟩ ∧
          announced s t (.inputPending (k + 1) .pending))) ∧
    (∀ k, k < 2 →
      ∃ t, exec (.inputRelease k) s = .next t ∧ changesOnly stackBlocks s t ∧
        (∀ id, (s.ovr.keys.nth k).state = .held id → calm (1 - k) →
          t.ovr.stack = s.ovr.stack.filter (fun e => e.id ≠ id) ∧ t.ovr.keys.nth k = ⟨false, 0, .released⟩) ∧
        ((s.ovr.keys.nth k).state = .pending → t.ovr.stack = s.ovr.stack ∧ t.ovr.keys.nth k = ⟨false, 0, .released⟩ ∧
          announced s t (.inputPending (k + 1) .cleared)) ∧
        ((s.ovr.keys.nth k).state = .released ∨ (s.ovr.keys.nth k).state = .spent →
          t.ovr.stack = s.ovr.stack ∧ t.ovr.keys.nth k = ⟨false, 0, .released⟩))

/-! ## Field bus, image store and service link -/

/-- R167, R171: the slot with the lowest identifier is offered, and of two faces of one sign the lower index; a lost
arbitration leaves the slot as it stood; the fourth T4 tap in OFF ends it (assumptions 1 and 2). -/
def Obligations.SlotsAreOfferedLowestFirst : Prop :=
  ∀ (s : State), loading s = false →
    (s.bus.state ≠ .off → (∀ j x, j < 16 → s.bus.slots.nth j = some x → x.trying = false) →
      (∀ j x a f, j < 16 → s.bus.slots.nth j = some x → x.key = .face a f → f < 4) →
      (∃ j x, j < 16 ∧ s.bus.slots.nth j = some x) →
      ∃ i x, i < 16 ∧ s.bus.slots.nth i = some x ∧
        (∀ j y, j < 16 → s.bus.slots.nth j = some y → keyIdentifier x.key ≤ keyIdentifier y.key ∧
          ∀ a f g, x.key = .face a f → y.key = .face a g → f ≤ g) ∧
        exec .frameOffer s = .next { s with bus := { s.bus with
          slots := s.bus.slots.put i (some { x with trying := true }) } }) ∧
    (s.bus.state ≠ .off → ∀ i x, i < 16 → s.bus.slots.nth i = some x → x.trying = true → x.withdrawn = false →
      (∀ j y, j < 16 → j ≠ i → s.bus.slots.nth j = some y → y.trying = false) →
      ∃ t, exec .arbitrationLost s = .next t ∧ changesOnly [.light, .guide, .slots] s t ∧
        t.bus.slots.nth i = some { x with trying := false }) ∧
    (s.bus.state = .off → s.bus.offTaps = 3 →
      ∃ t, exec .busOffRecovery s = .next t ∧ changesOnly [.bus, .light, .guide, .slots, .notices] s t ∧
        t.bus.state = .active ∧ t.bus.errors = 0 ∧ announced s t (.fieldState .active) ∧
        ∀ i x, s.bus.slots.nth i = some x → t.bus.slots.nth i = some x)

/-- R168, R169, R170: a success takes 1 from the error count and the sent value is the one carried; a failure adds 8 and
counts the attempt, and the sixteenth gives the frame up and is reported to its producer. The bus state follows the
count. That a give-up comes before the entry to OFF is the model's choice (assumption 28). -/
def Obligations.AttemptsSucceedOrFail : Prop :=
  ∀ (i : Nat) (x : Slot) (s : State), loading s = false → s.bus.state ≠ .off → i < 16 →
    s.bus.slots.nth i = some x → x.trying = true → x.withdrawn = false →
    (∀ j y, j < 16 → j ≠ i → s.bus.slots.nth j = some y → y.trying = false) →
    let parts : List Block := [.bus, .occ, .light, .guide, .slots, .notices]
    (∃ t, exec .attemptSuccess s = .next t ∧ changesOnly parts s t ∧
      t.bus.errors = s.bus.errors - 1 ∧ t.bus.state = busStateOf (s.bus.errors - 1) ∧ t.bus.givenUp = s.bus.givenUp ∧
      (∀ a v g, x.key = .group a → x.data = .level v → groupAt s.cfg.inForce a = some g →
        (t.light.groups.nth g).sent = some v ∧
        ((s.light.groups.nth g).state = .noResponse → (t.light.groups.nth g).state = .ok)) ∧
      (∀ a v f k, x.key = .face a f → x.data = .face v → f < 4 → signAt s.cfg.inForce a = some k →
        (faceOf t k f).sent = some v ∧
        ((s.guide.signs.nth k).state = .noResponse → (t.guide.signs.nth k).state = .ok)) ∧
      (∀ a c b, x.key = .lamp a → x.data = .lamp c → mapBay s.cfg.map a = some b → b < 512 →
        (t.guide.lamps.nth b).sent = some c ∧ (bayOf t b).lampFault = false)) ∧
    (∃ t, exec .attemptFailed s = .next t ∧ changesOnly parts s t ∧
      t.bus.errors = s.bus.errors + 8 ∧ t.bus.state = busStateOf (s.bus.errors + 8) ∧
      (t.bus.state = .off → announced s t (.fieldState .off)) ∧
      (x.attempts + 1 < 16 → t.bus.slots.nth i = some { x with attempts := x.attempts + 1, trying := false } ∧
        t.bus.givenUp = s.bus.givenUp) ∧
      (16 ≤ x.attempts + 1 → t.bus.givenUp = min (s.bus.givenUp + 1) 65535 ∧
        (∀ a g, x.key = .group a → groupAt s.cfg.inForce a = some g → (t.light.groups.nth g).state = .noResponse) ∧
        (∀ a f k, x.key = .face a f → signAt s.cfg.inForce a = some k → (t.guide.signs.nth k).state = .noResponse) ∧
        (∀ a b, x.key = .lamp a → mapBay s.cfg.map a = some b → b < 512 → (bayOf t b).lampFault = true)))

/-- R188, R189: an image store writes 257 pages, page 0 first blank and last with the header, and ends with the read-back
or with the page that did not complete. That the body is held as its records, which the last body page puts into the
memory with their CRC Config.bodyCrc, a constant without a body, is the model's choice (assumption 11); so is the mark on
a page 0 whose write or read-back failed, by which a later load finds the old page or none it can load (assumption 12). -/
def Obligations.StoresWriteTheirPages : Prop :=
  ∀ (n : Nat) (id : BitVec 16) (b : Body) (s : State), s.cfg.activity = .storing n id b →
    (n < 257 → ∃ t, exec .storePageDone s = .next t ∧ changesOnly [.cfg] s t ∧
      t.cfg = { s.cfg with activity := .storing (n + 1) id b, memory := t.cfg.memory } ∧
      (n = 0 → t.cfg.memory = { s.cfg.memory with page0 := .whole (List.replicate 64 0) }) ∧
      (1 ≤ n → n < 255 → t.cfg.memory = s.cfg.memory) ∧
      (n = 255 → t.cfg.memory = { s.cfg.memory with body := b, bodyCrc := Config.bodyCrc b, undecoded := none }) ∧
      (n = 256 → t.cfg.memory = { s.cfg.memory with page0 := .whole (headerPage id (Config.bodyCrc b)) })) ∧
    (n = 257 →
      (∃ t, exec (.storeReadbackDone true) s = .next t ∧ changesOnly [.cfg, .notices] s t ∧
        t.cfg = { s.cfg with activity := .idle, lastStore := some .ok, imageCurrent := true, loadedId := some id } ∧
        announced s t (.storeDone .ok id 257)) ∧
      (∃ t, exec (.storeReadbackDone false) s = .next t ∧ changesOnly [.cfg, .notices] s t ∧
        t.cfg = { s.cfg with
          activity := .idle, lastStore := some .failed, imageCurrent := false
          memory := { s.cfg.memory with page0 := .cut false (headerPage id (Config.bodyCrc b)) } } ∧
        announced s t (.storeDone .failed id 257))) ∧
    (n < 257 → ∃ t, exec .storePageTimeout s = .next t ∧ changesOnly [.cfg, .notices] s t ∧
      t.cfg = { s.cfg with
        activity := .idle, lastStore := some .failed, imageCurrent := false, memory := t.cfg.memory } ∧
      (n = 0 → ∀ page, s.cfg.memory.page0 = .whole page → t.cfg.memory = { s.cfg.memory with page0 := .cut true page }) ∧
      (n = 0 → (∀ page, s.cfg.memory.page0 ≠ .whole page) → t.cfg.memory = s.cfg.memory) ∧
      (1 ≤ n → n < 256 → t.cfg.memory = s.cfg.memory) ∧
      (n = 256 → t.cfg.memory = { s.cfg.memory with page0 := .cut false (headerPage id (Config.bodyCrc b)) }) ∧
      announced s t (.storeDone .failed id n))

/-- R192 to R195: what the receiver takes besides requests, and the start and end of a reply. While DE is raised whatever
the receiver sees is discarded. -/
def Obligations.LinkEventsMoveTheReceiver : Prop :=
  ∀ (s : State),
    (s.link.de = false →
      exec .frameSync s = .next { s with link := { s.link with receiver := .inFrame } } ∧
      (∀ c, c = .frameGapTimeout ∨ c = .frameCrcMismatch ∨ c = .frameLenAbandoned 0
          ∨ (∃ len : Byte, 251 < len ∧ c = .frameLenAbandoned len)
          ∨ (∃ a k, a ≠ 0 ∧ a ≠ nodeAddress s ∧ c = .frameIgnored a k)
          ∨ (∃ k : Byte, 0x80 ≤ k ∧ c = .frameIgnored (nodeAddress s) k)
          ∨ (∃ k : Byte, k ≠ 0x04 ∧ k ≠ 0x45 ∧ c = .frameIgnored 0 k) →
        exec c s = .next { s with link := { s.link with receiver := .hunting } }) ∧
      (s.link.resetDue = false → ∀ k : Byte, k < 0x80 → k.toNat ∉ requestKinds →
        exec (.unknownKind k) s = .next (repliedOnly s k.toNat .unknownKind [])) ∧
      (∀ r, s.link.reply = some r →
        exec .replyStart s = .next { s with link := { s.link with reply := none, sending := some r, de := true } })) ∧
    (s.link.de = true →
      exec .replyEnd s
        = .next { s with link := { s.link with sending := none, de := false, receiver := .hunting } } ∧
      ∀ c, c = .frameSync ∨ c = .frameGapTimeout ∨ c = .frameCrcMismatch ∨ (∃ k, c = .unknownKind k)
          ∨ (∃ a k, c = .frameIgnored a k) ∨ (∃ len, c = .frameLenAbandoned len) ∨ requestCode c ≠ none →
        exec c s = .next s)

/-! ## Requests -/

/-- R95, R134, R185, R195, R196: during LOADING every request but IDENTIFY and GET_STATUS is answered BUSY; a body that
does not fit is answered BAD_LENGTH, by CONFIG_WRITE, CURVE_WRITE and LEVEL_COUNTS after the state they ask for; a
request that finds a reset due has the reset carried out first, and then finds the part in LOADING. That the due reset
comes so, and reads the straps from the pins as a field of the model holds them, are the model's choices (assumptions 19
and 14), as is the layout of the two replies in LOADING (assumptions 8 to 10). Where no destination waits beside a free
slot the refusals fill none (R165). -/
def Obligations.RequestsMeetTheCommonChecks : Prop :=
  ∀ s : State, s.link.de = false →
    (∀ (c : Instr) (k : Nat), requestCode c = some k →
      (loading s = true → s.link.resetDue = false → k ≠ 0x01 → k ≠ 0x02 → exec c s = .next (repliedOnly s k .busy [])) ∧
      (misfitFirst c → takesRequests s → exec c s = .next (repliedOnly s k .badLength [])) ∧
      (s.link.resetDue = true → k ≠ 0x01 → k ≠ 0x02 →
        exec c s = .next (repliedOnly (resetCommanded s.link.pins s) k .busy []))) ∧
    (∀ t : State, t = (if s.link.resetDue = true then resetCommanded s.link.pins s else s) →
      exec (.identify (.fits ())) s = .next (repliedOnly t 0x01 .ok (identityBytes t)) ∧
      exec (.getStatus (.fits ())) s = .next (repliedOnly t 0x02 .ok (statusBytes t)) ∧
      exec (.identify .misfit) s = .next (repliedOnly t 0x01 .badLength []) ∧
      exec (.getStatus .misfit) s = .next (repliedOnly t 0x02 .badLength [])) ∧
    (takesRequests s →
      exec (.configWrite .misfit) s
        = .next (repliedOnly s 0x11 (if s.cfg.state = .editing then .badLength else .badState) []) ∧
      (FillLaw s →
        exec (.curveWrite .misfit) s = .next (repliedOnly s 0x15
          (if storing s = true then .busy else if running s = true then .badLength else .badState) []) ∧
        exec (.levelCounts false .misfit) s
          = .next (repliedOnly s 0x45 (if running s = true then .badLength else .badState) [])))

/-- R27, R56, R57, R82, R83, R95, R104, R117, R137, R145, R162, R185, R191, R196: the requests that only read give their
fields and change nothing else, and are refused with BAD_INDEX where the index is out of range, READ_ZONE with BAD_STATE
outside RUNNING. The layout of the fields is the model's (assumptions 8 and 9), the codes of IDENTIFY are open (assumption
10), and that READ_ZONE answers BAD_INDEX before BAD_STATE, and CONFIG_READ before BAD_LENGTH, is assumption 18. -/
def Obligations.ReadsAnswerAndChangeNothing : Prop :=
  ∀ (s : State),
    (s.link.de = false → s.link.resetDue = false →
      exec (.identify (.fits ())) s = .next (repliedOnly s 0x01 .ok (identityBytes s)) ∧
      exec (.getStatus (.fits ())) s = .next (repliedOnly s 0x02 .ok (statusBytes s))) ∧
    (takesRequests s →
      (∀ kind i sub, inRange kind i sub →
        exec (.configRead (.fits (.record kind i sub))) s
          = .next (repliedOnly s 0x12 .ok (recordBytes s.cfg.working kind i sub))) ∧
      (∀ block, block < 16 → exec (.curveRead (.fits block)) s
        = .next (repliedOnly s 0x16 .ok ((List.range 16).flatMap (fun i => u16 (s.cfg.dimming.nth (16 * block + i)))))) ∧
      exec (.listUnknown (.fits ())) s
        = .next (repliedOnly s 0x24 .ok (listBytes unknownBytes s.bus.unknown ++ flag s.bus.overflow)) ∧
      (∀ z, 1 ≤ z → z < 16 → running s = true → exec (.readZone (.fits z)) s
        = .next (repliedOnly s 0x30 .ok (zoneOccupancyBytes s z ++ zoneAirBytes (s.air.zones.nth z) ++ zoneFanBytes s z
            ++ zoneLightBytes s z ++ zoneGuidanceBytes s z))) ∧
      (∀ first n, first < 512 → ∃ m, m ≤ min (max 1 (min 32 n)) (512 - first) ∧
        ((span first (first + m)).flatMap (bayBytes s)).length ≤ 248 ∧
        (m < min (max 1 (min 32 n)) (512 - first) →
          248 < ((span first (first + (m + 1))).flatMap (bayBytes s)).length) ∧
        exec (.readBays (.fits (first, n))) s
          = .next (repliedOnly s 0x31 .ok (u8 m ++ (span first (first + m)).flatMap (bayBytes s)))) ∧
      (∀ n, n < 32 → exec (.readSensor (.fits n)) s
        = .next (repliedOnly s 0x32 .ok
            (sensorBytes n (s.cfg.inForce.sensors.nth n) ++ sensorStateBytes n (s.air.sensors.nth n)))) ∧
      (∀ n, n < 12 → exec (.readFan (.fits n)) s
        = .next (repliedOnly s 0x33 .ok (fanBytes (s.cfg.inForce.fans.nth n) ++ channelBytes (s.fan.channels.nth n)
            ++ u8 s.fan.profile ++ flag (s.fan.channels.nth n).rdy ++ flag (fanDriven s n)))) ∧
      (∀ g, g < 48 → exec (.readGroup (.fits g)) s
        = .next (repliedOnly s 0x34 .ok (groupBytes (s.cfg.inForce.groups.nth g) ++ u16 (s.light.groups.nth g).stay
            ++ u8 (s.light.groups.nth g).level ++ u8 (s.light.groups.nth g).fade
            ++ driveBytes (s.light.groups.nth g).wanted ++ optField driveBytes (s.light.groups.nth g).sent
            ++ flag (s.light.groups.nth g).waiting ++ u8 (s.light.groups.nth g).state.ctorIdx
            ++ optField (fun e => u8 e.id) (lightEntry s.ovr.stack (s.cfg.inForce.groups.nth g).zone)
            ++ listBytes u8 ((List.range 4).filter (fun p => (s.cfg.inForce.paths.nth p).groups.contains g))))) ∧
      (∀ i, i < 24 → exec (.readSign (.fits i)) s
        = .next (repliedOnly s 0x35 .ok (signBytes (s.cfg.inForce.signs.nth i) ++ u8 (s.guide.signs.nth i).state.ctorIdx
            ++ (List.range 4).flatMap (faceSlotBytes s i) ++ levelsBytes s.guide))) ∧
      exec (.readLoops (.fits ())) s
        = .next (repliedOnly s 0x36 .ok (s.loops.inputs.list.flatMap loopBytes
            ++ (List.range 4).flatMap (fun p => pairRunBytes (s.cfg.inForce.pairs.nth p) (s.loops.pairs.nth p))
            ++ u16 s.loops.count)) ∧
      exec (.overrideList (.fits ())) s
        = .next (repliedOnly s 0x53 .ok (u8 s.ovr.stack.length ++ stackBytes s.ovr.stack ++ keyBytes s 0 ++ keyBytes s 1
            ++ u8 (sounderCode s.ovr.sounder) ++ optField u8 (phaseOf s.ovr.sounder)))) ∧
    (takesRequests s →
      let refused := fun c kind r => exec c s = .next (repliedOnly s kind r [])
      (∀ z, z = 0 ∨ 15 < z → refused (.readZone (.fits z)) 0x30 .badIndex) ∧
      (∀ z, 1 ≤ z → z < 16 → running s = false → refused (.readZone (.fits z)) 0x30 .badState) ∧
      (∀ first n, 511 < first → refused (.readBays (.fits (first, n))) 0x31 .badIndex) ∧
      (∀ n, 31 < n → refused (.readSensor (.fits n)) 0x32 .badIndex) ∧
      (∀ n, 11 < n → refused (.readFan (.fits n)) 0x33 .badIndex) ∧
      (∀ g, 47 < g → refused (.readGroup (.fits g)) 0x34 .badIndex) ∧
      (∀ i, 23 < i → refused (.readSign (.fits i)) 0x35 .badIndex) ∧
      (∀ block, 15 < block → refused (.curveRead (.fits block)) 0x16 .badIndex) ∧
      refused (.configRead (.fits .unknownKind)) 0x12 .badIndex ∧
      (∀ kind i sub, ¬ inRange kind i sub →
        refused (.configRead (.fits (.record kind i sub))) 0x12 .badIndex ∧
        refused (.configRead (.fits (.misfit kind i sub))) 0x12 .badIndex) ∧
      (∀ kind i sub, inRange kind i sub → refused (.configRead (.fits (.misfit kind i sub))) 0x12 .badLength))

/-- R25: MAP_LOOKUP gives the set, the way and the bay of an address or NOT_FOUND, and MAP_READ_SET the four ways of a
set or BAD_INDEX; both leave the map, in every configuration state but LOADING and while a store is in progress. The
layout of the replies, and the valid mark of a way as 1 or 0, are the model's (assumptions 8 and 9). -/
def Obligations.MapReadsFindTheirEntries : Prop :=
  ∀ (s : State),
    (takesRequests s →
      (∀ a set way e, set < 128 → way < 4 → (s.cfg.map.nth set).nth way = some e → entryAddr set e = a →
        (∀ w, w < way → ∀ x, (s.cfg.map.nth set).nth w = some x → entryAddr set x ≠ a) →
        exec (.mapLookup (.fits a)) s = .next (repliedOnly s 0x22 .ok (u8 set ++ u8 way ++ u16 e.bay))) ∧
      (∀ a, (∀ set way e, set < 128 → way < 4 → (s.cfg.map.nth set).nth way = some e → entryAddr set e ≠ a) →
        exec (.mapLookup (.fits a)) s = .next (repliedOnly s 0x22 .notFound [])) ∧
      (∀ set, 127 < set → exec (.mapReadSet (.fits set)) s = .next (repliedOnly s 0x23 .badIndex [])) ∧
      (∀ set, set < 128 → exec (.mapReadSet (.fits set)) s
        = .next (repliedOnly s 0x23 .ok ((List.range 4).flatMap (fun way =>
            match (s.cfg.map.nth set).nth way with
            | none => u8 0
            | some e => u8 1 ++ u16 e.tag ++ u24 (e.tag * 128 + set) ++ u16 e.bay))))) ∧
    (loading s = true → s.link.de = false → s.link.resetDue = false →
      (∀ a, exec (.mapLookup (.fits a)) s = .next (repliedOnly s 0x22 .busy [])) ∧
      ∀ set, exec (.mapReadSet (.fits set)) s = .next (repliedOnly s 0x23 .busy []))

/-- R180: GET_CLOCK gives the part clock, the clock-set flag and the corrections and changes nothing, in every
configuration state but LOADING and while a store is in progress; the flag is false after a power-on reset, becomes true
at a SET_CLOCK alone, and then stays true until the next power-on reset. The order and widths of the reply, and the flag
as 1 or 0, are the model's (assumptions 8 and 9). -/
def Obligations.GetClockReportsTheClock : Prop :=
  (∀ s : State, takesRequests s →
    exec (.getClock (.fits ())) s = .next (repliedOnly s 0x05 .ok
      (u32 s.time.clock.toNat ++ flag s.time.clockSet ++ i8 s.time.correction
        ++ (match s.time.nextCorrection with
          | none => u8 0
          | some c => u8 1 ++ i8 c)))) ∧
  (∀ s : State, loading s = true → s.link.de = false → s.link.resetDue = false →
    exec (.getClock (.fits ())) s = .next (repliedOnly s 0x05 .busy [])) ∧
  (∀ (straps : Straps) (s t : State), exec (.powerOnReset straps) s = .next t → t.time.clockSet = false) ∧
  (∀ (b : Bool) (q : BitVec 32 × Option Int) (s : State), takesRequests s →
    ∃ t, exec (.setClock b (.fits q)) s = .next t ∧ t.time.clockSet = true) ∧
  (∀ (c : Instr) (s t : State), exec c s = .next t → (∀ straps, c ≠ .powerOnReset straps) →
    (s.time.clockSet = true → t.time.clockSet = true) ∧
    (s.time.clockSet = false → t.time.clockSet = true → ∃ b q, c = .setClock b (.fits q)))

/-- R184 to R188: CONFIG_OPEN enters EDITING with the working configuration set to the one in force, CONFIG_CLOSE enters
RUNNING with the working configuration in force when it is valid, and CONFIG_STORE begins a store in RUNNING; while
STORING it is refused with BUSY, and then outside RUNNING with BAD_STATE. The refusals of CONFIG_OPEN and CONFIG_CLOSE
are stated where no destination waits beside a free slot, so that they fill none (R165). The layout of the record named in
an INVALID reply, with the codes of its kinds, is the model's (assumptions 8 and 9). -/
def Obligations.ConfigurationOpensClosesAndStores : Prop :=
  ∀ (s : State), takesRequests s →
    (FillLaw s → storing s = true → exec (.configOpen (.fits ())) s = .next (repliedOnly s 0x10 .busy [])) ∧
    (FillLaw s → storing s = false → s.cfg.state = .editing →
      exec (.configOpen (.fits ())) s = .next (repliedOnly s 0x10 .badState [])) ∧
    (storing s = false → s.cfg.state = .running ∨ s.cfg.state = .fallback →
      ∃ t, exec (.configOpen (.fits ())) s = .next t ∧ answers s t 0x10 .ok [] ∧ t.cfg.state = .editing ∧
        t.cfg.working = s.cfg.inForce ∧ t.cfg.inForce = s.cfg.inForce ∧ t.cfg.map = s.cfg.map ∧
        t.cfg.closed = s.cfg.closed ∧ t.loops = s.loops ∧ t.ovr.stack = s.ovr.stack ∧ t.ovr.keys = s.ovr.keys ∧
        announced s t (.configState .editing none) ∧
        (∀ n, n < 12 → s.cfg.state = .fallback → fanDriven t n = true)) ∧
    (FillLaw s → s.cfg.state ≠ .editing → exec (.configClose (.fits ())) s = .next (repliedOnly s 0x13 .badState [])) ∧
    (FillLaw s → s.cfg.state = .editing → ∀ r why, validate s.cfg.working s.cfg.map = some (r, why) →
      exec (.configClose (.fits ())) s = .next (repliedOnly s 0x13 .invalid (invalidBytes r why))) ∧
    (s.cfg.state = .editing → validate s.cfg.working s.cfg.map = none →
      ∃ t, exec (.configClose (.fits ())) s = .next t ∧ t.link.reply = some ⟨0x93, [0]⟩ ∧ t.cfg.state = .running ∧
        t.cfg.inForce = s.cfg.working ∧ t.cfg.working = s.cfg.working ∧ t.cfg.imageCurrent = false ∧
        t.bus.bitRate = s.cfg.working.params.bitRate ∧ t.link.attnHigh = s.cfg.working.params.attnHigh ∧
        t.bus.unknown = [] ∧ t.loops.count = s.loops.count ∧ announced s t (.configState .running none) ∧
        (∀ n, n < 12 → ¬ turns (t.fan.channels.nth n).state ∧ (t.fan.channels.nth n).reference = 0) ∧
        (∀ z, zonePresent t.cfg.inForce z = true → (t.air.zones.nth z).state = .unknown)) ∧
    (∀ id, storing s = false → s.cfg.state = .running →
      let body : Body := ⟨s.cfg.working, s.cfg.closed, s.cfg.dimming, s.cfg.map⟩
      exec (.configStore (.fits id)) s
        = .next { repliedOnly s 0x14 .ok [] with cfg := { s.cfg with activity := .storing 0 id body } }) ∧
    (∀ id, storing s = true → exec (.configStore (.fits id)) s = .next (repliedOnly s 0x14 .busy [])) ∧
    (∀ id, storing s = false → s.cfg.state = .fallback ∨ s.cfg.state = .editing →
      exec (.configStore (.fits id)) s = .next (repliedOnly s 0x14 .badState []))

/-- R95, R185: in EDITING a record that is taken replaces its working record, no other record changes, and it is given
back as stored; an unknown kind and an index outside the range of its kind are refused with BAD_INDEX; a refused record
changes nothing. In RUNNING sixteen entries of the dimming table are replaced, each clamped to 1023, and the refusals
of CURVE_WRITE come in the order of its table. These are stated where no destination waits beside a free slot, so that
they fill none (R165). The layout of the record given back is the model's (assumptions 8 and 9), and so is the list form
of the outputs (assumption 41). -/
def Obligations.RecordsAndCurvesAreWritten : Prop :=
  ∀ (s : State), takesRequests s →
    (∀ w, s.cfg.state ≠ .editing → exec (.configWrite (.fits w)) s = .next (repliedOnly s 0x11 .badState [])) ∧
    (∀ w e, s.cfg.state = .editing → writeRecord w s.cfg.working = .error e →
      exec (.configWrite (.fits w)) s = .next (repliedOnly s 0x11 e [])) ∧
    (∀ w c bytes, s.cfg.state = .editing → writeRecord w s.cfg.working = .ok (c, bytes) →
      exec (.configWrite (.fits w)) s
        = .next { repliedOnly s 0x11 .ok bytes with cfg := { s.cfg with working := c } }) ∧
    (∀ w k i n, s.cfg.state = .editing → writtenRecord w = some (k, i, n) →
      ∃ t, exec (.configWrite (.fits w)) s = .next t ∧ (¬ inRange k i n → t = repliedOnly s 0x11 .badIndex []) ∧
        ((∃ e, e ≠ .ok ∧ t = repliedOnly s 0x11 e []) ∨
          (inRange k i n ∧ SameBut k i n s.cfg.working t.cfg.working ∧
            t = { repliedOnly s 0x11 .ok (recordBytes t.cfg.working k i n) with
              cfg := { s.cfg with working := t.cfg.working } }))) ∧
    (s.cfg.state = .editing →
      exec (.configWrite (.fits .unknownKind)) s = .next (repliedOnly s 0x11 .badIndex []) ∧
      ∀ k i n,
        (¬ inRange k i n → exec (.configWrite (.fits (.misfit k i n))) s = .next (repliedOnly s 0x11 .badIndex [])) ∧
        (inRange k i n → exec (.configWrite (.fits (.misfit k i n))) s = .next (repliedOnly s 0x11 .badLength []))) ∧
    (∀ i r, s.cfg.state = .editing → i = 0 ∨ 15 < i ∨ 511 < r.bayBase ∨ 512 < r.bayCount →
      exec (.configWrite (.fits (.zone i r))) s = .next (repliedOnly s 0x11 .badIndex [])) ∧
    (∀ i r, s.cfg.state = .editing → 1 ≤ i → i < 16 → r.bayBase < 512 → r.bayCount ≤ 512 →
      let x := { r with fallbackDemand := min r.fallbackDemand 1000, darkLimit := min r.darkLimit 48 }
      exec (.configWrite (.fits (.zone i r))) s = .next { repliedOnly s 0x11 .ok (zoneBytes x) with
        cfg := { s.cfg with working := { s.cfg.working with zones := s.cfg.working.zones.put i x } } }) ∧
    (∀ block given, FillLaw s →
      let refused := fun r => exec (.curveWrite (.fits (block, given))) s = .next (repliedOnly s 0x15 r [])
      (storing s = true → refused .busy) ∧
      (storing s = false → running s = false → refused .badState) ∧
      (storing s = false → running s = true → 15 < block → refused .badIndex) ∧
      (storing s = false → running s = true → block < 16 → (∀ outputs, given = some outputs → outputs.length ≠ 16) →
        refused .badLength)) ∧
    (∀ block outputs, running s = true → storing s = false → block < 16 → outputs.length = 16 →
      ∃ t, exec (.curveWrite (.fits (block, some outputs))) s = .next t ∧
        changesOnly [.cfg, .light, .guide, .slots, .link] s t ∧ answers s t 0x15 .ok [] ∧
        t.cfg = { s.cfg with dimming := t.cfg.dimming, imageCurrent := false } ∧
        (∀ n, n < 256 → t.cfg.dimming.nth n =
          if n / 16 = block then min (outputs.getD (n % 16) 0) 1023 else s.cfg.dimming.nth n) ∧
        (∀ g, (t.light.groups.nth g).level = (s.light.groups.nth g).level) ∧
        ∀ g ∈ presentGroups s, (s.light.groups.nth g).level / 16 = block →
          (t.light.groups.nth g).wanted = ⟨t.cfg.dimming.nth (s.light.groups.nth g).level, (s.light.groups.nth g).fade⟩)

/-- R22 to R24, R162, R163: MAP_WRITE makes its checks in the order of R22, the first that fails deciding the reply, or
else binds the address to the bay in the lowest free way of its set and asks the detector to report; MAP_REMOVE takes the
binding away, and CLEAR_UNKNOWN empties the unknown-device list. The refusals are stated where no destination waits
beside a free slot, so that they fill none (R165). The layout of the replies, with what a CONFLICT names, is the model's
choice (assumptions 8 and 9). -/
def Obligations.BindingsAreMadeAndRemoved : Prop :=
  ∀ (s : State), takesRequests s →
    (FillLaw s → ∀ a b,
      let refused := fun r fields => exec (.mapWrite (.fits (a, b))) s = .next (repliedOnly s 0x20 r fields)
      let free := storing s = false ∧ s.cfg.state ≠ .fallback
      let fits := free ∧ isDevice a = true ∧ b < 512
      (storing s = true → refused .busy []) ∧
      (storing s = false → s.cfg.state = .fallback → refused .badState []) ∧
      (free → isDevice a = false ∨ 511 < b → refused .badIndex []) ∧
      (fits → ∀ way bound, mapWay s.cfg.map a = some way → mapBay s.cfg.map a = some bound →
        (bound = b → refused .ok (u8 (a % 128) ++ u8 way)) ∧
        (bound ≠ b → refused .conflict (u8 1 ++ u16 bound ++ u8 0))) ∧
      (fits → mapWay s.cfg.map a = none →
        (∀ other, (bayOf s b).detector = some other → refused .conflict (u8 0 ++ u8 1 ++ u24 other)) ∧
        ((bayOf s b).detector = none → addressUsed s.cfg.working a = true → refused .conflict (u8 0 ++ u8 0)) ∧
        ((bayOf s b).detector = none → addressUsed s.cfg.working a = false → freeWay s.cfg.map (a % 128) = none →
          refused .full (u8 (a % 128))))) ∧
    (∀ a b way, storing s = false → s.cfg.state ≠ .fallback → isDevice a = true → b < 512 → mapWay s.cfg.map a = none →
      (bayOf s b).detector = none → addressUsed s.cfg.working a = false → freeWay s.cfg.map (a % 128) = some way →
      ∃ t, exec (.mapWrite (.fits (a, b))) s = .next t ∧
        changesOnly [.cfg, .occ, .light, .guide, .slots, .bus, .notices, .link] s t ∧
        answers s t 0x20 .ok (u8 (a % 128) ++ u8 way) ∧
        t.cfg = { s.cfg with
          map := s.cfg.map.modify (a % 128) (fun ways => ways.put way (some ⟨a / 128, b⟩)), imageCurrent := false } ∧
        (bayOf t b).detector = some a ∧ (∀ c, c ≠ b → bayOf t c = bayOf s c) ∧
        t.bus.unknown = s.bus.unknown.filter (fun e => e.addr ≠ a) ∧
        (running s = true → (bayOf t b).sensed = .nothing ∧ (bayOf t b).pending = none ∧ (bayOf t b).lastHeard = 0 ∧
          (bayOf t b).health = .ok ∧ (bayOf t b).lampFault = false ∧
          (onItsWay t (.call a) ∨ onItsWay t (.call allDevices)) ∧ onItsWay t (.lamp b))) ∧
    (∀ a b way, storing s = false → s.cfg.state ≠ .fallback → isDevice a = true → mapWay s.cfg.map a = some way →
      mapBay s.cfg.map a = some b → b < 512 →
      ∃ t, exec (.mapRemove (.fits a)) s = .next t ∧
        changesOnly [.cfg, .occ, .light, .guide, .slots, .notices, .link] s t ∧ answers s t 0x21 .ok (u16 b) ∧
        t.cfg = { s.cfg with
          map := s.cfg.map.modify (a % 128) (fun ways => ways.put way none), imageCurrent := false } ∧
        (bayOf t b).detector = none ∧ (∀ c, c ≠ b → bayOf t c = bayOf s c) ∧
        (running s = true → (bayOf t b).sensed = .nothing ∧ (bayOf t b).pending = none)) ∧
    (∀ a, FillLaw s →
      let refused := fun r => exec (.mapRemove (.fits a)) s = .next (repliedOnly s 0x21 r [])
      (storing s = true → refused .busy) ∧ (storing s = false → s.cfg.state = .fallback → refused .badState) ∧
      (storing s = false → s.cfg.state ≠ .fallback → isDevice a = false ∨ mapWay s.cfg.map a = none →
        refused .notFound)) ∧
    exec (.clearUnknown (.fits ())) s
      = .next { repliedOnly s 0x25 .ok [] with bus := { s.bus with unknown := [], overflow := false } }

/-- R16, R18 to R20: reserving, releasing, closing and opening a bay in RUNNING, and the requests that are refused or find
the bay CLOSED already. These last are stated where no destination waits beside a free slot, so that they fill none
(R165). The layout of the reply, and BUSY before BAD_INDEX while a store runs, are the model's choices (assumptions 8 and
38). -/
def Obligations.BaysAreReservedClosedAndOpened : Prop :=
  ∀ (b : Nat) (s : State), takesRequests s →
    let x := bayOf s b
    let becomes := fun (t : State) (y : Bay) => bayOf t b = y ∧ ∀ c, c ≠ b → bayOf t c = bayOf s c
    (FillLaw s → ∀ time,
      let reserve := fun r => exec (.bayReserve (.fits (b, time))) s = .next (repliedOnly s 0x40 r [])
      let release := fun r => exec (.bayRelease (.fits b)) s = .next (repliedOnly s 0x41 r [])
      let close := fun r => exec (.bayClose (.fits b)) s = .next (repliedOnly s 0x42 r [])
      let opens := fun r => exec (.bayOpen (.fits b)) s = .next (repliedOnly s 0x43 r [])
      (running s = false → reserve .badState ∧ release .badState) ∧
      (storing s = true → close .busy ∧ opens .busy) ∧
      (storing s = false → running s = false → close .badState ∧ opens .badState) ∧
      (running s = true → 511 < b →
        reserve .badIndex ∧ release .badIndex ∧ (storing s = false → close .badIndex ∧ opens .badIndex)) ∧
      (running s = true → b < 512 →
        (x.state = .occupied ∨ x.state = .closed ∨ x.state = .unknown → reserve .badState) ∧
        (isReserved x.admin = false → release .badState) ∧
        (storing s = false → x.admin ≠ .closed → opens .badState) ∧
        (storing s = false → x.admin = .closed → close .ok))) ∧
    (running s = true → b < 512 →
      (∀ time, x.state = .free ∨ x.state = .reserved →
        let n := max 1 (min 65535 time)
        ∃ t, exec (.bayReserve (.fits (b, time))) s = .next t ∧
          changesOnly [.occ, .light, .guide, .slots, .notices, .link] s t ∧ answers s t 0x40 .ok (u16 n) ∧
          becomes t { x with admin := .reserved n, state := deriveBay (.reserved n) x.sensed }) ∧
      (isReserved x.admin = true →
        ∃ t, exec (.bayRelease (.fits b)) s = .next t ∧
          changesOnly [.occ, .light, .guide, .slots, .notices, .link] s t ∧ answers s t 0x41 .ok [] ∧
          becomes t { x with admin := .inService, state := deriveBay .inService x.sensed } ∧
          announced s t (.reservationEnd b .cancelled)) ∧
      (storing s = false → x.admin ≠ .closed →
        ∃ t, exec (.bayClose (.fits b)) s = .next t ∧
          changesOnly [.cfg, .occ, .light, .guide, .slots, .notices, .link] s t ∧ answers s t 0x42 .ok [] ∧
          becomes t { x with admin := .closed, state := .closed } ∧
          t.cfg = { s.cfg with closed := s.cfg.closed.put b true, imageCurrent := false } ∧
          (isReserved x.admin = true → announced s t (.reservationEnd b .cancelled))) ∧
      (storing s = false → x.admin = .closed →
        ∃ t, exec (.bayOpen (.fits b)) s = .next t ∧
          changesOnly [.cfg, .occ, .light, .guide, .slots, .notices, .link] s t ∧ answers s t 0x43 .ok [] ∧
          becomes t { x with admin := .inService, state := deriveBay .inService x.sensed } ∧
          t.cfg = { s.cfg with closed := s.cfg.closed.put b false, imageCurrent := false }))

/-- R76, R141 to R144: FAN_CLEAR returns a faulted fan to STOPPED; OVERRIDE_PUSH places an entry on top with the lowest
free id, OVERRIDE_POP takes the topmost LINK entry and OVERRIDE_REMOVE the LINK entry it names; each refuses what its rule
refuses. The removals are stated for a part whose inputs are not PENDING, so that none pushes into the room (R151), and
the refusals where no destination waits beside a free slot, so that they fill none (R165). The layout of the entry given
back is the model's (assumption 8). -/
def Obligations.FansAreClearedAndOverridesMoved : Prop :=
  ∀ (s : State), takesRequests s →
    let blocks : List Block := [.ovr, .air, .fan, .light, .guide, .slots, .notices, .link]
    let calm := ∀ k, k < 2 → (s.ovr.keys.nth k).state ≠ .pending
    (FillLaw s →
      (∀ n, 11 < n → exec (.fanClear (.fits n)) s = .next (repliedOnly s 0x44 .badIndex [])) ∧
      (∀ n, n < 12 → (s.fan.channels.nth n).state ≠ .fault →
        exec (.fanClear (.fits n)) s = .next (repliedOnly s 0x44 .badState [])) ∧
      (∀ q, (∀ k, overrideKindOf q.kind = some k → emptyScope k q.scope = true) →
        exec (.overridePush (.fits q)) s = .next (repliedOnly s 0x50 .badIndex [])) ∧
      (∀ q k, overrideKindOf q.kind = some k → emptyScope k q.scope = false → 8 ≤ s.ovr.stack.length →
        exec (.overridePush (.fits q)) s = .next (repliedOnly s 0x50 .full [])) ∧
      ((∀ e ∈ s.ovr.stack, e.source ≠ .link) →
        exec (.overridePop (.fits ())) s = .next (repliedOnly s 0x51 .notFound [])) ∧
      (∀ id, (∀ e ∈ s.ovr.stack, e.id ≠ id) →
        exec (.overrideRemove (.fits id)) s = .next (repliedOnly s 0x52 .notFound [])) ∧
      (∀ e ∈ s.ovr.stack, StackLaw s.ovr.stack → e.source ≠ .link →
        exec (.overrideRemove (.fits e.id)) s = .next (repliedOnly s 0x52 .badState []))) ∧
    (∀ n, n < 12 → (s.fan.channels.nth n).state = .fault →
      ∃ t, exec (.fanClear (.fits n)) s = .next t ∧
        changesOnly [.fan, .light, .guide, .slots, .notices, .link] s t ∧ answers s t 0x44 .ok [] ∧
        t.fan.channels.nth n = { s.fan.channels.nth n with state := .stopped, reason := none, reference := 0 } ∧
        (∀ m, m ≠ n → t.fan.channels.nth m = s.fan.channels.nth m) ∧ announced s t (.fanState n .stopped none)) ∧
    (∀ q k, overrideKindOf q.kind = some k → emptyScope k q.scope = false → s.ovr.stack.length < 8 →
      ∃ t id, exec (.overridePush (.fits q)) s = .next t ∧ changesOnly blocks s t ∧
        1 ≤ id ∧ id ≤ 255 ∧ (∀ e ∈ s.ovr.stack, e.id ≠ id) ∧
        (∀ i, 1 ≤ i → i < id → ∃ e ∈ s.ovr.stack, e.id = i) ∧
        (let e : Entry := ⟨id, k, takeScope k q.scope, takeValue k q.value,
            q.remaining.map (fun r => max 1 (min 65535 r)), .link⟩
         answers s t 0x50 .ok (entryBytes e) ∧ t.ovr.stack = s.ovr.stack ++ [e] ∧ t.ovr.keys = s.ovr.keys)) ∧
    (∀ below e above, calm → StackLaw s.ovr.stack → s.ovr.stack = below ++ e :: above → e.source = .link →
      (∀ x ∈ above, x.source ≠ .link) →
      ∃ t, exec (.overridePop (.fits ())) s = .next t ∧ changesOnly blocks s t ∧ answers s t 0x51 .ok (entryBytes e) ∧
        t.ovr.stack = below ++ above) ∧
    (∀ below e above, calm → StackLaw s.ovr.stack → s.ovr.stack = below ++ e :: above → e.source = .link →
      ∃ t, exec (.overrideRemove (.fits e.id)) s = .next t ∧ changesOnly blocks s t ∧
        answers s t 0x52 .ok (entryBytes e) ∧ t.ovr.stack = below ++ above)

/-- R196, R198, R199: RESET is answered and its reset is due; FETCH_NOTICES gives the first twelve notices and clears
LOST; NOTICE_CLASSES sets the enables and drops the notices of the classes it disables. ATTN follows the queue. The mark
that RESET leaves and the strap pins that it carries are the model's choices (assumptions 19 and 14); so are the layout of
the replies and the LOST mark as 1 or 0 (assumptions 8 and 9). -/
def Obligations.NoticesAreFetchedAndFiltered : Prop :=
  ∀ (s : State), takesRequests s →
    (∀ pins, exec (.reset (.fits pins)) s = .next { s with link := { s.link with
      reply := some ⟨0x83, [0]⟩, receiver := .hunting, pins := pins, resetDue := true } }) ∧
    (let left := s.link.notices.drop 12
     let taken := s.link.notices.take 12
     exec (.fetchNotices (.fits ())) s = .next { s with link := { s.link with
       reply := some ⟨0xE0, [0] ++ flag s.link.lost ++ u8 left.length ++ u8 taken.length ++ taken.flatMap noticeBytes⟩
       receiver := .hunting, notices := left, lost := false, attn := !left.isEmpty } }) ∧
    ∀ new : BitVec 6,
      let kept := s.link.notices.filter (fun q =>
        !(s.link.classes.getLsbD (noticeClass q.notice) && !new.getLsbD (noticeClass q.notice)))
      exec (.noticeClasses (.fits new)) s = .next { s with link := { s.link with
        reply := some ⟨0xE1, [0] ++ u8 new.toNat ++ u8 kept.length⟩
        receiver := .hunting, classes := new, notices := kept, attn := !kept.isEmpty || s.link.lost } }

/-! ## Laws that every step keeps -/

/-- R110, R115, R174, R176, R177, R197, R199: the timebase, the level vehicle count and the tallies stay within their
ranges; the notice queue stays bounded and coalesced, and ATTN follows it. -/
def Obligations.CountersAndNoticesKeepTheirLaws : Prop :=
  ∀ s t : State, step s = .next t →
    (TimeLaw s.time → TimeLaw t.time) ∧ (CountLaw s.loops → CountLaw t.loops) ∧ (QueueLaw s.link → QueueLaw t.link)

/-- R140, R141, R152: the override stack stays bounded, with distinct ids and values within their ranges, and the
sounder sounds exactly while a zone is in ALARM and no mute stands. -/
def Obligations.StackAndSounderKeepTheirLaws : Prop :=
  ∀ s t : State, step s = .next t →
    (StackLaw s.ovr.stack → StackLaw t.ovr.stack) ∧ (SounderLaw s → SounderLaw t)

/-- R183, R185: the tuning values that bound demands and references stay within their ranges, through records written
and images loaded. -/
def Obligations.TuningValuesStayInRange : Prop :=
  ∀ s t : State, CfgLaw s → step s = .next t → CfgLaw t

/-- R44: Z is formed from S, TWA and E after the decay, and Z, E, TWA and every demand stay within their ranges. The
bounds on the tuning values and on the override entries are invariants of their own. -/
def Obligations.AirValuesStayInRange : Prop :=
  (∀ (p : Params) (fallback : Nat) (fs : List Filtered) (x : ZoneAir), fs ≠ [] →
    let y := zoneStage p fallback fs x
    y.z = min 2000 (max y.s y.twa + y.e)) ∧
  (∀ s t : State, CfgLaw s → StackLaw s.ovr.stack → AirLaw s → step s = .next t → AirLaw t)

/-- R62, R67, R78: a channel's reference is 0 at rest and within the minimum run and 1000 while it turns, and its two
outputs are never both driven. -/
def Obligations.FanReferencesKeepTheirLaw : Prop :=
  ∀ s t : State, CfgLaw s → StackLaw s.ovr.stack → AirLaw s → FanLaw s → step s = .next t → FanLaw t

/-- R4, R14, R15, R21: the state of every bay is the one derived from its admin and sensed values, the free counts are
the numbers of FREE bays, and the detector map holds one entry per address and per bay, whose address the bay holds. -/
def Obligations.BaysCountsAndMapKeepTheirLaws : Prop :=
  ∀ s t : State, step s = .next t → (BayLaw s → BayLaw t) ∧ (FreeLaw s → FreeLaw t) ∧ (MapLaw s → MapLaw t)

/-- R161, R163, R164, R167, R169, R170, R171: the transmit slots hold distinct keys with one attempt at most, the bus
state follows the error count, and the lists stay within their lengths. -/
def Obligations.FieldBusKeepsItsLaw : Prop :=
  ∀ s t : State, step s = .next t → (SlotLaw s.bus → SlotLaw t.bus) ∧ (BusLaw s.bus → BusLaw t.bus)

/-- R165: outside LOADING no destination waits while a slot is free, unless its key stands in a slot. -/
def Obligations.NoDestinationWaitsBesideAFreeSlot : Prop :=
  ∀ s t : State, FillLaw s → step s = .next t → FillLaw t

/-- R47, R48, R79, R102, R119, R120: the floor and the demand of every present zone, its guidance status, VENT_LOST and
DARK are those its inputs give. -/
def Obligations.ZoneConditionsFollowTheirInputs : Prop :=
  ∀ s t : State, step s = .next t →
    (DemandLaw s → DemandLaw t) ∧ (StatusLaw s → StatusLaw t) ∧ (VentLaw s → VentLaw t) ∧ (DarkLaw s → DarkLaw t)

/-- R122: every bay lamp wants the colour its bay and zone give. -/
def Obligations.LampsFollowTheirBays : Prop :=
  ∀ s t : State, LampLaw s → step s = .next t → LampLaw t

/-- R126 to R132: every COUNT, LEVEL and BLANK face wants the value its inputs give, and the choice of every DECISION face
is NONE or a candidate of its eligible set, with the value that it shows. -/
def Obligations.FacesFollowTheirInputs : Prop :=
  ∀ s t : State, FaceLaw s → step s = .next t → FaceLaw t

/-- R89, R93, R94, R95: every present group holds the level, the fade and the wanted value its inputs give. -/
def Obligations.GroupsFollowTheirInputs : Prop :=
  ∀ s t : State, GroupLaw s → step s = .next t → GroupLaw t

/-- The part after reset has every law. -/
def Obligations.EveryLawHoldsAfterReset : Prop :=
  let s := State.reset
  TimeLaw s.time ∧ CountLaw s.loops ∧ QueueLaw s.link ∧ StackLaw s.ovr.stack ∧ SounderLaw s ∧ CfgLaw s ∧ AirLaw s ∧
    FanLaw s ∧ BayLaw s ∧ FreeLaw s ∧ MapLaw s ∧ SlotLaw s.bus ∧ BusLaw s.bus ∧ FillLaw s ∧ DemandLaw s ∧
    StatusLaw s ∧ VentLaw s ∧ DarkLaw s ∧ LampLaw s ∧ FaceLaw s ∧ GroupLaw s

/-- Section 4.4 of the scope file gives the ranges of the indices of bays, gas sensor slots, zones, groups, paths, fans,
loops, pairs and levels, and R148 those of the two key inputs. That an event whose index lies beyond its range stops with
a fault is the model's choice (assumption 25). -/
def Obligations.EventsOfAbsentThingsFault : Prop :=
  ∀ (n : Nat) (raw : BitVec 10) (s : State),
    (512 ≤ n → exec (.settleExpiry n) s = .fault .noSuchIndex ∧ exec (.reservationExpiry n) s = .fault .noSuchIndex) ∧
    (48 ≤ n → exec (.stayLitEnd n) s = .fault .noSuchIndex) ∧
    (32 ≤ n → exec (.warmupEnd n raw) s = .fault .noSuchIndex ∧ exec (.sensorSilent n) s = .fault .noSuchIndex) ∧
    (16 ≤ n → exec (.doseRingAdvance n) s = .fault .noSuchIndex ∧ exec (.creditDecay n) s = .fault .noSuchIndex ∧
      exec (.alarmHoldEnd n) s = .fault .noSuchIndex) ∧
    (12 ≤ n → exec (.readyTimeout n) s = .fault .noSuchIndex ∧ exec (.readyLoss n) s = .fault .noSuchIndex ∧
      exec (.coastEnd n) s = .fault .noSuchIndex) ∧
    (8 ≤ n → exec (.loopOccupied n) s = .fault .noSuchIndex ∧ exec (.loopRelease n) s = .fault .noSuchIndex ∧
      exec (.loopStuck n) s = .fault .noSuchIndex ∧ exec (.levelStale n) s = .fault .noSuchIndex) ∧
    (4 ≤ n → exec (.pathStep n) s = .fault .noSuchIndex ∧ exec (.sequenceTimeout n) s = .fault .noSuchIndex) ∧
    (2 ≤ n → exec (.inputActive n) s = .fault .noSuchIndex ∧ exec (.inputRelease n) s = .fault .noSuchIndex)
end

