-- ==== Sys2Proof/Laws/State.lean ====
section
/-! SUPPORT. What each update of the state leaves in each of its fields: one lemma per field per update. -/

namespace Sys2Proof.Machine

variable (s : State)

@[simp] theorem post_cfg (n : Notice) : (post n s).cfg = s.cfg := rfl
@[simp] theorem post_time (n : Notice) : (post n s).time = s.time := rfl
@[simp] theorem post_occ (n : Notice) : (post n s).occ = s.occ := rfl
@[simp] theorem post_air (n : Notice) : (post n s).air = s.air := rfl
@[simp] theorem post_fan (n : Notice) : (post n s).fan = s.fan := rfl
@[simp] theorem post_light (n : Notice) : (post n s).light = s.light := rfl
@[simp] theorem post_loops (n : Notice) : (post n s).loops = s.loops := rfl
@[simp] theorem post_guide (n : Notice) : (post n s).guide = s.guide := rfl
@[simp] theorem post_ovr (n : Notice) : (post n s).ovr = s.ovr := rfl
@[simp] theorem post_bus (n : Notice) : (post n s).bus = s.bus := rfl
@[simp] theorem post_link (n : Notice) : (post n s).link = s.link.enqueue n s.time.clock := rfl
@[simp] theorem post_free (n : Notice) : (post n s).free = s.free := rfl
@[simp] theorem post_pending (n : Notice) : (post n s).pending = s.pending := rfl

@[simp] theorem answer_cfg (k : Nat) (r : Result) (b : List Byte) : (answer k r b s).cfg = s.cfg := rfl
@[simp] theorem answer_time (k : Nat) (r : Result) (b : List Byte) : (answer k r b s).time = s.time := rfl
@[simp] theorem answer_occ (k : Nat) (r : Result) (b : List Byte) : (answer k r b s).occ = s.occ := rfl
@[simp] theorem answer_air (k : Nat) (r : Result) (b : List Byte) : (answer k r b s).air = s.air := rfl
@[simp] theorem answer_fan (k : Nat) (r : Result) (b : List Byte) : (answer k r b s).fan = s.fan := rfl
@[simp] theorem answer_light (k : Nat) (r : Result) (b : List Byte) : (answer k r b s).light = s.light := rfl
@[simp] theorem answer_loops (k : Nat) (r : Result) (b : List Byte) : (answer k r b s).loops = s.loops := rfl
@[simp] theorem answer_guide (k : Nat) (r : Result) (b : List Byte) : (answer k r b s).guide = s.guide := rfl
@[simp] theorem answer_ovr (k : Nat) (r : Result) (b : List Byte) : (answer k r b s).ovr = s.ovr := rfl
@[simp] theorem answer_bus (k : Nat) (r : Result) (b : List Byte) : (answer k r b s).bus = s.bus := rfl
@[simp] theorem answer_link (k : Nat) (r : Result) (b : List Byte) :
    (answer k r b s).link = { s.link with reply := some ⟨k + 0x80, u8 (resultCode r) ++ b⟩ } := rfl
@[simp] theorem answer_free (k : Nat) (r : Result) (b : List Byte) : (answer k r b s).free = s.free := rfl
@[simp] theorem answer_pending (k : Nat) (r : Result) (b : List Byte) : (answer k r b s).pending = s.pending := rfl

@[simp] theorem setLamp_cfg (b : Nat) (x : Lamp) : (setLamp b x s).cfg = s.cfg := rfl
@[simp] theorem setLamp_time (b : Nat) (x : Lamp) : (setLamp b x s).time = s.time := rfl
@[simp] theorem setLamp_occ (b : Nat) (x : Lamp) : (setLamp b x s).occ = s.occ := rfl
@[simp] theorem setLamp_air (b : Nat) (x : Lamp) : (setLamp b x s).air = s.air := rfl
@[simp] theorem setLamp_fan (b : Nat) (x : Lamp) : (setLamp b x s).fan = s.fan := rfl
@[simp] theorem setLamp_light (b : Nat) (x : Lamp) : (setLamp b x s).light = s.light := rfl
@[simp] theorem setLamp_loops (b : Nat) (x : Lamp) : (setLamp b x s).loops = s.loops := rfl
@[simp] theorem setLamp_guide (b : Nat) (x : Lamp) :
    (setLamp b x s).guide = { s.guide with lamps := s.guide.lamps.put b x } := rfl
@[simp] theorem setLamp_ovr (b : Nat) (x : Lamp) : (setLamp b x s).ovr = s.ovr := rfl
@[simp] theorem setLamp_bus (b : Nat) (x : Lamp) : (setLamp b x s).bus = s.bus := rfl
@[simp] theorem setLamp_link (b : Nat) (x : Lamp) : (setLamp b x s).link = s.link := rfl
@[simp] theorem setLamp_free (b : Nat) (x : Lamp) : (setLamp b x s).free = s.free := rfl
@[simp] theorem setLamp_pending (b : Nat) (x : Lamp) : (setLamp b x s).pending = s.pending := rfl

@[simp] theorem setFace_cfg (i f : Nat) (x : Face) : (setFace i f x s).cfg = s.cfg := rfl
@[simp] theorem setFace_time (i f : Nat) (x : Face) : (setFace i f x s).time = s.time := rfl
@[simp] theorem setFace_occ (i f : Nat) (x : Face) : (setFace i f x s).occ = s.occ := rfl
@[simp] theorem setFace_air (i f : Nat) (x : Face) : (setFace i f x s).air = s.air := rfl
@[simp] theorem setFace_fan (i f : Nat) (x : Face) : (setFace i f x s).fan = s.fan := rfl
@[simp] theorem setFace_light (i f : Nat) (x : Face) : (setFace i f x s).light = s.light := rfl
@[simp] theorem setFace_loops (i f : Nat) (x : Face) : (setFace i f x s).loops = s.loops := rfl
@[simp] theorem setFace_guide (i f : Nat) (x : Face) : (setFace i f x s).guide = s.guide.setFace i f x := rfl
@[simp] theorem setFace_ovr (i f : Nat) (x : Face) : (setFace i f x s).ovr = s.ovr := rfl
@[simp] theorem setFace_bus (i f : Nat) (x : Face) : (setFace i f x s).bus = s.bus := rfl
@[simp] theorem setFace_link (i f : Nat) (x : Face) : (setFace i f x s).link = s.link := rfl
@[simp] theorem setFace_free (i f : Nat) (x : Face) : (setFace i f x s).free = s.free := rfl
@[simp] theorem setFace_pending (i f : Nat) (x : Face) : (setFace i f x s).pending = s.pending := rfl

@[simp] theorem takeStatuses_cfg (zs : List Nat) : (takeStatuses zs s).cfg = s.cfg := rfl
@[simp] theorem takeStatuses_time (zs : List Nat) : (takeStatuses zs s).time = s.time := rfl
@[simp] theorem takeStatuses_occ (zs : List Nat) : (takeStatuses zs s).occ = s.occ := rfl
@[simp] theorem takeStatuses_air (zs : List Nat) : (takeStatuses zs s).air = s.air := rfl
@[simp] theorem takeStatuses_fan (zs : List Nat) : (takeStatuses zs s).fan = s.fan := rfl
@[simp] theorem takeStatuses_light (zs : List Nat) : (takeStatuses zs s).light = s.light := rfl
@[simp] theorem takeStatuses_loops (zs : List Nat) : (takeStatuses zs s).loops = s.loops := rfl
@[simp] theorem takeStatuses_guide (zs : List Nat) :
    (takeStatuses zs s).guide = { s.guide with status := zs.foldl (fun t z => t.put z (deriveStatus s z)) s.guide.status } := rfl
@[simp] theorem takeStatuses_ovr (zs : List Nat) : (takeStatuses zs s).ovr = s.ovr := rfl
@[simp] theorem takeStatuses_bus (zs : List Nat) : (takeStatuses zs s).bus = s.bus := rfl
@[simp] theorem takeStatuses_link (zs : List Nat) : (takeStatuses zs s).link = s.link := rfl
@[simp] theorem takeStatuses_free (zs : List Nat) : (takeStatuses zs s).free = s.free := rfl
@[simp] theorem takeStatuses_pending (zs : List Nat) : (takeStatuses zs s).pending = s.pending := rfl

@[simp] theorem setLevel_cfg (v : Nat) (x : Option OtherLevel) : (setLevel v x s).cfg = s.cfg := rfl
@[simp] theorem setLevel_time (v : Nat) (x : Option OtherLevel) : (setLevel v x s).time = s.time := rfl
@[simp] theorem setLevel_occ (v : Nat) (x : Option OtherLevel) : (setLevel v x s).occ = s.occ := rfl
@[simp] theorem setLevel_air (v : Nat) (x : Option OtherLevel) : (setLevel v x s).air = s.air := rfl
@[simp] theorem setLevel_fan (v : Nat) (x : Option OtherLevel) : (setLevel v x s).fan = s.fan := rfl
@[simp] theorem setLevel_light (v : Nat) (x : Option OtherLevel) : (setLevel v x s).light = s.light := rfl
@[simp] theorem setLevel_loops (v : Nat) (x : Option OtherLevel) : (setLevel v x s).loops = s.loops := rfl
@[simp] theorem setLevel_guide (v : Nat) (x : Option OtherLevel) :
    (setLevel v x s).guide = { s.guide with levels := s.guide.levels.put v x } := rfl
@[simp] theorem setLevel_ovr (v : Nat) (x : Option OtherLevel) : (setLevel v x s).ovr = s.ovr := rfl
@[simp] theorem setLevel_bus (v : Nat) (x : Option OtherLevel) : (setLevel v x s).bus = s.bus := rfl
@[simp] theorem setLevel_link (v : Nat) (x : Option OtherLevel) : (setLevel v x s).link = s.link := rfl
@[simp] theorem setLevel_free (v : Nat) (x : Option OtherLevel) : (setLevel v x s).free = s.free := rfl
@[simp] theorem setLevel_pending (v : Nat) (x : Option OtherLevel) : (setLevel v x s).pending = s.pending := rfl

@[simp] theorem setGroup_cfg (g : Nat) (x : Group) : (setGroup g x s).cfg = s.cfg := rfl
@[simp] theorem setGroup_time (g : Nat) (x : Group) : (setGroup g x s).time = s.time := rfl
@[simp] theorem setGroup_occ (g : Nat) (x : Group) : (setGroup g x s).occ = s.occ := rfl
@[simp] theorem setGroup_air (g : Nat) (x : Group) : (setGroup g x s).air = s.air := rfl
@[simp] theorem setGroup_fan (g : Nat) (x : Group) : (setGroup g x s).fan = s.fan := rfl
@[simp] theorem setGroup_light (g : Nat) (x : Group) :
    (setGroup g x s).light = { s.light with groups := s.light.groups.put g x } := rfl
@[simp] theorem setGroup_loops (g : Nat) (x : Group) : (setGroup g x s).loops = s.loops := rfl
@[simp] theorem setGroup_guide (g : Nat) (x : Group) : (setGroup g x s).guide = s.guide := rfl
@[simp] theorem setGroup_ovr (g : Nat) (x : Group) : (setGroup g x s).ovr = s.ovr := rfl
@[simp] theorem setGroup_bus (g : Nat) (x : Group) : (setGroup g x s).bus = s.bus := rfl
@[simp] theorem setGroup_link (g : Nat) (x : Group) : (setGroup g x s).link = s.link := rfl
@[simp] theorem setGroup_free (g : Nat) (x : Group) : (setGroup g x s).free = s.free := rfl
@[simp] theorem setGroup_pending (g : Nat) (x : Group) : (setGroup g x s).pending = s.pending := rfl

@[simp] theorem setPath_cfg (p : Nat) (x : PathRun) : (setPath p x s).cfg = s.cfg := rfl
@[simp] theorem setPath_time (p : Nat) (x : PathRun) : (setPath p x s).time = s.time := rfl
@[simp] theorem setPath_occ (p : Nat) (x : PathRun) : (setPath p x s).occ = s.occ := rfl
@[simp] theorem setPath_air (p : Nat) (x : PathRun) : (setPath p x s).air = s.air := rfl
@[simp] theorem setPath_fan (p : Nat) (x : PathRun) : (setPath p x s).fan = s.fan := rfl
@[simp] theorem setPath_light (p : Nat) (x : PathRun) :
    (setPath p x s).light = { s.light with paths := s.light.paths.put p x } := rfl
@[simp] theorem setPath_loops (p : Nat) (x : PathRun) : (setPath p x s).loops = s.loops := rfl
@[simp] theorem setPath_guide (p : Nat) (x : PathRun) : (setPath p x s).guide = s.guide := rfl
@[simp] theorem setPath_ovr (p : Nat) (x : PathRun) : (setPath p x s).ovr = s.ovr := rfl
@[simp] theorem setPath_bus (p : Nat) (x : PathRun) : (setPath p x s).bus = s.bus := rfl
@[simp] theorem setPath_link (p : Nat) (x : PathRun) : (setPath p x s).link = s.link := rfl
@[simp] theorem setPath_free (p : Nat) (x : PathRun) : (setPath p x s).free = s.free := rfl
@[simp] theorem setPath_pending (p : Nat) (x : PathRun) : (setPath p x s).pending = s.pending := rfl

@[simp] theorem setChannel_cfg (n : Nat) (x : Channel) : (setChannel n x s).cfg = s.cfg := rfl
@[simp] theorem setChannel_time (n : Nat) (x : Channel) : (setChannel n x s).time = s.time := rfl
@[simp] theorem setChannel_occ (n : Nat) (x : Channel) : (setChannel n x s).occ = s.occ := rfl
@[simp] theorem setChannel_air (n : Nat) (x : Channel) : (setChannel n x s).air = s.air := rfl
@[simp] theorem setChannel_fan (n : Nat) (x : Channel) :
    (setChannel n x s).fan = { s.fan with channels := s.fan.channels.put n x } := rfl
@[simp] theorem setChannel_light (n : Nat) (x : Channel) : (setChannel n x s).light = s.light := rfl
@[simp] theorem setChannel_loops (n : Nat) (x : Channel) : (setChannel n x s).loops = s.loops := rfl
@[simp] theorem setChannel_guide (n : Nat) (x : Channel) : (setChannel n x s).guide = s.guide := rfl
@[simp] theorem setChannel_ovr (n : Nat) (x : Channel) : (setChannel n x s).ovr = s.ovr := rfl
@[simp] theorem setChannel_bus (n : Nat) (x : Channel) : (setChannel n x s).bus = s.bus := rfl
@[simp] theorem setChannel_link (n : Nat) (x : Channel) : (setChannel n x s).link = s.link := rfl
@[simp] theorem setChannel_free (n : Nat) (x : Channel) : (setChannel n x s).free = s.free := rfl
@[simp] theorem setChannel_pending (n : Nat) (x : Channel) : (setChannel n x s).pending = s.pending := rfl

@[simp] theorem setStack_cfg (l : List Entry) : (setStack l s).cfg = s.cfg := rfl
@[simp] theorem setStack_time (l : List Entry) : (setStack l s).time = s.time := rfl
@[simp] theorem setStack_occ (l : List Entry) : (setStack l s).occ = s.occ := rfl
@[simp] theorem setStack_air (l : List Entry) : (setStack l s).air = s.air := rfl
@[simp] theorem setStack_fan (l : List Entry) : (setStack l s).fan = s.fan := rfl
@[simp] theorem setStack_light (l : List Entry) : (setStack l s).light = s.light := rfl
@[simp] theorem setStack_loops (l : List Entry) : (setStack l s).loops = s.loops := rfl
@[simp] theorem setStack_guide (l : List Entry) : (setStack l s).guide = s.guide := rfl
@[simp] theorem setStack_ovr (l : List Entry) : (setStack l s).ovr = { s.ovr with stack := l } := rfl
@[simp] theorem setStack_bus (l : List Entry) : (setStack l s).bus = s.bus := rfl
@[simp] theorem setStack_link (l : List Entry) : (setStack l s).link = s.link := rfl
@[simp] theorem setStack_free (l : List Entry) : (setStack l s).free = s.free := rfl
@[simp] theorem setStack_pending (l : List Entry) : (setStack l s).pending = s.pending := rfl

@[simp] theorem setKey_cfg (k : Nat) (x : Key) : (setKey k x s).cfg = s.cfg := rfl
@[simp] theorem setKey_time (k : Nat) (x : Key) : (setKey k x s).time = s.time := rfl
@[simp] theorem setKey_occ (k : Nat) (x : Key) : (setKey k x s).occ = s.occ := rfl
@[simp] theorem setKey_air (k : Nat) (x : Key) : (setKey k x s).air = s.air := rfl
@[simp] theorem setKey_fan (k : Nat) (x : Key) : (setKey k x s).fan = s.fan := rfl
@[simp] theorem setKey_light (k : Nat) (x : Key) : (setKey k x s).light = s.light := rfl
@[simp] theorem setKey_loops (k : Nat) (x : Key) : (setKey k x s).loops = s.loops := rfl
@[simp] theorem setKey_guide (k : Nat) (x : Key) : (setKey k x s).guide = s.guide := rfl
@[simp] theorem setKey_ovr (k : Nat) (x : Key) : (setKey k x s).ovr = { s.ovr with keys := s.ovr.keys.put k x } := rfl
@[simp] theorem setKey_bus (k : Nat) (x : Key) : (setKey k x s).bus = s.bus := rfl
@[simp] theorem setKey_link (k : Nat) (x : Key) : (setKey k x s).link = s.link := rfl
@[simp] theorem setKey_free (k : Nat) (x : Key) : (setKey k x s).free = s.free := rfl
@[simp] theorem setKey_pending (k : Nat) (x : Key) : (setKey k x s).pending = s.pending := rfl

@[simp] theorem formSounder_cfg : (formSounder s).cfg = s.cfg := rfl
@[simp] theorem formSounder_time : (formSounder s).time = s.time := rfl
@[simp] theorem formSounder_occ : (formSounder s).occ = s.occ := rfl
@[simp] theorem formSounder_air : (formSounder s).air = s.air := rfl
@[simp] theorem formSounder_fan : (formSounder s).fan = s.fan := rfl
@[simp] theorem formSounder_light : (formSounder s).light = s.light := rfl
@[simp] theorem formSounder_loops : (formSounder s).loops = s.loops := rfl
@[simp] theorem formSounder_guide : (formSounder s).guide = s.guide := rfl
@[simp] theorem formSounder_ovr : (formSounder s).ovr = { s.ovr with sounder := deriveSounder s } := rfl
@[simp] theorem formSounder_bus : (formSounder s).bus = s.bus := rfl
@[simp] theorem formSounder_link : (formSounder s).link = s.link := rfl
@[simp] theorem formSounder_free : (formSounder s).free = s.free := rfl
@[simp] theorem formSounder_pending : (formSounder s).pending = s.pending := rfl

@[simp] theorem setSensor_cfg (n : Nat) (x : Sensor) : (setSensor n x s).cfg = s.cfg := rfl
@[simp] theorem setSensor_time (n : Nat) (x : Sensor) : (setSensor n x s).time = s.time := rfl
@[simp] theorem setSensor_occ (n : Nat) (x : Sensor) : (setSensor n x s).occ = s.occ := rfl
@[simp] theorem setSensor_air (n : Nat) (x : Sensor) :
    (setSensor n x s).air = { s.air with sensors := s.air.sensors.put n x } := rfl
@[simp] theorem setSensor_fan (n : Nat) (x : Sensor) : (setSensor n x s).fan = s.fan := rfl
@[simp] theorem setSensor_light (n : Nat) (x : Sensor) : (setSensor n x s).light = s.light := rfl
@[simp] theorem setSensor_loops (n : Nat) (x : Sensor) : (setSensor n x s).loops = s.loops := rfl
@[simp] theorem setSensor_guide (n : Nat) (x : Sensor) : (setSensor n x s).guide = s.guide := rfl
@[simp] theorem setSensor_ovr (n : Nat) (x : Sensor) : (setSensor n x s).ovr = s.ovr := rfl
@[simp] theorem setSensor_bus (n : Nat) (x : Sensor) : (setSensor n x s).bus = s.bus := rfl
@[simp] theorem setSensor_link (n : Nat) (x : Sensor) : (setSensor n x s).link = s.link := rfl
@[simp] theorem setSensor_free (n : Nat) (x : Sensor) : (setSensor n x s).free = s.free := rfl
@[simp] theorem setSensor_pending (n : Nat) (x : Sensor) : (setSensor n x s).pending = s.pending := rfl

@[simp] theorem setZoneAir_cfg (z : Nat) (x : ZoneAir) : (setZoneAir z x s).cfg = s.cfg := rfl
@[simp] theorem setZoneAir_time (z : Nat) (x : ZoneAir) : (setZoneAir z x s).time = s.time := rfl
@[simp] theorem setZoneAir_occ (z : Nat) (x : ZoneAir) : (setZoneAir z x s).occ = s.occ := rfl
@[simp] theorem setZoneAir_air (z : Nat) (x : ZoneAir) :
    (setZoneAir z x s).air = { s.air with zones := s.air.zones.put z x } := rfl
@[simp] theorem setZoneAir_fan (z : Nat) (x : ZoneAir) : (setZoneAir z x s).fan = s.fan := rfl
@[simp] theorem setZoneAir_light (z : Nat) (x : ZoneAir) : (setZoneAir z x s).light = s.light := rfl
@[simp] theorem setZoneAir_loops (z : Nat) (x : ZoneAir) : (setZoneAir z x s).loops = s.loops := rfl
@[simp] theorem setZoneAir_guide (z : Nat) (x : ZoneAir) : (setZoneAir z x s).guide = s.guide := rfl
@[simp] theorem setZoneAir_ovr (z : Nat) (x : ZoneAir) : (setZoneAir z x s).ovr = s.ovr := rfl
@[simp] theorem setZoneAir_bus (z : Nat) (x : ZoneAir) : (setZoneAir z x s).bus = s.bus := rfl
@[simp] theorem setZoneAir_link (z : Nat) (x : ZoneAir) : (setZoneAir z x s).link = s.link := rfl
@[simp] theorem setZoneAir_free (z : Nat) (x : ZoneAir) : (setZoneAir z x s).free = s.free := rfl
@[simp] theorem setZoneAir_pending (z : Nat) (x : ZoneAir) : (setZoneAir z x s).pending = s.pending := rfl

@[simp] theorem setBay_cfg (b : Nat) (x : Bay) : (setBay b x s).cfg = s.cfg := rfl
@[simp] theorem setBay_time (b : Nat) (x : Bay) : (setBay b x s).time = s.time := rfl
@[simp] theorem setBay_occ (b : Nat) (x : Bay) : (setBay b x s).occ = { s.occ with bays := s.occ.bays.put b x } := rfl
@[simp] theorem setBay_air (b : Nat) (x : Bay) : (setBay b x s).air = s.air := rfl
@[simp] theorem setBay_fan (b : Nat) (x : Bay) : (setBay b x s).fan = s.fan := rfl
@[simp] theorem setBay_light (b : Nat) (x : Bay) : (setBay b x s).light = s.light := rfl
@[simp] theorem setBay_loops (b : Nat) (x : Bay) : (setBay b x s).loops = s.loops := rfl
@[simp] theorem setBay_guide (b : Nat) (x : Bay) : (setBay b x s).guide = s.guide := rfl
@[simp] theorem setBay_ovr (b : Nat) (x : Bay) : (setBay b x s).ovr = s.ovr := rfl
@[simp] theorem setBay_bus (b : Nat) (x : Bay) : (setBay b x s).bus = s.bus := rfl
@[simp] theorem setBay_link (b : Nat) (x : Bay) : (setBay b x s).link = s.link := rfl
@[simp] theorem setBay_free (b : Nat) (x : Bay) : (setBay b x s).free = s.free := rfl
@[simp] theorem setBay_pending (b : Nat) (x : Bay) : (setBay b x s).pending = s.pending := rfl

@[simp] theorem setLoop_cfg (i : Nat) (x : LoopInput) : (setLoop i x s).cfg = s.cfg := rfl
@[simp] theorem setLoop_time (i : Nat) (x : LoopInput) : (setLoop i x s).time = s.time := rfl
@[simp] theorem setLoop_occ (i : Nat) (x : LoopInput) : (setLoop i x s).occ = s.occ := rfl
@[simp] theorem setLoop_air (i : Nat) (x : LoopInput) : (setLoop i x s).air = s.air := rfl
@[simp] theorem setLoop_fan (i : Nat) (x : LoopInput) : (setLoop i x s).fan = s.fan := rfl
@[simp] theorem setLoop_light (i : Nat) (x : LoopInput) : (setLoop i x s).light = s.light := rfl
@[simp] theorem setLoop_loops (i : Nat) (x : LoopInput) :
    (setLoop i x s).loops = { s.loops with inputs := s.loops.inputs.put i x } := rfl
@[simp] theorem setLoop_guide (i : Nat) (x : LoopInput) : (setLoop i x s).guide = s.guide := rfl
@[simp] theorem setLoop_ovr (i : Nat) (x : LoopInput) : (setLoop i x s).ovr = s.ovr := rfl
@[simp] theorem setLoop_bus (i : Nat) (x : LoopInput) : (setLoop i x s).bus = s.bus := rfl
@[simp] theorem setLoop_link (i : Nat) (x : LoopInput) : (setLoop i x s).link = s.link := rfl
@[simp] theorem setLoop_free (i : Nat) (x : LoopInput) : (setLoop i x s).free = s.free := rfl
@[simp] theorem setLoop_pending (i : Nat) (x : LoopInput) : (setLoop i x s).pending = s.pending := rfl

@[simp] theorem setPair_cfg (p : Nat) (x : PairRun) : (setPair p x s).cfg = s.cfg := rfl
@[simp] theorem setPair_time (p : Nat) (x : PairRun) : (setPair p x s).time = s.time := rfl
@[simp] theorem setPair_occ (p : Nat) (x : PairRun) : (setPair p x s).occ = s.occ := rfl
@[simp] theorem setPair_air (p : Nat) (x : PairRun) : (setPair p x s).air = s.air := rfl
@[simp] theorem setPair_fan (p : Nat) (x : PairRun) : (setPair p x s).fan = s.fan := rfl
@[simp] theorem setPair_light (p : Nat) (x : PairRun) : (setPair p x s).light = s.light := rfl
@[simp] theorem setPair_loops (p : Nat) (x : PairRun) :
    (setPair p x s).loops = { s.loops with pairs := s.loops.pairs.put p x } := rfl
@[simp] theorem setPair_guide (p : Nat) (x : PairRun) : (setPair p x s).guide = s.guide := rfl
@[simp] theorem setPair_ovr (p : Nat) (x : PairRun) : (setPair p x s).ovr = s.ovr := rfl
@[simp] theorem setPair_bus (p : Nat) (x : PairRun) : (setPair p x s).bus = s.bus := rfl
@[simp] theorem setPair_link (p : Nat) (x : PairRun) : (setPair p x s).link = s.link := rfl
@[simp] theorem setPair_free (p : Nat) (x : PairRun) : (setPair p x s).free = s.free := rfl
@[simp] theorem setPair_pending (p : Nat) (x : PairRun) : (setPair p x s).pending = s.pending := rfl

@[simp] theorem setClosure_cfg (b : Nat) (c : Bool) :
    (setClosure b c s).cfg = { s.cfg with closed := s.cfg.closed.put b c, imageCurrent := false } := rfl
@[simp] theorem setClosure_time (b : Nat) (c : Bool) : (setClosure b c s).time = s.time := rfl
@[simp] theorem setClosure_occ (b : Nat) (c : Bool) : (setClosure b c s).occ = s.occ := rfl
@[simp] theorem setClosure_air (b : Nat) (c : Bool) : (setClosure b c s).air = s.air := rfl
@[simp] theorem setClosure_fan (b : Nat) (c : Bool) : (setClosure b c s).fan = s.fan := rfl
@[simp] theorem setClosure_light (b : Nat) (c : Bool) : (setClosure b c s).light = s.light := rfl
@[simp] theorem setClosure_loops (b : Nat) (c : Bool) : (setClosure b c s).loops = s.loops := rfl
@[simp] theorem setClosure_guide (b : Nat) (c : Bool) : (setClosure b c s).guide = s.guide := rfl
@[simp] theorem setClosure_ovr (b : Nat) (c : Bool) : (setClosure b c s).ovr = s.ovr := rfl
@[simp] theorem setClosure_bus (b : Nat) (c : Bool) : (setClosure b c s).bus = s.bus := rfl
@[simp] theorem setClosure_link (b : Nat) (c : Bool) : (setClosure b c s).link = s.link := rfl
@[simp] theorem setClosure_free (b : Nat) (c : Bool) : (setClosure b c s).free = s.free := rfl
@[simp] theorem setClosure_pending (b : Nat) (c : Bool) : (setClosure b c s).pending = s.pending := rfl

@[simp] theorem putSlot_cfg (i : Nat) (x : Option Slot) : (putSlot i x s).cfg = s.cfg := rfl
@[simp] theorem putSlot_time (i : Nat) (x : Option Slot) : (putSlot i x s).time = s.time := rfl
@[simp] theorem putSlot_occ (i : Nat) (x : Option Slot) : (putSlot i x s).occ = s.occ := rfl
@[simp] theorem putSlot_air (i : Nat) (x : Option Slot) : (putSlot i x s).air = s.air := rfl
@[simp] theorem putSlot_fan (i : Nat) (x : Option Slot) : (putSlot i x s).fan = s.fan := rfl
@[simp] theorem putSlot_light (i : Nat) (x : Option Slot) : (putSlot i x s).light = s.light := rfl
@[simp] theorem putSlot_loops (i : Nat) (x : Option Slot) : (putSlot i x s).loops = s.loops := rfl
@[simp] theorem putSlot_guide (i : Nat) (x : Option Slot) : (putSlot i x s).guide = s.guide := rfl
@[simp] theorem putSlot_ovr (i : Nat) (x : Option Slot) : (putSlot i x s).ovr = s.ovr := rfl
@[simp] theorem putSlot_bus (i : Nat) (x : Option Slot) : (putSlot i x s).bus = s.bus.setSlot i x := rfl
@[simp] theorem putSlot_link (i : Nat) (x : Option Slot) : (putSlot i x s).link = s.link := rfl
@[simp] theorem putSlot_free (i : Nat) (x : Option Slot) : (putSlot i x s).free = s.free := rfl
@[simp] theorem putSlot_pending (i : Nat) (x : Option Slot) : (putSlot i x s).pending = s.pending := rfl

/-! ## The service link's own updates -/

@[simp] theorem withQueue_notices (l : Link) (q : List Queued) (b : Bool) : (l.withQueue q b).notices = q := rfl
@[simp] theorem withQueue_lost (l : Link) (q : List Queued) (b : Bool) : (l.withQueue q b).lost = b := rfl
@[simp] theorem withQueue_attn (l : Link) (q : List Queued) (b : Bool) : (l.withQueue q b).attn = attnOf q b := rfl
@[simp] theorem withQueue_classes (l : Link) (q : List Queued) (b : Bool) : (l.withQueue q b).classes = l.classes := rfl
@[simp] theorem withQueue_straps (l : Link) (q : List Queued) (b : Bool) : (l.withQueue q b).straps = l.straps := rfl
@[simp] theorem withQueue_pins (l : Link) (q : List Queued) (b : Bool) : (l.withQueue q b).pins = l.pins := rfl
@[simp] theorem withQueue_resetDue (l : Link) (q : List Queued) (b : Bool) : (l.withQueue q b).resetDue = l.resetDue := rfl
@[simp] theorem withQueue_reply (l : Link) (q : List Queued) (b : Bool) : (l.withQueue q b).reply = l.reply := rfl
@[simp] theorem withQueue_de (l : Link) (q : List Queued) (b : Bool) : (l.withQueue q b).de = l.de := rfl

@[simp] theorem setSlot_slots (b : FieldBus) (i : Nat) (x : Option Slot) : (b.setSlot i x).slots = b.slots.put i x := rfl
@[simp] theorem setSlot_calls (b : FieldBus) (i : Nat) (x : Option Slot) : (b.setSlot i x).calls = b.calls := rfl
@[simp] theorem setSlot_errors (b : FieldBus) (i : Nat) (x : Option Slot) : (b.setSlot i x).errors = b.errors := rfl
@[simp] theorem setSlot_state (b : FieldBus) (i : Nat) (x : Option Slot) : (b.setSlot i x).state = b.state := rfl

@[simp] theorem queueCall_slots (a : Addr) (b : FieldBus) : (queueCall a b).slots = b.slots := rfl
@[simp] theorem queueCall_errors (a : Addr) (b : FieldBus) : (queueCall a b).errors = b.errors := rfl
@[simp] theorem queueCall_state (a : Addr) (b : FieldBus) : (queueCall a b).state = b.state := rfl

/-! ## The timebase -/

/-- R177: what the start of a window leaves in the timebase. -/
theorem newWindow_eq (t : Time) : t.newWindow =
    { t with correction := t.nextCorrection.getD t.correction, nextCorrection := none } := by
  cases t with
  | mk p c k n => cases n <;> rfl

@[simp] theorem newWindow_prescaler (t : Time) : t.newWindow.prescaler = t.prescaler := by simp [newWindow_eq]
@[simp] theorem newWindow_cycle (t : Time) : t.newWindow.cycle = t.cycle := by simp [newWindow_eq]
@[simp] theorem newWindow_correction (t : Time) :
    t.newWindow.correction = t.nextCorrection.getD t.correction := by simp [newWindow_eq]
@[simp] theorem newWindow_nextCorrection (t : Time) : t.newWindow.nextCorrection = none := by simp [newWindow_eq]
@[simp] theorem newWindow_clock (t : Time) : t.newWindow.clock = t.clock := by simp [newWindow_eq]
@[simp] theorem newWindow_clockSet (t : Time) : t.newWindow.clockSet = t.clockSet := by simp [newWindow_eq]
@[simp] theorem newWindow_begun (t : Time) : t.newWindow.begun = t.begun := by simp [newWindow_eq]

@[simp] theorem atCycle_cycle (t : Time) : t.atCycle.cycle = t.cycle := by unfold Time.atCycle; split <;> simp
@[simp] theorem atCycle_prescaler (t : Time) : t.atCycle.prescaler = t.prescaler := by unfold Time.atCycle; split <;> simp
@[simp] theorem atCycle_clock (t : Time) : t.atCycle.clock = t.clock := by unfold Time.atCycle; split <;> simp
@[simp] theorem tick_clock (t : Time) : t.tick.clock = t.clock := by simp [Time.tick]
@[simp] theorem tick_begun (t : Time) : t.tick.begun = false := rfl

/-! ## Zone masks (section 11.8) -/

@[simp] theorem zoneSet_zero (m : ZoneMask) : (zoneSet m).getLsbD 0 = false := by simp [zoneSet]

end Sys2Proof.Machine
end

