-- ==== Sys2Proof/Laws/Tab.lean ====
section
/-! SUPPORT. The laws of tables: what reading an entry gives after a write, a fill, a build or a change of every entry. -/

namespace Sys2Proof.Tab

variable {α β : Type} {n : Nat}

@[simp] theorem list_length (t : Tab α n) : t.list.length = n := by simp [list]

@[simp] theorem list_ofList (l : List α) (h : l.length = n) : (ofList l h).list = l := rfl

@[simp] theorem list_fill (x : α) : (fill n x).list = List.replicate n x := rfl

@[simp] theorem list_build (f : Nat → α) : (build n f).list = (List.range n).map f := rfl

@[simp] theorem list_put (t : Tab α n) (i : Nat) (x : α) : (t.put i x).list = t.list.set i x := rfl

@[simp] theorem list_each (f : α → β) (t : Tab α n) : (t.each f).list = t.list.map f := rfl

theorem nth_of_lt [Inhabited α] (t : Tab α n) {i : Nat} (h : i < n) : t.nth i = t.list[i]'(by simpa using h) := by
  simp [nth, h]

theorem nth_of_ge [Inhabited α] (t : Tab α n) {i : Nat} (h : n ≤ i) : t.nth i = default := by
  simp [nth, h]

@[simp] theorem nth_fill [Inhabited α] (x : α) (i : Nat) : (fill n x).nth i = if i < n then x else default := by
  split <;> simp_all [nth]

@[simp] theorem nth_build [Inhabited α] (f : Nat → α) (i : Nat) :
    (build n f).nth i = if i < n then f i else default := by
  split <;> simp_all [nth]

/-- Reading after a write: the entry written gives the value written, every other entry stands. -/
theorem nth_put [Inhabited α] (t : Tab α n) (i j : Nat) (x : α) :
    (t.put i x).nth j = if j = i ∧ i < n then x else t.nth j := by
  by_cases h : i = j
  · subst h
    by_cases hi : i < n <;> simp [nth, hi]
  · simp [nth, h, Ne.symm h]

theorem nth_put_self [Inhabited α] (t : Tab α n) {i : Nat} (x : α) (h : i < n) : (t.put i x).nth i = x := by
  simp [nth_put, h]

theorem nth_put_ne [Inhabited α] (t : Tab α n) {i j : Nat} (x : α) (h : j ≠ i) : (t.put i x).nth j = t.nth j := by
  simp [nth_put, h]

theorem nth_each [Inhabited α] [Inhabited β] (f : α → β) (t : Tab α n) {i : Nat} (h : i < n) :
    (t.each f).nth i = f (t.nth i) := by
  simp [nth, h]

theorem nth_modify [Inhabited α] (t : Tab α n) (i j : Nat) (f : α → α) :
    (t.modify i f).nth j = if j = i ∧ i < n then f (t.nth i) else t.nth j := by
  simp [modify, nth_put]

/-- Two tables with the same entries are the same table. -/
theorem ext_nth [Inhabited α] {s t : Tab α n} (h : ∀ i, i < n → s.nth i = t.nth i) : s = t := by
  apply Vector.ext
  intro i hi
  have := h i hi
  simpa [nth, list, hi] using this

/-- What holds of every entry and of the default holds of every entry after a write. -/
theorem all_put [Inhabited α] {p : α → Prop} {t : Tab α n} {i : Nat} {x : α}
    (h : ∀ j, j < n → p (t.nth j)) (hx : p x) : ∀ j, j < n → p ((t.put i x).nth j) := by
  intro j hj
  rw [nth_put]
  split
  · exact hx
  · exact h j hj

end Sys2Proof.Tab
end

