-- ==== Sys2Proof/Laws/Does.lean ====
section
/-! SUPPORT. What an operation can do, said once: the parts of the state it may change, and that it keeps the law of the
notice queue. The relation composes, so each operation's lemma follows from those of the operations it calls. -/

namespace Sys2Proof.Machine

/-- From `s` to `t` only the parts `bs` may change, and the law of the notice queue is kept. -/
structure Does (bs : List Block) (s t : State) : Prop where
  frame : changesOnly bs s t
  queue : QueueLaw s.link → QueueLaw t.link

theorem keeps_refl (s : State) (b : Block) : keeps s s b := by
  cases b <;> first | rfl | exact ⟨rfl, rfl⟩ | exact ⟨rfl, rfl, rfl⟩

theorem keeps_trans {s t u : State} {b : Block} (h : keeps s t b) (k : keeps t u b) : keeps s u b := by
  cases b
  case slots => exact ⟨k.1.trans h.1, k.2.trans h.2⟩
  case notices => exact ⟨k.1.trans h.1, k.2.1.trans h.2.1, k.2.2.trans h.2.2⟩
  case bus =>
    exact Eq.trans k (congrArg (fun x : FieldBus => { x with slots := u.bus.slots, calls := u.bus.calls }) h)
  case link =>
    exact Eq.trans k (congrArg (fun x : Link =>
      { x with notices := u.link.notices, lost := u.link.lost, attn := u.link.attn }) h)
  all_goals exact Eq.trans k h

theorem changesOnly.trans {bs : List Block} {s t u : State} (h : changesOnly bs s t) (k : changesOnly bs t u) :
    changesOnly bs s u := fun b hb => keeps_trans (h b hb) (k b hb)

/-- A wider list of parts allows more. -/
theorem changesOnly.mono {as bs : List Block} {s t : State} (h : changesOnly as s t)
    (sub : as.all (fun b => bs.contains b) = true) : changesOnly bs s t := by
  intro b hb
  refine h b fun ha => hb ?_
  simpa using List.all_eq_true.mp sub b ha

theorem queueLaw_of_keeps {s t : State} (h : keeps s t .notices) (q : QueueLaw s.link) : QueueLaw t.link := by
  obtain ⟨h1, h2, h3⟩ := h
  exact ⟨by rw [h1]; exact q.bounded, by rw [h1]; exact q.distinct, by rw [h1, h2, h3]; exact q.attn⟩

namespace Does

variable {as bs : List Block} {s t u : State}

theorem refl (s : State) : Does bs s s := ⟨fun b _ => keeps_refl s b, id⟩

theorem trans (h : Does bs s t) (k : Does bs t u) : Does bs s u := ⟨h.frame.trans k.frame, k.queue ∘ h.queue⟩

theorem mono (h : Does as s t) (sub : as.all (fun b => bs.contains b) = true) : Does bs s t :=
  ⟨h.frame.mono sub, h.queue⟩

/-- A change that leaves the notices alone. -/
theorem quiet (h : changesOnly bs s t) (n : bs.contains .notices = false) : Does bs s t :=
  ⟨h, queueLaw_of_keeps (h .notices (by simpa using n))⟩

theorem ite {c : Prop} [Decidable c] (h : c → Does bs s t) (k : ¬c → Does bs s u) :
    Does bs s (if c then t else u) := by
  split <;> simp_all

theorem foldl {α : Type} (f : State → α → State) (h : ∀ t x, Does bs t (f t x)) (l : List α) (s : State) :
    Does bs s (l.foldl f s) := by
  induction l generalizing s with
  | nil => exact refl s
  | cons x l ih => exact (h s x).trans (ih _)

end Does

/-! ## Reading a frame -/

section Frames

variable {bs : List Block} {s t : State}

theorem Does.cfg (h : Does bs s t) (n : bs.contains .cfg = false) : t.cfg = s.cfg := h.frame .cfg (by simpa using n)
theorem Does.time (h : Does bs s t) (n : bs.contains .time = false) : t.time = s.time := h.frame .time (by simpa using n)
theorem Does.occ (h : Does bs s t) (n : bs.contains .occ = false) : t.occ = s.occ := h.frame .occ (by simpa using n)
theorem Does.air (h : Does bs s t) (n : bs.contains .air = false) : t.air = s.air := h.frame .air (by simpa using n)
theorem Does.fan (h : Does bs s t) (n : bs.contains .fan = false) : t.fan = s.fan := h.frame .fan (by simpa using n)
theorem Does.light (h : Does bs s t) (n : bs.contains .light = false) : t.light = s.light :=
  h.frame .light (by simpa using n)
theorem Does.loops (h : Does bs s t) (n : bs.contains .loops = false) : t.loops = s.loops :=
  h.frame .loops (by simpa using n)
theorem Does.guide (h : Does bs s t) (n : bs.contains .guide = false) : t.guide = s.guide :=
  h.frame .guide (by simpa using n)
theorem Does.ovr (h : Does bs s t) (n : bs.contains .ovr = false) : t.ovr = s.ovr := h.frame .ovr (by simpa using n)
theorem Does.slots (h : Does bs s t) (n : bs.contains .slots = false) :
    t.bus.slots = s.bus.slots ∧ t.bus.calls = s.bus.calls := h.frame .slots (by simpa using n)
theorem Does.bus (h : Does bs s t) (n : bs.contains .bus = false) :
    t.bus = { s.bus with slots := t.bus.slots, calls := t.bus.calls } := h.frame .bus (by simpa using n)
theorem Does.notices (h : Does bs s t) (n : bs.contains .notices = false) :
    t.link.notices = s.link.notices ∧ t.link.lost = s.link.lost ∧ t.link.attn = s.link.attn :=
  h.frame .notices (by simpa using n)
theorem Does.link (h : Does bs s t) (n : bs.contains .link = false) :
    t.link = { s.link with notices := t.link.notices, lost := t.link.lost, attn := t.link.attn } :=
  h.frame .link (by simpa using n)
theorem Does.free (h : Does bs s t) (n : bs.contains .free = false) : t.free = s.free := h.frame .free (by simpa using n)
theorem Does.pending (h : Does bs s t) (n : bs.contains .pending = false) : t.pending = s.pending :=
  h.frame .pending (by simpa using n)

end Frames

/-! ## The notice queue (R197, R199) -/

theorem sameNotice_comm (a b : Notice) : sameNotice a b = sameNotice b a := by
  simp [sameNotice, Bool.beq_comm (a := noticeKind a), Bool.beq_comm (a := noticeSubject a)]

theorem sameNotice_trans {a b c : Notice} (h : sameNotice a b = true) (k : sameNotice a c = sameNotice b c → False) :
    False := by
  apply k
  simp only [sameNotice, Bool.and_eq_true, beq_iff_eq] at h
  simp [sameNotice, h.1, h.2]

theorem sameNotice_congr {a b c : Notice} (h : sameNotice a b = true) : sameNotice a c = sameNotice b c := by
  by_contra k
  exact sameNotice_trans h k

/-- R197: a queue that coalesces keeps its places, its length and the distinctness of its notices. -/
theorem coalesce_distinct (n : Notice) (now : BitVec 32) {q : List Queued}
    (h : q.Pairwise (fun a b => sameNotice a.notice b.notice = false)) :
    (coalesce n now q).Pairwise (fun a b => sameNotice a.notice b.notice = false) := by
  rw [coalesce, List.pairwise_map]
  refine h.imp ?_
  intro a b hab
  by_cases ha : sameNotice a.notice n = true <;> by_cases hb : sameNotice b.notice n = true
  · exact absurd (sameNotice_congr (c := b.notice) ha) (by rw [hab, sameNotice_comm n, hb]; decide)
  · rw [if_pos ha, if_neg hb]
    simpa [← sameNotice_congr (c := b.notice) ha] using hab
  · rw [if_neg ha, if_pos hb]
    simpa [sameNotice_comm a.notice n, ← sameNotice_congr (c := a.notice) hb, sameNotice_comm b.notice] using hab
  · simpa [ha, hb] using hab

@[simp] theorem coalesce_length (n : Notice) (now : BitVec 32) (q : List Queued) :
    (coalesce n now q).length = q.length := by simp [coalesce]

/-- R197, R199: taking a notice keeps the law of the queue. -/
theorem enqueue_law (n : Notice) (now : BitVec 32) {l : Link} (h : QueueLaw l) : QueueLaw (l.enqueue n now) := by
  unfold Link.enqueue
  split
  · exact h
  · split
    · exact ⟨by simpa using h.bounded, coalesce_distinct n now h.distinct, rfl⟩
    · rename_i hno
      split
      · refine ⟨?_, ?_, rfl⟩
        · simp; omega
        · simp only [withQueue_notices, List.pairwise_append, List.pairwise_cons, List.mem_singleton]
          refine ⟨h.distinct, by simp, ?_⟩
          rintro a ha _ rfl
          simp only [List.any_eq_true, not_exists, not_and] at hno
          simpa using hno a ha
      · exact ⟨h.bounded, h.distinct, rfl⟩

/-- R197: a posted notice leaves the link as it is or gives it another queue. -/
theorem enqueue_cases (n : Notice) (now : BitVec 32) (l : Link) :
    l.enqueue n now = l ∨ ∃ q b, l.enqueue n now = l.withQueue q b := by
  unfold Link.enqueue
  split
  · exact .inl rfl
  · split
    · exact .inr ⟨_, _, rfl⟩
    · split <;> exact .inr ⟨_, _, rfl⟩

theorem enqueue_frame (n : Notice) (now : BitVec 32) (l : Link) :
    l.enqueue n now = { l with
      notices := (l.enqueue n now).notices, lost := (l.enqueue n now).lost, attn := (l.enqueue n now).attn } := by
  rcases enqueue_cases n now l with h | ⟨q, b, h⟩
  · rw [h]
  · rw [h]
    rfl

theorem does_post (n : Notice) (s : State) : Does [.notices] s (post n s) := by
  refine ⟨?_, fun h => enqueue_law n _ h⟩
  intro b hb
  cases b <;> first | rfl | exact ⟨rfl, rfl⟩ | exact enqueue_frame n _ _ | simp at hb

theorem does_postAll (ns : List Notice) (s : State) : Does [.notices] s (postAll ns s) :=
  Does.foldl _ (fun t n => does_post n t) ns s

/-! ## The plain updates -/

section Updates

variable (s : State)

theorem does_setLamp (b : Nat) (x : Lamp) : Does [.guide] s (setLamp b x s) := by
  refine .quiet (fun c hc => ?_) rfl
  cases c <;> first | rfl | exact ⟨rfl, rfl⟩ | exact ⟨rfl, rfl, rfl⟩ | simp at hc

theorem does_guide (g : Guidance) : Does [.guide] s { s with guide := g } := by
  refine .quiet (fun c hc => ?_) rfl
  cases c <;> first | rfl | exact ⟨rfl, rfl⟩ | exact ⟨rfl, rfl, rfl⟩ | simp at hc

theorem does_light (l : Lighting) : Does [.light] s { s with light := l } := by
  refine .quiet (fun c hc => ?_) rfl
  cases c <;> first | rfl | exact ⟨rfl, rfl⟩ | exact ⟨rfl, rfl, rfl⟩ | simp at hc

theorem does_fan (f : FanDrive) : Does [.fan] s { s with fan := f } := by
  refine .quiet (fun c hc => ?_) rfl
  cases c <;> first | rfl | exact ⟨rfl, rfl⟩ | exact ⟨rfl, rfl, rfl⟩ | simp at hc

theorem does_air (a : Air) : Does [.air] s { s with air := a } := by
  refine .quiet (fun c hc => ?_) rfl
  cases c <;> first | rfl | exact ⟨rfl, rfl⟩ | exact ⟨rfl, rfl, rfl⟩ | simp at hc

theorem does_occ (o : Occupancy) : Does [.occ] s { s with occ := o } := by
  refine .quiet (fun c hc => ?_) rfl
  cases c <;> first | rfl | exact ⟨rfl, rfl⟩ | exact ⟨rfl, rfl, rfl⟩ | simp at hc

theorem does_loops (l : Loops) : Does [.loops] s { s with loops := l } := by
  refine .quiet (fun c hc => ?_) rfl
  cases c <;> first | rfl | exact ⟨rfl, rfl⟩ | exact ⟨rfl, rfl, rfl⟩ | simp at hc

theorem does_ovr (o : Overrides) : Does [.ovr] s { s with ovr := o } := by
  refine .quiet (fun c hc => ?_) rfl
  cases c <;> first | rfl | exact ⟨rfl, rfl⟩ | exact ⟨rfl, rfl, rfl⟩ | simp at hc

theorem does_cfg (c : ConfigUnit) : Does [.cfg] s { s with cfg := c } := by
  refine .quiet (fun b hb => ?_) rfl
  cases b <;> first | rfl | exact ⟨rfl, rfl⟩ | exact ⟨rfl, rfl, rfl⟩ | simp at hb

theorem does_time (x : Time) : Does [.time] s { s with time := x } := by
  refine .quiet (fun c hc => ?_) rfl
  cases c <;> first | rfl | exact ⟨rfl, rfl⟩ | exact ⟨rfl, rfl, rfl⟩ | simp at hc

theorem does_free (n : Nat) : Does [.free] s { s with free := n } := by
  refine .quiet (fun c hc => ?_) rfl
  cases c <;> first | rfl | exact ⟨rfl, rfl⟩ | exact ⟨rfl, rfl, rfl⟩ | simp at hc

/-- Any change of the field bus controller. -/
theorem does_bus (b : FieldBus) : Does [.slots, .bus] s { s with bus := b } := by
  refine .quiet (fun c hc => ?_) rfl
  cases c <;> first | rfl | exact ⟨rfl, rfl⟩ | exact ⟨rfl, rfl, rfl⟩ | simp at hc

/-- A change of the transmit slots and the call list. -/
theorem does_slots (x : Tab (Option Slot) 16) (cs : List Addr) :
    Does [.slots] s { s with bus := { s.bus with slots := x, calls := cs } } := by
  refine .quiet (fun c hc => ?_) rfl
  cases c <;> first | rfl | exact ⟨rfl, rfl⟩ | exact ⟨rfl, rfl, rfl⟩ | simp at hc

/-- A change of the field bus controller that leaves the slots and the call list. -/
theorem does_busOnly (e : Nat) (st : BusState) (o : Nat) (u : List UnknownDevice) (ov : Bool) (m g r : Nat) :
    Does [.bus] s { s with bus := { s.bus with
      errors := e, state := st, offTaps := o, unknown := u, overflow := ov, malformed := m, givenUp := g
      bitRate := r } } := by
  refine .quiet (fun c hc => ?_) rfl
  cases c <;> first | rfl | exact ⟨rfl, rfl⟩ | exact ⟨rfl, rfl, rfl⟩ | simp at hc

/-- A change of the service link that leaves the notices. -/
theorem does_link {l : Link} (h : l.notices = s.link.notices ∧ l.lost = s.link.lost ∧ l.attn = s.link.attn) :
    Does [.link] s { s with link := l } := by
  refine .quiet (fun c hc => ?_) rfl
  cases c <;> first | rfl | exact h | exact ⟨rfl, rfl⟩ | exact ⟨rfl, rfl, rfl⟩ | simp at hc

theorem does_setStack (l : List Entry) : Does [.ovr] s (setStack l s) := does_ovr s _
theorem does_setKey (k : Nat) (x : Key) : Does [.ovr] s (setKey k x s) := does_ovr s _
theorem does_formSounder : Does [.ovr] s (formSounder s) := does_ovr s _
theorem does_setSensor (n : Nat) (x : Sensor) : Does [.air] s (setSensor n x s) := does_air s _
theorem does_setZoneAir (z : Nat) (x : ZoneAir) : Does [.air] s (setZoneAir z x s) := does_air s _
theorem does_setBay (b : Nat) (x : Bay) : Does [.occ] s (setBay b x s) := does_occ s _
theorem does_setLoop (i : Nat) (x : LoopInput) : Does [.loops] s (setLoop i x s) := does_loops s _
theorem does_setPair (p : Nat) (x : PairRun) : Does [.loops] s (setPair p x s) := does_loops s _
theorem does_setChannel (n : Nat) (x : Channel) : Does [.fan] s (setChannel n x s) := does_fan s _
theorem does_setGroup (g : Nat) (x : Group) : Does [.light] s (setGroup g x s) := does_light s _
theorem does_setPath (p : Nat) (x : PathRun) : Does [.light] s (setPath p x s) := does_light s _
theorem does_setFace (i f : Nat) (x : Face) : Does [.guide] s (setFace i f x s) := does_guide s _
theorem does_setLevel (v : Nat) (x : Option OtherLevel) : Does [.guide] s (setLevel v x s) := does_guide s _
theorem does_takeStatuses (zs : List Nat) : Does [.guide] s (takeStatuses zs s) := does_guide s _
theorem does_setClosure (b : Nat) (c : Bool) : Does [.cfg] s (setClosure b c s) := does_cfg s _
theorem does_putSlot (i : Nat) (x : Option Slot) : Does [.slots] s (putSlot i x s) := does_slots s _ _
theorem does_answer (k : Nat) (r : Result) (b : List Byte) : Does [.link] s (answer k r b s) :=
  does_link s ⟨rfl, rfl, rfl⟩

end Updates

end Sys2Proof.Machine
end

