-- ==== Sys2Proof/Laws/Frames.lean ====
section
/-! SUPPORT. The frame of every shared operation: slots, guidance, lighting, fan drive, override stack, air monitor,
occupancy unit, loop unit and field bus. -/

namespace Sys2Proof.Machine

/-! ## Slots -/

/-- The block that keeps the record of a destination. -/
def destBlock : Dest → Block
  | .face _ _ | .faceAll | .lamp _ | .lampAll => .guide
  | .call _ => .slots
  | .group _ | .groupAll => .light

theorem does_setMark (d : Dest) (m : Bool) (s : State) : Does [destBlock d] s (setMark d m s) := by
  cases d
  case call a => exact does_slots s s.bus.slots _
  case group g => exact does_light s _
  case groupAll => exact does_light s _
  all_goals exact does_guide s _

/-- R166: what a new wanted value or a mark can do. -/
theorem does_note (d : Dest) (mark : Bool) (s : State) : Does [destBlock d, .slots] s (note d mark s) := by
  have hm : ∀ (m : Bool) t, Does [destBlock d, .slots] t (setMark d m t) := fun m t =>
    (does_setMark d m t).mono (by simp)
  have hs : ∀ i x, Does [destBlock d, .slots] s { s with bus := s.bus.setSlot i x } := fun i x =>
    (does_slots s _ s.bus.calls).mono (by simp)
  dsimp only [note]
  repeat' split
  all_goals first | exact Does.refl s | exact hm _ _ | exact (hs _ _).trans (hm _ _)

theorem does_note_guide (d : Dest) (mark : Bool) (s : State) (h : destBlock d = .guide) :
    Does [.guide, .slots] s (note d mark s) := by
  simpa [h] using does_note d mark s

theorem does_note_light (d : Dest) (mark : Bool) (s : State) (h : destBlock d = .light) :
    Does [.light, .slots] s (note d mark s) := by
  simpa [h] using does_note d mark s

theorem does_fillOne (s : State) (d : Dest) : Does [.guide, .light, .slots] s (fillOne s d) := by
  dsimp only [fillOne]
  split
  · split
    · exact .refl s
    · have h : ∀ i x, Does [.guide, .light, .slots] s { s with bus := s.bus.setSlot i x } := fun i x =>
        (does_slots s _ s.bus.calls).mono rfl
      refine (h _ _).trans ((does_setMark d false _).mono ?_)
      cases d <;> rfl
  · exact .refl s

/-- R165: filling the slots changes only slots and marks. -/
theorem does_fillSlots (s : State) : Does [.guide, .light, .slots] s (fillSlots s) := by
  dsimp only [fillSlots]
  split
  · exact .refl s
  · exact Does.foldl _ does_fillOne _ s

/-! ## Guidance -/

theorem does_formLamp (b : Nat) (s : State) : Does [.guide, .slots] s (formLamp b s) :=
  ((does_setLamp s b _).mono rfl).trans (does_note_guide (.lamp b) _ _ rfl)

theorem does_formLamps (bs : List Nat) (s : State) : Does [.guide, .slots] s (formLamps bs s) :=
  Does.foldl _ (fun t b => does_formLamp b t) bs s

theorem does_putFace (i f : Nat) (x : Face) (s : State) : Does [.guide, .slots] s (putFace i f x s) :=
  ((does_setFace s i f x).mono rfl).trans (does_note_guide (.face i f) _ _ rfl)

theorem does_formFace (i f : Nat) (s : State) : Does [.guide, .slots] s (formFace i f s) := does_putFace i f _ s

theorem does_formFaces (p : FaceRec → Bool) (s : State) : Does [.guide, .slots] s (formFaces p s) :=
  Does.foldl (fun t (x : Nat × Nat) => formFace x.1 x.2 t) (fun t x => does_formFace x.1 x.2 t) _ s

theorem does_advanceFace (i f : Nat) (s : State) : Does [.guide, .slots] s (advanceFace i f s) := by
  dsimp only [advanceFace]
  split
  · exact does_putFace i f _ s
  · exact .refl s

theorem does_advanceSign (i : Nat) (s : State) : Does [.guide, .slots] s (advanceSign i s) := by
  dsimp only [advanceSign]
  split
  · exact Does.foldl _ (fun t f => does_advanceFace i f t) _ s
  · exact .refl s

theorem does_advanceUnpaired (s : State) : Does [.guide, .slots] s (advanceUnpaired s) :=
  Does.foldl _ (fun t i => does_advanceSign i t) _ s

/-- R120, R132: what an arrival at guidance can do. -/
theorem does_guideArrival (zs : List Nat) (also : FaceRec → Bool) (s : State) :
    Does [.guide, .slots, .notices] s (guideArrival zs also s) := by
  dsimp only [guideArrival]
  split
  · refine Does.trans ?_ ((does_postAll _ _).mono rfl)
    refine Does.trans ?_ ((does_formFaces _ _).mono rfl)
    refine Does.trans ((does_takeStatuses s (changedZones zs s)).mono rfl) ?_
    exact Does.foldl _ (fun t z => (does_formLamps _ t).mono rfl) _ _
  · exact .refl s

theorem does_guideBay (b : Nat) (s : State) : Does [.guide, .slots, .notices] s (guideBay b s) := by
  dsimp only [guideBay]
  split
  · exact (does_guideArrival _ _ s).trans ((does_formLamp b _).mono rfl)
  · exact .refl s

theorem does_guideAir (z : Nat) (s : State) : Does [.guide, .slots, .notices] s (guideAir z s) :=
  does_guideArrival _ _ s

theorem does_guideZone (z : Nat) (s : State) : Does [.guide, .slots, .notices] s (guideZone z s) :=
  does_guideArrival _ _ s

theorem does_guideStack (s : State) : Does [.guide, .slots, .notices] s (guideStack s) := does_guideArrival _ _ s

theorem does_guideSensed (b : Nat) (s : State) : Does [.guide, .slots] s (guideSensed b s) := by
  dsimp only [guideSensed]
  split
  · exact does_formLamp b s
  · exact .refl s

theorem does_guideLevels (vs : List Nat) (s : State) : Does [.guide, .slots] s (guideLevels vs s) :=
  does_formFaces _ s

theorem does_markLamp (b : Nat) (s : State) : Does [.guide, .slots] s (markLamp b s) := does_note_guide _ _ s rfl

theorem does_markFace (i f : Nat) (s : State) : Does [.guide, .slots] s (markFace i f s) := does_note_guide _ _ s rfl

theorem does_markAllGuidance (s : State) : Does [.guide, .slots] s (markAllGuidance s) := by
  have h := Does.foldl (fun t (x : Nat × Nat) => markFace x.1 x.2 t) (fun t x => does_markFace x.1 x.2 t) (allFaces s) s
  exact h.trans (Does.foldl (fun t b => markLamp b t) (fun t b => does_markLamp b t) _ _)

theorem does_markFallbackGuidance (s : State) : Does [.guide, .slots] s (markFallbackGuidance s) :=
  (does_note_guide .lampAll true s rfl).trans (does_note_guide .faceAll true _ rfl)

theorem does_setSignState (i : Nat) (st : SignHealth) (s : State) :
    Does [.guide, .notices] s (setSignState i st s) := by
  dsimp only [setSignState]
  split
  · exact .refl s
  · exact ((does_guide s _).mono rfl).trans ((does_post _ _).mono rfl)

/-! ## Lighting -/

theorem does_formGroup (g : Nat) (s : State) : Does [.light, .slots] s (formGroup g s) :=
  ((does_setGroup s g _).mono rfl).trans (does_note_light (.group g) _ _ rfl)

theorem does_formGroups (gs : List Nat) (s : State) : Does [.light, .slots] s (formGroups gs s) := by
  dsimp only [formGroups]
  split
  · exact Does.foldl _ (fun t g => does_formGroup g t) gs s
  · exact .refl s

theorem does_lightAir (z : Nat) (s : State) : Does [.light, .slots] s (lightAir z s) := does_formGroups _ s

theorem does_lightStack (s : State) : Does [.light, .slots] s (lightStack s) := does_formGroups _ s

theorem does_trigger (g : Nat) (s : State) : Does [.light, .slots] s (trigger g s) := by
  dsimp only [trigger]
  split
  · refine Does.ite (fun _ => ?_) (fun _ => (does_setGroup s g _).mono rfl)
    exact ((does_setGroup s g _).mono rfl).trans (does_formGroup g _)
  · exact .refl s

theorem does_lightSensed (b : Nat) (s : State) : Does [.light, .slots] s (lightSensed b s) :=
  Does.foldl _ (fun t g => does_trigger g t) _ s

theorem does_pathFire (p : Nat) (s : State) : Does [.light, .slots] s (pathFire p s) := by
  dsimp only [pathFire]
  split
  · refine Does.trans ?_ ((does_setPath _ p _).mono rfl)
    split
    · exact does_trigger _ s
    · exact .refl s
  · exact .refl s
  · exact .refl s

theorem does_pathTap (p : Nat) (s : State) : Does [.light, .slots] s (pathTap p s) := by
  dsimp only [pathTap]
  split
  · exact ((does_setPath s p _).mono rfl).trans (does_pathFire p _)
  · exact .refl s

theorem does_startPath (p : Nat) (s : State) : Does [.light, .slots] s (startPath p s) :=
  ((does_setPath s p _).mono rfl).trans (does_pathFire p _)

theorem does_startPaths (pair : Nat) (s : State) : Does [.light, .slots] s (startPaths pair s) :=
  Does.foldl _ (fun t p => does_startPath p t) _ s

theorem does_formDark (z : Nat) (s : State) : Does [.light, .guide, .slots, .notices] s (formDark z s) := by
  dsimp only [formDark]
  split
  · refine Does.ite (fun _ => (does_light s _).mono rfl) (fun _ => ?_)
    exact ((does_light s _).mono rfl).trans (((does_post _ _).mono rfl).trans ((does_guideZone z _).mono rfl))
  · exact .refl s

theorem does_setGroupState (g : Nat) (st : GroupState) (s : State) :
    Does [.light, .guide, .slots, .notices] s (setGroupState g st s) := by
  dsimp only [setGroupState]
  refine Does.ite (fun _ => .refl s) (fun _ => ?_)
  exact ((does_setGroup s g _).mono rfl).trans (((does_post _ _).mono rfl).trans (does_formDark _ _))

theorem does_markGroup (g : Nat) (s : State) : Does [.light, .slots] s (markGroup g s) := does_note_light _ _ s rfl

theorem does_markAllGroups (s : State) : Does [.light, .slots] s (markAllGroups s) :=
  Does.foldl _ (fun t g => does_markGroup g t) _ s

theorem does_markFallbackLight (s : State) : Does [.light, .slots] s (markFallbackLight s) :=
  does_note_light _ _ s rfl

theorem does_stayTap (g : Nat) (s : State) : Does [.light, .slots] s (stayTap g s) := by
  dsimp only [stayTap]
  refine Does.ite (fun _ => .refl s) (fun _ => ?_)
  refine Does.ite (fun _ => ?_) (fun _ => (does_setGroup s g _).mono rfl)
  exact ((does_setGroup s g _).mono rfl).trans (does_formGroup g _)

/-! ## Fan drive -/

theorem does_formVentLost (z : Nat) (s : State) : Does [.fan, .guide, .slots, .notices] s (formVentLost z s) := by
  dsimp only [formVentLost]
  split
  · refine Does.ite (fun _ => .refl s) (fun _ => ?_)
    exact ((does_fan s _).mono rfl).trans (((does_post _ _).mono rfl).trans ((does_guideZone z _).mono rfl))
  · exact .refl s

theorem does_formVentLosts (s : State) : Does [.fan, .guide, .slots, .notices] s (formVentLosts s) :=
  Does.foldl _ (fun t z => does_formVentLost z t) _ s

theorem does_takeChannel (n : Nat) (x : Channel) (s : State) :
    Does [.fan, .guide, .slots, .notices] s (takeChannel n x s) := by
  dsimp only [takeChannel]
  refine Does.ite (fun _ => (does_setChannel s n x).mono rfl) (fun _ => ?_)
  refine Does.trans ((does_setChannel s n x).mono rfl) ?_
  refine Does.ite (fun _ => ?_) (fun _ => (does_post _ _).mono rfl)
  exact ((does_post _ _).mono rfl).trans (does_formVentLost _ _)

theorem does_fanTap (n : Nat) (rdy : Bool) (s : State) :
    Does [.fan, .guide, .slots, .notices] s (fanTap n rdy s) := by
  dsimp only [fanTap]
  exact Does.ite (fun _ => does_takeChannel n _ s) (fun _ => (does_setChannel s n _).mono rfl)

theorem does_testBelow (n : Nat) (s : State) : Does [.fan, .notices] s (testBelow n s) := by
  dsimp only [testBelow]
  refine Does.ite (fun _ => ?_) (fun _ => (does_setChannel s n _).mono rfl)
  exact ((does_setChannel s n _).mono rfl).trans ((does_post _ _).mono rfl)

theorem does_fanStack (s : State) : Does [.fan, .guide, .slots, .notices] s (fanStack s) := by
  dsimp only [fanStack]
  refine Does.ite (fun _ => (does_fan s _).mono rfl) (fun _ => ?_)
  exact ((does_fan s _).mono rfl).trans (does_formVentLosts _)

/-! ## Override stack -/

/-- What an announcement of the override stack can change, with the stack itself. -/
abbrev stackBlocks : List Block := [.ovr, .air, .fan, .light, .guide, .slots, .notices]

theorem does_airStack (s : State) : Does [.air] s (airStack s) := does_air s _

/-- R147: what the announcement of a push or a removal can do. -/
theorem does_announceStack (s : State) : Does stackBlocks s (announceStack s) := by
  dsimp only [announceStack]
  refine Does.trans ?_ ((does_formSounder _).mono rfl)
  refine Does.trans ?_ ((does_guideStack _).mono rfl)
  refine Does.trans ?_ ((does_lightStack _).mono rfl)
  exact ((does_fanStack s).mono rfl).trans ((does_airStack _).mono rfl)

theorem does_pushEntry (e : Entry) (s : State) : Does stackBlocks s (pushEntry e s) :=
  ((does_setStack s _).mono rfl).trans (does_announceStack _)

theorem does_keyPlace (k : Nat) (kind : OverrideKind) (s : State) : Does [.ovr] s (keyPlace k kind s) :=
  (does_setKey s k _).trans (does_setStack _ _)

theorem does_keyPush (k : Nat) (s : State) : Does stackBlocks s (keyPush k s) := by
  dsimp only [keyPush]
  split
  · exact .refl s
  · exact ((does_keyPlace k _ s).mono rfl).trans (does_announceStack _)

theorem does_pendingPush (k : Nat) (s : State) : Does stackBlocks s (pendingPush k s) := by
  dsimp only [pendingPush]
  exact Does.ite (fun _ => (does_keyPush k s).trans ((does_post _ _).mono rfl)) (fun _ => .refl s)

theorem does_pendingPushes (s : State) : Does stackBlocks s (pendingPushes s) :=
  (does_pendingPush 0 s).trans (does_pendingPush 1 _)

theorem does_removeEntries (p : Entry → Bool) (s : State) : Does stackBlocks s (removeEntries p s) :=
  (((does_setStack s _).mono rfl).trans (does_announceStack _)).trans (does_pendingPushes _)

theorem does_keyAct (k : Nat) (s : State) : Does stackBlocks s (keyAct k s) := by
  dsimp only [keyAct]
  refine Does.ite (fun _ => ?_) (fun _ => ?_)
  · exact ((does_setKey s k _).mono rfl).trans (does_keyPush k _)
  · exact ((does_setKey s k _).mono rfl).trans (((does_setKey _ k _).mono rfl).trans ((does_post _ _).mono rfl))

theorem does_keyRelease (k : Nat) (s : State) : Does stackBlocks s (keyRelease k s) := by
  have h : Does stackBlocks s (setKey k ⟨false, 0, .released⟩ s) := (does_setKey s k _).mono rfl
  dsimp only [keyRelease]
  split
  · exact h.trans (does_removeEntries _ _)
  · exact h.trans ((does_post _ _).mono rfl)
  all_goals exact h

theorem does_keyTapActive (k : Nat) (s : State) : Does stackBlocks s (keyTapActive k s) := by
  dsimp only [keyTapActive]
  have h : ∀ x, Does stackBlocks s (setKey k x s) := fun x => (does_setKey s k x).mono rfl
  refine Does.ite (fun _ => h _) (fun _ => ?_)
  refine Does.ite (fun _ => ?_) (fun _ => h _)
  exact Does.ite (fun _ => (h _).trans (does_keyAct k _)) (fun _ => (h _).trans ((does_setKey _ k _).mono rfl))

theorem does_keyTap (k : Nat) (a : Bool) (s : State) : Does stackBlocks s (keyTap k a s) := by
  dsimp only [keyTap]
  exact Does.ite (fun _ => does_keyTapActive k s) (fun _ => does_keyRelease k s)

theorem does_expireEntries (s : State) : Does stackBlocks s (expireEntries s) := by
  dsimp only [expireEntries]
  refine Does.ite (fun _ => .refl s) (fun _ => ?_)
  exact ((does_postAll _ s).mono rfl).trans (does_removeEntries _ _)

theorem does_spendKey (ids : List Nat) (k : Nat) (s : State) : Does [.ovr, .notices] s (spendKey ids k s) := by
  dsimp only [spendKey]
  refine Does.ite (fun _ => ?_) (fun _ => .refl s)
  split
  · exact Does.ite (fun _ => (does_setKey s k _).mono rfl) (fun _ => .refl s)
  · exact ((does_setKey s k _).mono rfl).trans ((does_post _ _).mono rfl)
  all_goals exact .refl s

theorem does_cancelMutes (s : State) : Does stackBlocks s (cancelMutes s) := by
  dsimp only [cancelMutes]
  refine Does.trans (t := spendKey _ 1 (spendKey _ 0 (postAll _ s))) ?_ (Does.ite (fun _ => .refl _) (fun _ => does_removeEntries _ _))
  exact ((does_postAll _ s).mono rfl).trans (((does_spendKey _ 0 _).mono rfl).trans ((does_spendKey _ 1 _).mono rfl))

theorem does_sounderTap (s : State) : Does [.ovr] s (sounderTap s) := by
  dsimp only [sounderTap]
  split
  · exact does_ovr s _
  all_goals exact .refl s

/-! ## Air monitor -/

theorem does_takeSensorState (n : Nat) (x : Sensor) (s : State) : Does [.air, .notices] s (takeSensorState n x s) := by
  dsimp only [takeSensorState]
  refine Does.ite (fun _ => (does_setSensor s n x).mono rfl) (fun _ => ?_)
  exact ((does_setSensor s n x).mono rfl).trans ((does_post _ _).mono rfl)

theorem does_announceAir (z : Nat) (s : State) : Does stackBlocks s (announceAir z s) := by
  dsimp only [announceAir]
  refine Does.trans ?_ ((does_formSounder _).mono rfl)
  have h : Does stackBlocks s (lightAir z (guideAir z (post (.airState z (s.air.zones.nth z).state) s))) :=
    ((does_post _ s).mono rfl).trans (((does_guideAir z _).mono rfl).trans ((does_lightAir z _).mono rfl))
  exact Does.ite (fun _ => h.trans (does_cancelMutes _)) (fun _ => h)

theorem does_takeZoneAir (z : Nat) (x : ZoneAir) (s : State) : Does stackBlocks s (takeZoneAir z x s) := by
  dsimp only [takeZoneAir]
  refine Does.ite (fun _ => (does_setZoneAir s z x).mono rfl) (fun _ => ?_)
  exact ((does_setZoneAir s z x).mono rfl).trans (does_announceAir z _)

theorem does_credit (z w : Nat) (s : State) : Does [.air] s (credit z w s) := by
  dsimp only [credit]
  exact Does.ite (fun _ => does_setZoneAir s z _) (fun _ => .refl s)

theorem does_postSensors (old : Tab Sensor 32) (p : SensorRec → Bool) (s : State) :
    Does [.notices] s (postSensors old p s) := does_postAll _ s

theorem does_sampleZone (old : Tab Sensor 32) (z : Nat) (s : State) : Does stackBlocks s (sampleZone old z s) := by
  dsimp only [sampleZone]
  have h : ∀ x, Does stackBlocks s (postSensors old (fun r => r.zone == z) (setZoneAir z x s)) := fun x =>
    ((does_setZoneAir s z x).mono rfl).trans ((does_postSensors old _ _).mono rfl)
  exact Does.ite (fun _ => h _) (fun _ => (h _).trans (does_announceAir z _))

theorem does_airTap (ain : Tab (BitVec 10) 8) (s : State) : Does stackBlocks s (airTap ain s) := by
  dsimp only [airTap]
  refine Does.ite (fun _ => (does_air s _).mono rfl) (fun _ => ?_)
  refine Does.trans (t := { s with air := { s.air with sensors := tapSensors ain s } }) ((does_air s _).mono rfl) ?_
  refine Does.ite (fun _ => ?_) (fun _ => .refl _)
  exact ((does_postSensors _ _ _).mono rfl).trans (Does.foldl _ (fun t z => does_sampleZone _ z t) _ _)

/-! ## Occupancy unit -/

/-- What a change of a bay can change. -/
abbrev bayBlocks : List Block := [.occ, .air, .light, .guide, .slots, .notices]

theorem does_countFree (z k : Nat) (o n : BayState) (s : State) : Does [.occ] s (countFree z k o n s) := by
  dsimp only [countFree]
  exact Does.ite (fun _ => does_occ s _) (fun _ => .refl s)

/-- R14: what a new derivation of a bay's state can do. -/
theorem does_rederive (b : Nat) (s : State) : Does [.occ, .guide, .slots, .notices] s (rederive b s) := by
  dsimp only [rederive]
  refine Does.ite (fun _ => .refl s) (fun _ => ?_)
  exact ((does_setBay s b _).mono rfl).trans (((does_countFree _ _ _ _ _).mono rfl).trans ((does_guideBay b _).mono rfl))

theorem does_takeSensed (b : Nat) (d : Det) (s : State) :
    Does [.occ, .guide, .slots, .notices] s (takeSensed b d s) := by
  dsimp only [takeSensed]
  refine Does.ite (fun _ => ?_) (fun _ => ?_)
  · exact ((does_setBay s b _).mono rfl).trans ((does_rederive b _).trans ((does_post _ _).mono rfl))
  · exact ((does_setBay s b _).mono rfl).trans (does_rederive b _)

theorem does_sensedChange (b : Nat) (d : Det) (s : State) :
    Does [.air, .light, .guide, .slots] s (sensedChange b d s) :=
  ((does_credit _ _ s).mono rfl).trans (((does_lightSensed b _).mono rfl).trans ((does_guideSensed b _).mono rfl))

theorem does_settleBay (b : Nat) (d : Det) (s : State) : Does bayBlocks s (settleBay b d s) :=
  ((does_takeSensed b d s).mono rfl).trans ((does_sensedChange b d _).mono rfl)

theorem does_loseSensed (b : Nat) (s : State) : Does [.occ, .guide, .slots, .notices] s (loseSensed b s) :=
  ((does_setBay s b _).mono rfl).trans (does_rederive b _)

theorem does_faultReport (b : Nat) (s : State) : Does [.occ, .guide, .slots, .notices] s (faultReport b s) := by
  dsimp only [faultReport]
  have h := fun x => ((does_setBay s b x).mono (bs := [.occ, .guide, .slots, .notices]) rfl).trans (does_loseSensed b _)
  exact Does.ite (fun _ => (h _).trans ((does_post _ _).mono rfl)) (fun _ => h _)

theorem does_compareReport (b : Nat) (d : Det) (s : State) : Does bayBlocks s (compareReport b d s) := by
  dsimp only [compareReport]
  refine Does.ite (fun _ => (does_setBay s b _).mono rfl) (fun _ => ?_)
  refine Does.ite (fun _ => .refl s) (fun _ => ?_)
  exact Does.ite (fun _ => does_settleBay b d s) (fun _ => (does_setBay s b _).mono rfl)

theorem does_okReport (b : Nat) (d : Det) (s : State) : Does bayBlocks s (okReport b d s) := by
  dsimp only [okReport]
  have h : ∀ x, Does bayBlocks s (if (bayOf s b).sensed = .nothing then takeSensed b d (setBay b x s)
      else compareReport b d (setBay b x s)) := fun x =>
    Does.ite (fun _ => ((does_setBay s b x).mono rfl).trans ((does_takeSensed b d _).mono rfl))
      (fun _ => ((does_setBay s b x).mono rfl).trans (does_compareReport b d _))
  exact Does.ite (fun _ => (h _).trans ((does_post _ _).mono rfl)) (fun _ => h _)

theorem does_bayReport (b : Nat) (d : Det) (h : Health) (s : State) : Does bayBlocks s (bayReport b d h s) := by
  cases h
  · exact does_okReport b d s
  · exact (does_faultReport b s).mono rfl

theorem does_settleTap (b : Nat) (s : State) : Does bayBlocks s (settleTap b s) := by
  dsimp only [settleTap]
  split
  · exact Does.ite (fun _ => does_settleBay b _ s) (fun _ => (does_setBay s b _).mono rfl)
  · exact .refl s

theorem does_expireReservation (b : Nat) (s : State) :
    Does [.occ, .guide, .slots, .notices] s (expireReservation b s) :=
  ((does_setBay s b _).mono rfl).trans ((does_rederive b _).trans ((does_post _ _).mono rfl))

theorem does_reservationTap (b : Nat) (s : State) : Does [.occ, .guide, .slots, .notices] s (reservationTap b s) := by
  dsimp only [reservationTap]
  split
  · exact Does.ite (fun _ => does_expireReservation b s) (fun _ => (does_setBay s b _).mono rfl)
  all_goals exact .refl s

theorem does_scanBay (b : Nat) (s : State) : Does [.occ, .guide, .slots, .notices] s (scanBay b s) := by
  dsimp only [scanBay]
  exact Does.ite (fun _ => (does_loseSensed b s).trans ((does_post _ _).mono rfl)) (fun _ => .refl s)

theorem does_scanTap (s : State) : Does [.occ, .guide, .slots, .notices] s (scanTap s) := by
  dsimp only [scanTap]
  refine Does.ite (fun _ => ?_) (fun _ => (does_occ s _).mono rfl)
  exact ((does_occ s _).mono rfl).trans (Does.foldl _ (fun t b => does_scanBay b t) _ _)

theorem does_bayT4 (s : State) : Does bayBlocks s (bayT4 s) := by
  dsimp only [bayT4]
  exact Does.ite (fun _ => Does.foldl _ (fun t b => does_settleTap b t) _ s) (fun _ => .refl s)

theorem does_bayT1 (s : State) : Does [.occ, .guide, .slots, .notices] s (bayT1 s) := by
  dsimp only [bayT1]
  refine Does.ite (fun _ => ?_) (fun _ => .refl s)
  refine Does.trans ?_ (does_scanTap _)
  refine Does.trans ?_ (Does.foldl _ (fun t b => does_reservationTap b t) _ _)
  exact (does_occ s _).mono rfl

theorem does_reserveBay (b n : Nat) (s : State) : Does [.occ, .guide, .slots, .notices] s (reserveBay b n s) :=
  ((does_setBay s b _).mono rfl).trans (does_rederive b _)

theorem does_cancelReservation (b : Nat) (s : State) :
    Does [.occ, .guide, .slots, .notices] s (cancelReservation b s) :=
  ((does_setBay s b _).mono rfl).trans (((does_post _ _).mono rfl).trans (does_rederive b _))

theorem does_closeBay (b : Nat) (s : State) : Does [.cfg, .occ, .guide, .slots, .notices] s (closeBay b s) := by
  dsimp only [closeBay]
  refine Does.trans ?_ ((does_rederive b _).mono rfl)
  refine Does.trans ?_ ((does_setClosure _ b true).mono rfl)
  refine Does.trans ?_ ((does_setBay _ b _).mono rfl)
  exact Does.ite (fun _ => (does_post _ _).mono rfl) (fun _ => .refl s)

theorem does_openBay (b : Nat) (s : State) : Does [.cfg, .occ, .guide, .slots, .notices] s (openBay b s) :=
  ((does_setBay s b _).mono rfl).trans (((does_setClosure _ b false).mono rfl).trans ((does_rederive b _).mono rfl))

theorem does_forgetLamp (b : Nat) (s : State) : Does [.guide] s (forgetLamp b s) := does_setLamp s b _

theorem does_bindBay (b : Nat) (a : Addr) (s : State) : Does [.occ, .guide, .slots, .notices] s (bindBay b a s) := by
  dsimp only [bindBay]
  refine Does.ite (fun _ => ?_) (fun _ => (does_setBay s b _).mono rfl)
  refine Does.trans ?_ ((does_markLamp b _).mono rfl)
  refine Does.trans ?_ (does_loseSensed b _)
  exact ((does_setBay s b _).mono rfl).trans ((does_forgetLamp b _).mono rfl)

theorem does_unbindBay (b : Nat) (s : State) : Does [.occ, .guide, .slots, .notices] s (unbindBay b s) := by
  dsimp only [unbindBay]
  have h := fun x => (does_setLamp s b x).mono (bs := [.occ, .guide, .slots, .notices]) rfl
  refine Does.ite (fun _ => ?_) (fun _ => ?_)
  · exact (h _).trans (((does_setBay _ b _).mono rfl).trans (does_loseSensed b _))
  · exact (h _).trans ((does_setBay _ b _).mono rfl)

theorem does_lampLost (b : Nat) (s : State) : Does [.occ, .notices] s (lampLost b s) := by
  dsimp only [lampLost]
  exact Does.ite (fun _ => .refl s) (fun _ => ((does_setBay s b _).mono rfl).trans ((does_post _ _).mono rfl))

theorem does_lampReached (b : Nat) (s : State) : Does [.occ, .notices] s (lampReached b s) := by
  dsimp only [lampReached]
  exact Does.ite (fun _ => ((does_setBay s b _).mono rfl).trans ((does_post _ _).mono rfl)) (fun _ => .refl s)

/-! ## Loop unit -/

/-- What a passage can change. -/
abbrev loopBlocks : List Block := [.loops, .air, .light, .guide, .slots, .notices]

theorem does_announcePassage (p : Nat) (d : Direction) (s : State) :
    Does [.air, .light, .guide, .slots] s (announcePassage p d s) := by
  dsimp only [announcePassage]
  have h : ∀ w z, Does [.air, .light, .guide, .slots] s (credit z w s) := fun w z => (does_credit z w s).mono rfl
  have k : ∀ w z, Does [.air, .light, .guide, .slots] s (startPaths p (credit z w s)) := fun w z =>
    (h w z).trans ((does_startPaths p _).mono rfl)
  cases d
  case out => exact h _ _
  all_goals
    dsimp only
    split
    · exact (k _ _).trans ((does_advanceSign _ _).mono rfl)
    · exact k _ _

theorem does_passage (p : Nat) (d : Direction) (s : State) : Does loopBlocks s (passage p d s) := by
  dsimp only [passage]
  have h : Does loopBlocks s (if (s.cfg.inForce.pairs.nth p).role = .entry then
      { (setPair p (tallied d (s.loops.pairs.nth p)) s) with
        loops := { (setPair p (tallied d (s.loops.pairs.nth p)) s).loops with
          count := counted d (setPair p (tallied d (s.loops.pairs.nth p)) s).loops.count } }
      else setPair p (tallied d (s.loops.pairs.nth p)) s) := by
    refine Does.ite (fun _ => ?_) (fun _ => (does_setPair s p _).mono rfl)
    exact ((does_setPair s p _).mono rfl).trans ((does_loops _ _).mono rfl)
  exact Does.ite (fun _ => h.trans ((does_announcePassage p d _).mono rfl)) (fun _ => h)

theorem does_completeSequence (p : Nat) (s : State) : Does loopBlocks s (completeSequence p s) := by
  dsimp only [completeSequence]
  split
  · exact ((does_setPair s p _).mono rfl).trans (does_passage p _ _)
  · exact ((does_setPair s p _).mono rfl).trans (does_passage p _ _)
  · exact (does_setPair s p _).mono rfl
  · exact (does_setPair s p _).mono rfl
  · exact .refl s

theorem does_pairCovered (i : Nat) (s : State) : Does loopBlocks s (pairCovered i s) := by
  dsimp only [pairCovered]
  split
  · exact .refl s
  · split
    · exact does_passage _ _ s
    · exact (does_setPair s _ _).mono rfl

theorem does_pairCleared (i : Nat) (s : State) : Does loopBlocks s (pairCleared i s) := by
  dsimp only [pairCleared]
  split
  · exact .refl s
  · split
    · exact .refl s
    · exact Does.ite (fun _ => .refl s) (fun _ => does_completeSequence _ s)

theorem does_occupyLoop (i : Nat) (s : State) : Does loopBlocks s (occupyLoop i s) :=
  ((does_setLoop s i _).mono rfl).trans (does_pairCovered i _)

theorem does_loopTapActive (i : Nat) (s : State) : Does loopBlocks s (loopTapActive i s) := by
  dsimp only [loopTapActive]
  have h : ∀ x, Does loopBlocks s (setLoop i x s) := fun x => (does_setLoop s i x).mono rfl
  refine Does.ite (fun _ => ?_) (fun _ => h _)
  exact Does.ite (fun _ => (h _).trans (does_occupyLoop i _)) (fun _ => (h _).trans ((does_setLoop _ i _).mono rfl))

theorem does_releaseLoop (i : Nat) (s : State) : Does loopBlocks s (releaseLoop i s) := by
  dsimp only [releaseLoop]
  split
  · exact (does_setLoop s i _).mono rfl
  · exact ((does_setLoop s i _).mono rfl).trans (does_pairCleared i _)
  · exact ((does_setLoop s i _).mono rfl).trans ((does_post _ _).mono rfl)

theorem does_loopTap (i : Nat) (a : Bool) (s : State) : Does loopBlocks s (loopTap i a s) := by
  dsimp only [loopTap]
  exact Does.ite (fun _ => does_loopTapActive i s) (fun _ => does_releaseLoop i s)

theorem does_stickLoop (i : Nat) (s : State) : Does loopBlocks s (stickLoop i s) :=
  ((does_setLoop s i _).mono rfl).trans (((does_post _ _).mono rfl).trans (does_pairCleared i _))

theorem does_occupiedTap (i : Nat) (s : State) : Does loopBlocks s (occupiedTap i s) := by
  dsimp only [occupiedTap]
  refine Does.ite (fun _ => ?_) (fun _ => .refl s)
  exact Does.ite (fun _ => does_stickLoop i s) (fun _ => (does_setLoop s i _).mono rfl)

theorem does_timeoutSequence (p : Nat) (s : State) : Does [.loops] s (timeoutSequence p s) := does_setPair s p _

theorem does_sequenceTap (p : Nat) (s : State) : Does [.loops] s (sequenceTap p s) := by
  dsimp only [sequenceTap]
  refine Does.ite (fun _ => .refl s) (fun _ => ?_)
  exact Does.ite (fun _ => does_timeoutSequence p s) (fun _ => does_setPair s p _)

theorem does_loopT1 (s : State) : Does loopBlocks s (loopT1 s) := by
  dsimp only [loopT1]
  refine Does.ite (fun _ => .refl s) (fun _ => ?_)
  exact (Does.foldl _ (fun t i => does_occupiedTap i t) _ s).trans
    ((Does.foldl _ (fun t p => does_sequenceTap p t) _ _).mono rfl)

/-! ## Field bus -/

/-- What a delivered frame or the end of an attempt can change. -/
abbrev busBlocks : List Block := [.bus, .occ, .air, .light, .guide, .slots, .notices]

theorem does_addUnknown (a : Addr) (type : DeviceType) (s : State) : Does [.bus, .notices] s (addUnknown a type s) := by
  dsimp only [addUnknown]
  refine Does.ite (fun _ => .refl s) (fun _ => ?_)
  refine Does.ite (fun _ => ?_) (fun _ => ?_)
  · exact ((does_busOnly s _ _ _ _ _ _ _ _).mono rfl).trans ((does_post _ _).mono rfl)
  · refine Does.ite (fun _ => .refl s) (fun _ => ?_)
    exact ((does_busOnly s _ _ _ _ _ _ _ _).mono rfl).trans ((does_post _ _).mono rfl)

theorem does_takeBayState (a : Addr) (d : Det) (h : Health) (s : State) : Does busBlocks s (takeBayState a d h s) := by
  dsimp only [takeBayState]
  split
  · exact (does_addUnknown a _ s).mono rfl
  · exact Does.ite (fun _ => (does_bayReport _ d h s).mono rfl) (fun _ => .refl s)

theorem does_takeGasValue (a : Addr) (g : GasReport) (s : State) : Does busBlocks s (takeGasValue a g s) := by
  dsimp only [takeGasValue]
  split
  · exact (does_addUnknown a _ s).mono rfl
  · exact Does.ite (fun _ => (does_takeSensorState _ _ s).mono rfl) (fun _ => .refl s)

theorem does_takePed (a : Addr) (p : Ped) (s : State) : Does busBlocks s (takePed a p s) := by
  dsimp only [takePed]
  split
  · exact (does_addUnknown a _ s).mono rfl
  · split
    · exact (does_trigger _ s).mono rfl
    · exact .refl s

theorem does_takeLumState (a : Addr) (h : Health) (s : State) : Does busBlocks s (takeLumState a h s) := by
  dsimp only [takeLumState]
  split
  · exact (does_addUnknown a _ s).mono rfl
  · exact Does.ite (fun _ => (does_setGroupState _ _ s).mono rfl) (fun _ => .refl s)

theorem does_takeSignState (a : Addr) (h : Health) (s : State) : Does busBlocks s (takeSignState a h s) := by
  dsimp only [takeSignState]
  split
  · exact (does_addUnknown a _ s).mono rfl
  · exact Does.ite (fun _ => (does_setSignState _ _ s).mono rfl) (fun _ => .refl s)

theorem does_announceBay (b : Nat) (s : State) : Does [.occ, .guide, .slots] s (announceBay b s) := by
  dsimp only [announceBay]
  refine Does.ite (fun _ => ?_) (fun _ => (does_markFallbackGuidance s).mono rfl)
  exact ((does_setBay s b _).mono rfl).trans ((does_markLamp b _).mono rfl)

theorem does_announceSensor (n : Nat) (s : State) : Does [.air, .notices] s (announceSensor n s) := by
  dsimp only [announceSensor]
  exact Does.ite (fun _ => does_takeSensorState n _ s) (fun _ => .refl s)

theorem does_announceGroup (g : Nat) (s : State) : Does [.light, .slots] s (announceGroup g s) := by
  dsimp only [announceGroup]
  exact Does.ite (fun _ => does_markGroup g s) (fun _ => does_markFallbackLight s)

theorem does_announceSign (i : Nat) (s : State) : Does [.guide, .slots] s (announceSign i s) := by
  dsimp only [announceSign]
  exact Does.ite (fun _ => Does.foldl _ (fun t f => does_markFace i f t) _ s) (fun _ => does_markFallbackGuidance s)

theorem does_takeAnnounce (a : Addr) (type : DeviceType) (s : State) : Does busBlocks s (takeAnnounce a type s) := by
  dsimp only [takeAnnounce]
  split
  · exact (does_announceBay _ s).mono rfl
  · exact (does_announceSensor _ s).mono rfl
  · exact (does_announceGroup _ s).mono rfl
  · exact .refl s
  · exact (does_announceSign _ s).mono rfl
  · exact (does_addUnknown a type s).mono rfl

theorem does_setErrors (n : Nat) (s : State) : Does [.bus, .notices] s (setErrors n s) := by
  dsimp only [setErrors]
  refine Does.ite (fun _ => ?_) (fun _ => (does_busOnly s _ _ _ _ _ _ _ _).mono rfl)
  exact ((does_busOnly s _ _ _ _ _ _ _ _).mono rfl).trans ((does_post _ _).mono rfl)

theorem does_recoverBus (s : State) : Does [.bus, .notices] s (recoverBus s) :=
  ((does_busOnly s _ _ _ _ _ _ _ _).mono rfl).trans ((does_post _ _).mono rfl)

theorem does_busT4 (s : State) : Does [.bus, .notices] s (busT4 s) := by
  dsimp only [busT4]
  refine Does.ite (fun _ => .refl s) (fun _ => ?_)
  refine Does.ite (fun _ => ?_) (fun _ => .refl s)
  exact Does.ite (fun _ => does_recoverBus s) (fun _ => (does_busOnly s _ _ _ _ _ _ _ _).mono rfl)

theorem does_faceSent (i f : Nat) (v : FaceValue) (s : State) :
    Does [.guide, .slots, .notices] s (faceSent i f v s) := by
  dsimp only [faceSent]
  have h : ∀ x, Does [.guide, .slots, .notices] s (if (s.guide.signs.nth i).state = .noResponse
      then setSignState i .ok (setFace i f x s) else setFace i f x s) := fun x =>
    Does.ite (fun _ => ((does_setFace s i f x).mono rfl).trans ((does_setSignState i _ _).mono rfl))
      (fun _ => (does_setFace s i f x).mono rfl)
  exact Does.ite (fun _ => (h _).trans ((does_markFace i f _).mono rfl)) (fun _ => h _)

theorem does_groupSent (g : Nat) (v : Drive) (s : State) :
    Does [.light, .guide, .slots, .notices] s (groupSent g v s) := by
  dsimp only [groupSent]
  have h : ∀ x : Group, Does [.light, .guide, .slots, .notices] s (if x.state = .noResponse
      then setGroupState g .ok (setGroup g x s) else setGroup g x s) := fun x =>
    Does.ite (fun _ => ((does_setGroup s g x).mono rfl).trans (does_setGroupState g _ _))
      (fun _ => (does_setGroup s g x).mono rfl)
  have k := h { s.light.groups.nth g with sent := some v }
  exact Does.ite (fun _ => k.trans ((does_markGroup g _).mono rfl)) (fun _ => k)

theorem does_lampSent (b : Nat) (c : Colour) (s : State) :
    Does [.occ, .guide, .slots, .notices] s (lampSent b c s) := by
  dsimp only [lampSent]
  have h : ∀ x, Does [.occ, .guide, .slots, .notices] s (lampReached b (setLamp b x s)) := fun x =>
    ((does_setLamp s b x).mono rfl).trans ((does_lampReached b _).mono rfl)
  exact Does.ite (fun _ => (h _).trans ((does_markLamp b _).mono rfl)) (fun _ => h _)

theorem does_reportSuccess (x : Slot) (s : State) : Does busBlocks s (reportSuccess x s) := by
  dsimp only [reportSuccess]
  split
  · split
    · exact (does_faceSent _ _ _ s).mono rfl
    · exact .refl s
  · split
    · exact (does_groupSent _ _ s).mono rfl
    · exact .refl s
  · split
    · exact (does_lampSent _ _ s).mono rfl
    · exact .refl s
  · exact .refl s

theorem does_reportGiveUp (x : Slot) (s : State) : Does busBlocks s (reportGiveUp x s) := by
  dsimp only [reportGiveUp]
  split
  · split
    · exact (does_setSignState _ _ s).mono rfl
    · exact .refl s
  · split
    · exact (does_setGroupState _ _ s).mono rfl
    · exact .refl s
  · split
    · exact (does_lampLost _ s).mono rfl
    · exact .refl s
  all_goals exact .refl s

theorem does_attemptSucceeds (i : Nat) (x : Slot) (s : State) : Does busBlocks s (attemptSucceeds i x s) := by
  dsimp only [attemptSucceeds]
  refine Does.trans (t := putSlot i none (setErrors (s.bus.errors - 1) s)) ?_
    (Does.ite (fun _ => .refl _) (fun _ => does_reportSuccess x _))
  exact ((does_setErrors _ s).mono rfl).trans ((does_putSlot _ i none).mono rfl)

theorem does_giveUp (i : Nat) (x : Slot) (s : State) : Does busBlocks s (giveUp i x s) := by
  dsimp only [giveUp]
  refine Does.trans (t := putSlot i none _) ?_ (Does.ite (fun _ => .refl _) (fun _ => does_reportGiveUp x _))
  exact ((does_busOnly s _ _ _ _ _ _ _ _).mono rfl).trans ((does_putSlot _ i none).mono rfl)

theorem does_attemptFails (i : Nat) (x : Slot) (s : State) : Does busBlocks s (attemptFails i x s) := by
  dsimp only [attemptFails]
  refine Does.trans ?_ ((does_setErrors _ _).mono rfl)
  refine Does.ite (fun _ => does_giveUp i x s) (fun _ => ?_)
  exact Does.ite (fun _ => (does_putSlot s i none).mono rfl) (fun _ => (does_putSlot s i _).mono rfl)

theorem does_arbitrationLoses (i : Nat) (x : Slot) (s : State) : Does [.slots] s (arbitrationLoses i x s) :=
  does_putSlot s i _

end Sys2Proof.Machine
end

