-- ==== Sys2Proof/Laws/Marks.lean ====
section
/-! SUPPORT. What marking a destination and filling the slots leave: every record but its waiting mark, and every filled
slot. -/

namespace Sys2Proof

theorem Tab.each_modify {α β : Type} {n : Nat} [Inhabited α] [Inhabited β] (t : Tab α n) (i : Nat) {f : α → α} {h : α → β}
    (k : h (f (t.nth i)) = h (t.nth i)) : (t.modify i f).each h = t.each h := by
  refine Tab.ext_nth (fun j hj => ?_)
  rw [Tab.nth_each _ _ hj, Tab.nth_each _ _ hj, Tab.nth_modify]
  split
  · rename_i e
    rw [k, e.1]
  · rfl

theorem Tab.each_put {α β : Type} {n : Nat} [Inhabited α] [Inhabited β] (t : Tab α n) (i : Nat) {x : α} {h : α → β}
    (k : h x = h (t.nth i)) : (t.put i x).each h = t.each h := by
  refine Tab.ext_nth (fun j hj => ?_)
  rw [Tab.nth_each _ _ hj, Tab.nth_each _ _ hj, Tab.nth_put]
  split
  · rename_i e
    rw [k, e.1]
  · rfl

namespace Machine

def Group.bare (x : Group) : Group := { x with waiting := false }
def Face.bare (x : Face) : Face := { x with waiting := false }
def Lamp.bare (x : Lamp) : Lamp := { x with waiting := false }
def Sign.bare (x : Sign) : Sign := { x with faces := x.faces.each Face.bare }

/-- The lighting controller without its waiting marks. -/
def Lighting.bare (l : Lighting) : Lighting := { l with groups := l.groups.each Group.bare, broadcast := false }

/-- The guidance controller without its waiting marks. -/
def Guidance.bare (g : Guidance) : Guidance :=
  { g with
    lamps := g.lamps.each Lamp.bare, signs := g.signs.each Sign.bare, lampBroadcast := false, faceBroadcast := false }

theorem Lighting.group_of_bare {l m : Lighting} (h : l.bare = m.bare) (g : Nat) :
    (l.groups.nth g).bare = (m.groups.nth g).bare := by
  by_cases hg : g < 48
  · rw [← Tab.nth_each Group.bare _ hg, ← Tab.nth_each Group.bare _ hg]
    exact congrArg (fun x : Lighting => x.groups.nth g) h
  · rw [Tab.nth_of_ge _ (by omega), Tab.nth_of_ge _ (by omega)]

theorem Guidance.lamp_of_bare {l m : Guidance} (h : l.bare = m.bare) (b : Nat) :
    (l.lamps.nth b).bare = (m.lamps.nth b).bare := by
  by_cases hb : b < 512
  · rw [← Tab.nth_each Lamp.bare _ hb, ← Tab.nth_each Lamp.bare _ hb]
    exact congrArg (fun x : Guidance => x.lamps.nth b) h
  · rw [Tab.nth_of_ge _ (by omega), Tab.nth_of_ge _ (by omega)]

theorem Guidance.sign_of_bare {l m : Guidance} (h : l.bare = m.bare) (i : Nat) :
    (l.signs.nth i).bare = (m.signs.nth i).bare := by
  by_cases hi : i < 24
  · rw [← Tab.nth_each Sign.bare _ hi, ← Tab.nth_each Sign.bare _ hi]
    exact congrArg (fun x : Guidance => x.signs.nth i) h
  · rw [Tab.nth_of_ge _ (by omega), Tab.nth_of_ge _ (by omega)]

theorem Sign.face_of_bare {x y : Sign} (h : x.bare = y.bare) (f : Nat) :
    (x.faces.nth f).bare = (y.faces.nth f).bare := by
  by_cases hf : f < 4
  · rw [← Tab.nth_each Face.bare _ hf, ← Tab.nth_each Face.bare _ hf]
    exact congrArg (fun x : Sign => x.faces.nth f) h
  · rw [Tab.nth_of_ge _ (by omega), Tab.nth_of_ge _ (by omega)]

/-- From `s` to `t` only waiting marks may change in lighting and guidance. -/
structure MarksOnly (s t : State) : Prop where
  light : t.light.bare = s.light.bare
  guide : t.guide.bare = s.guide.bare

namespace MarksOnly

variable {s t u : State}

theorem refl (s : State) : MarksOnly s s := ⟨rfl, rfl⟩

theorem trans (h : MarksOnly s t) (k : MarksOnly t u) : MarksOnly s u :=
  ⟨k.light.trans h.light, k.guide.trans h.guide⟩

theorem foldl {α : Type} (f : State → α → State) (h : ∀ t x, MarksOnly t (f t x)) (l : List α) (s : State) :
    MarksOnly s (l.foldl f s) := by
  induction l generalizing s with
  | nil => exact refl s
  | cons x xs ih => exact (h s x).trans (ih _)

/-- A group but for its mark. -/
theorem group (h : MarksOnly s t) (g : Nat) : (t.light.groups.nth g).bare = (s.light.groups.nth g).bare :=
  Lighting.group_of_bare h.light g
theorem stay (h : MarksOnly s t) (g : Nat) : (t.light.groups.nth g).stay = (s.light.groups.nth g).stay := by
  have k := congrArg Group.stay (h.group g)
  exact k
theorem level (h : MarksOnly s t) (g : Nat) : (t.light.groups.nth g).level = (s.light.groups.nth g).level := by
  have k := congrArg Group.level (h.group g)
  exact k
theorem fade (h : MarksOnly s t) (g : Nat) : (t.light.groups.nth g).fade = (s.light.groups.nth g).fade := by
  have k := congrArg Group.fade (h.group g)
  exact k
theorem groupWanted (h : MarksOnly s t) (g : Nat) : (t.light.groups.nth g).wanted = (s.light.groups.nth g).wanted := by
  have k := congrArg Group.wanted (h.group g)
  exact k
theorem groupSent (h : MarksOnly s t) (g : Nat) : (t.light.groups.nth g).sent = (s.light.groups.nth g).sent := by
  have k := congrArg Group.sent (h.group g)
  exact k
theorem groupState (h : MarksOnly s t) (g : Nat) : (t.light.groups.nth g).state = (s.light.groups.nth g).state := by
  have k := congrArg Group.state (h.group g)
  exact k
theorem paths (h : MarksOnly s t) : t.light.paths = s.light.paths := by
  have k := congrArg Lighting.paths h.light
  exact k
theorem darkCount (h : MarksOnly s t) : t.light.darkCount = s.light.darkCount := by
  have k := congrArg Lighting.darkCount h.light
  exact k
theorem dark (h : MarksOnly s t) : t.light.dark = s.light.dark := by
  have k := congrArg Lighting.dark h.light
  exact k
theorem lightResend (h : MarksOnly s t) : t.light.resend = s.light.resend := by
  have k := congrArg Lighting.resend h.light
  exact k

/-- A lamp but for its mark. -/
theorem lamp (h : MarksOnly s t) (b : Nat) : (t.guide.lamps.nth b).bare = (s.guide.lamps.nth b).bare :=
  Guidance.lamp_of_bare h.guide b
theorem lampWanted (h : MarksOnly s t) (b : Nat) : (t.guide.lamps.nth b).wanted = (s.guide.lamps.nth b).wanted := by
  have k := congrArg Lamp.wanted (h.lamp b)
  exact k
theorem lampSent (h : MarksOnly s t) (b : Nat) : (t.guide.lamps.nth b).sent = (s.guide.lamps.nth b).sent := by
  have k := congrArg Lamp.sent (h.lamp b)
  exact k

/-- A sign but for the marks of its faces. -/
theorem signState (h : MarksOnly s t) (i : Nat) : (t.guide.signs.nth i).state = (s.guide.signs.nth i).state := by
  have k := congrArg Sign.state (Guidance.sign_of_bare h.guide i)
  exact k
theorem face (h : MarksOnly s t) (i f : Nat) : (faceOf t i f).bare = (faceOf s i f).bare :=
  Sign.face_of_bare (Guidance.sign_of_bare h.guide i) f
theorem faceWanted (h : MarksOnly s t) (i f : Nat) : (faceOf t i f).wanted = (faceOf s i f).wanted := by
  have k := congrArg Face.wanted (h.face i f)
  exact k
theorem faceSent (h : MarksOnly s t) (i f : Nat) : (faceOf t i f).sent = (faceOf s i f).sent := by
  have k := congrArg Face.sent (h.face i f)
  exact k
theorem faceTree (h : MarksOnly s t) (i f : Nat) : (faceOf t i f).tree = (faceOf s i f).tree := by
  have k := congrArg Face.tree (h.face i f)
  exact k
theorem faceChoice (h : MarksOnly s t) (i f : Nat) : (faceOf t i f).choice = (faceOf s i f).choice := by
  have k := congrArg Face.choice (h.face i f)
  exact k
theorem status (h : MarksOnly s t) : t.guide.status = s.guide.status := by
  have k := congrArg Guidance.status h.guide
  exact k
theorem levels (h : MarksOnly s t) : t.guide.levels = s.guide.levels := by
  have k := congrArg Guidance.levels h.guide
  exact k
theorem guideResend (h : MarksOnly s t) : t.guide.resend = s.guide.resend := by
  have k := congrArg Guidance.resend h.guide
  exact k
theorem rotation (h : MarksOnly s t) : t.guide.rotation = s.guide.rotation := by
  have k := congrArg Guidance.rotation h.guide
  exact k

end MarksOnly

theorem marks_setMark (d : Dest) (m : Bool) (s : State) : MarksOnly s (setMark d m s) := by
  cases d with
  | face i f =>
    refine ⟨rfl, ?_⟩
    have h : (s.guide.signs.modify i (fun sg =>
        { sg with faces := sg.faces.put f { (s.guide.signs.nth i).faces.nth f with waiting := m } })).each Sign.bare
        = s.guide.signs.each Sign.bare := by
      refine Tab.each_modify _ _ ?_
      simp only [Sign.bare]
      rw [Tab.each_put]
      rfl
    simp only [setMark, Guidance.setFace, Guidance.bare, h]
  | faceAll => exact ⟨rfl, rfl⟩
  | call a => exact ⟨rfl, rfl⟩
  | group g =>
    refine ⟨?_, rfl⟩
    have h : (s.light.groups.modify g (fun x => { x with waiting := m })).each Group.bare
        = s.light.groups.each Group.bare := Tab.each_modify _ _ rfl
    simp only [setMark, Lighting.bare, h]
  | groupAll => exact ⟨rfl, rfl⟩
  | lamp b =>
    refine ⟨rfl, ?_⟩
    have h : (s.guide.lamps.modify b (fun x => { x with waiting := m })).each Lamp.bare
        = s.guide.lamps.each Lamp.bare := Tab.each_modify _ _ rfl
    simp only [setMark, Guidance.bare, h]
  | lampAll => exact ⟨rfl, rfl⟩

theorem marks_note (d : Dest) (mark : Bool) (s : State) : MarksOnly s (note d mark s) := by
  have hb : ∀ b m, MarksOnly s (setMark d m { s with bus := b }) := fun b m =>
    MarksOnly.trans (t := { s with bus := b }) ⟨rfl, rfl⟩ (marks_setMark d m _)
  dsimp only [note]
  repeat' split
  all_goals first | exact .refl s | exact marks_setMark _ _ _ | exact hb _ _

theorem marks_fillOne (s : State) (d : Dest) : MarksOnly s (fillOne s d) := by
  have hb : ∀ b m, MarksOnly s (setMark d m { s with bus := b }) := fun b m =>
    MarksOnly.trans (t := { s with bus := b }) ⟨rfl, rfl⟩ (marks_setMark d m _)
  dsimp only [fillOne]
  repeat' split
  all_goals first | exact .refl s | exact hb _ _

/-- R165: filling the slots changes nothing of lighting and guidance but waiting marks. -/
theorem marks_fillSlots (s : State) : MarksOnly s (fillSlots s) := by
  dsimp only [fillSlots]
  split
  · exact .refl s
  · exact MarksOnly.foldl _ marks_fillOne _ s

/-! ## Filled slots -/

@[simp] theorem setMark_slots (d : Dest) (m : Bool) (s : State) : (setMark d m s).bus.slots = s.bus.slots := by
  cases d <;> rfl

theorem fillOne_keeps {i : Nat} {x : Slot} (s : State) (d : Dest) (h : s.bus.slots.nth i = some x) :
    (fillOne s d).bus.slots.nth i = some x := by
  dsimp only [fillOne]
  split
  · rename_i k j hk hj
    split
    · exact h
    · have hn : (s.bus.slots.nth j).isNone = true := by
        have := List.find?_some hj
        simpa using this
      simp only [setMark_slots, FieldBus.setSlot, Tab.nth_put]
      split
      · rename_i e
        rw [← e.1, h] at hn
        simp at hn
      · exact h
  · exact h

/-- R165: filling the slots keeps every filled slot. -/
theorem fillSlots_keeps {i : Nat} {x : Slot} (s : State) (h : s.bus.slots.nth i = some x) :
    (fillSlots s).bus.slots.nth i = some x := by
  dsimp only [fillSlots]
  split
  · exact h
  · generalize waitingDests s = ds
    clear * - h
    induction ds generalizing s with
    | nil => exact h
    | cons d ds ih => exact ih _ (fillOne_keeps s d h)

end Machine

end Sys2Proof
end

