-- ==== Sys2Proof/Laws/Steps.lean ====
section
/-! SUPPORT. The frame of the entries to the configuration states, of the parts of a tap and of the rules of the
requests. -/

namespace Sys2Proof.Machine

/-! ## Entries -/

/-- What an entry to a configuration state can change: everything but the time and the model's own fields. -/
abbrev entryBlocks : List Block :=
  [.cfg, .occ, .air, .fan, .light, .loops, .guide, .ovr, .slots, .bus, .notices, .link]

theorem does_attnHigh (s : State) (b : Bool) : Does [.link] s { s with link := { s.link with attnHigh := b } } := by
  refine .quiet (fun c hc => ?_) rfl
  cases c <;> first | rfl | exact ⟨rfl, rfl⟩ | exact ⟨rfl, rfl, rfl⟩ | simp at hc

theorem does_cfgToRunning (s : State) : Does [.cfg, .link, .notices] s (cfgToRunning s) := by
  dsimp only [cfgToRunning]
  refine Does.trans ?_ ((does_post _ _).mono rfl)
  exact ((does_cfg s _).mono rfl).trans ((does_attnHigh _ _).mono rfl)

theorem does_busEntry (r : Nat) (calls : List Addr) (s : State) :
    Does [.slots, .bus, .notices] s (busEntry r calls s) := by
  dsimp only [busEntry]
  exact Does.ite (fun _ => ((does_bus s _).mono rfl).trans ((does_recoverBus _).mono rfl))
    (fun _ => (does_bus s _).mono rfl)

theorem does_busToRunning (s : State) : Does [.slots, .bus, .notices] s (busToRunning s) :=
  (does_busEntry _ _ s).trans ((does_busOnly _ _ _ _ _ _ _ _ _).mono rfl)

theorem does_inputEntry (old : Cfg) (k : Nat) (s : State) : Does [.ovr, .notices] s (inputEntry old k s) := by
  dsimp only [inputEntry]
  have h : Does [.ovr, .notices] s (setKey k { s.ovr.keys.nth k with filter := 0, state := .released } s) :=
    (does_setKey s k _).mono rfl
  refine Does.ite (fun _ => ?_) (fun _ => .refl s)
  split
  · exact h.trans ((does_setStack _ _).mono rfl)
  · exact h.trans ((does_post _ _).mono rfl)
  all_goals exact h

theorem does_inputPush (k : Nat) (s : State) : Does [.ovr, .notices] s (inputPush k s) := by
  dsimp only [inputPush]
  split
  · exact Does.ite (fun _ => ((does_keyPlace k _ s).mono rfl).trans ((does_post _ _).mono rfl)) (fun _ => .refl s)
  · exact .refl s

theorem does_ovrToRunning (old : Cfg) (s : State) : Does [.ovr, .notices] s (ovrToRunning old s) :=
  (does_inputEntry old 0 s).trans ((does_inputEntry old 1 _).trans ((does_inputPush 0 _).trans (does_inputPush 1 _)))

theorem does_occToRunning (s : State) : Does [.occ] s (occToRunning s) := does_occ s _
theorem does_airToRunning (old : Cfg) (s : State) : Does [.air] s (airToRunning old s) := does_air s _
theorem does_fanToRunning (s : State) : Does [.fan] s (fanToRunning s) := does_fan s _
theorem does_lightToRunning (s : State) : Does [.light] s (lightToRunning s) := (does_light s _).trans (does_light _ _)

theorem does_loopsToRunning (s : State) : Does [.loops, .notices] s (loopsToRunning s) :=
  ((does_loops s _).mono rfl).trans ((does_postAll _ _).mono rfl)

theorem does_guideToRunning (s : State) : Does [.guide] s (guideToRunning s) := (does_guide s _).trans (does_guide _ _)

/-- R187: what the entry to RUNNING can do. -/
theorem does_enterRunning (s : State) : Does entryBlocks s (enterRunning s) := by
  dsimp only [enterRunning]
  refine Does.trans ?_ ((does_formSounder _).mono rfl)
  refine Does.trans ?_ ((does_guideToRunning _).mono rfl)
  refine Does.trans ?_ ((does_loopsToRunning _).mono rfl)
  refine Does.trans ?_ ((does_lightToRunning _).mono rfl)
  refine Does.trans ?_ ((does_fanToRunning _).mono rfl)
  refine Does.trans ?_ ((does_airToRunning _ _).mono rfl)
  refine Does.trans ?_ ((does_occToRunning _).mono rfl)
  refine Does.trans ?_ ((does_ovrToRunning _ _).mono rfl)
  exact ((does_cfgToRunning s).mono rfl).trans ((does_busToRunning _).mono rfl)

theorem does_cfgToEditing (s : State) : Does [.cfg, .notices] s (cfgToEditing s) :=
  ((does_cfg s _).mono rfl).trans ((does_post _ _).mono rfl)

theorem does_occToEditing (s : State) : Does [.occ] s (occToEditing s) := does_occ s _

theorem does_airToEditing (s : State) : Does [.air, .ovr, .notices] s (airToEditing s) := by
  dsimp only [airToEditing]
  refine Does.trans ?_ ((does_formSounder _).mono rfl)
  exact ((does_air s _).mono rfl).trans ((does_postAll _ _).mono rfl)

theorem does_fanToEditing (s : State) : Does [.fan, .guide, .slots, .notices] s (fanToEditing s) :=
  ((does_fan s _).mono rfl).trans (does_formVentLosts _)

theorem does_lightToEditing (s : State) : Does [.light, .notices] s (lightToEditing s) :=
  ((does_light s _).mono rfl).trans ((does_postAll _ _).mono rfl)

theorem does_guideToEditing (s : State) : Does [.guide, .notices] s (guideToEditing s) :=
  ((does_guide s _).mono rfl).trans ((does_postAll _ _).mono rfl)

/-- R184: what the entry to EDITING can do; the loops and the service link's own values stand. -/
theorem does_enterEditing (s : State) :
    Does [.cfg, .occ, .air, .fan, .light, .guide, .ovr, .slots, .bus, .notices] s (enterEditing s) := by
  dsimp only [enterEditing]
  refine Does.trans ?_ ((does_guideToEditing _).mono rfl)
  refine Does.trans ?_ ((does_lightToEditing _).mono rfl)
  refine Does.trans ?_ ((does_fanToEditing _).mono rfl)
  refine Does.trans ?_ ((does_airToEditing _).mono rfl)
  refine Does.trans ?_ ((does_occToEditing _).mono rfl)
  exact ((does_cfgToEditing s).mono rfl).trans ((does_busEntry _ _ _).mono rfl)

theorem does_loadCoast (d : Nat) (s : State) : Does [.fan] s (loadCoast d s) := does_fan s _
theorem does_loadDetectors (s : State) : Does [.occ] s (loadDetectors s) := does_occ s _
theorem does_takeBody (b : Body) (s : State) : Does [.cfg] s (takeBody b s) := does_cfg s _

theorem does_loadImage (b : Body) (id : BitVec 16) (s : State) : Does entryBlocks s (loadImage b id s) := by
  dsimp only [loadImage]
  refine Does.trans ?_ (does_enterRunning _)
  refine Does.trans ?_ ((does_loadCoast _ _).mono rfl)
  refine Does.trans ?_ ((does_cfg _ _).mono rfl)
  exact ((does_takeBody b s).mono rfl).trans ((does_loadDetectors _).mono rfl)

theorem does_loadFallback (why : FallbackReason) (s : State) : Does entryBlocks s (loadFallback why s) := by
  dsimp only [loadFallback]
  refine Does.trans ?_ ((does_busEntry _ _ _).mono rfl)
  refine Does.trans ?_ ((does_post _ _).mono rfl)
  have h : Does entryBlocks s (loadCoast defaultParams.dwell (loadDetectors (takeBody emptyBody s))) :=
    ((does_takeBody _ s).mono rfl).trans (((does_loadDetectors _).mono rfl).trans ((does_loadCoast _ _).mono rfl))
  refine h.trans ?_
  generalize loadCoast defaultParams.dwell (loadDetectors (takeBody emptyBody s)) = t
  have h1 : Does entryBlocks t { t with
      cfg := { t.cfg with state := .fallback, reason := some why, loadedId := none, imageCurrent := false } } :=
    (does_cfg t _).mono rfl
  have h2 := (does_attnHigh { t with
      cfg := { t.cfg with state := .fallback, reason := some why, loadedId := none, imageCurrent := false } }
    defaultParams.attnHigh).mono (bs := entryBlocks) rfl
  exact (h1.trans h2).trans (((does_light _ _).mono rfl).trans ((does_guide _ _).mono rfl))

/-- R183: what the end of a load can do. -/
theorem does_endLoad (source : LoadSource) (s : State) : Does (.free :: entryBlocks) s (endLoad source s) := by
  dsimp only [endLoad]
  have h : Does (.free :: entryBlocks) s { s with
      free := s.free + 1, cfg := { s.cfg with memory := memoryAfter s.cfg.memory source } } :=
    ((does_free s (s.free + 1)).mono rfl).trans ((does_cfg { s with free := s.free + 1 } _).mono rfl)
  split
  · exact h.trans ((does_loadImage _ _ _).mono rfl)
  · exact h.trans ((does_loadFallback _ _).mono rfl)

theorem does_endStore (o : StoreOutcome) (n : Nat) (id : BitVec 16) (m : SerialMem) (s : State) :
    Does [.cfg, .notices] s (endStore o n id m s) :=
  ((does_cfg s _).mono rfl).trans ((does_post _ _).mono rfl)

/-! ## Taps -/

theorem does_resendGuidance (s : State) : Does [.guide, .slots] s (resendGuidance s) := by
  dsimp only [resendGuidance]
  exact Does.ite (fun _ => does_markAllGuidance s) (fun _ => does_markFallbackGuidance s)

theorem does_resendLight (s : State) : Does [.light, .slots] s (resendLight s) := by
  dsimp only [resendLight]
  exact Does.ite (fun _ => does_markAllGroups s) (fun _ => does_markFallbackLight s)

theorem does_lightResendTap (s : State) : Does [.light, .slots] s (lightResendTap s) := by
  dsimp only [lightResendTap]
  exact Does.ite (fun _ => ((does_light s _).mono rfl).trans (does_resendLight _)) (fun _ => (does_light s _).mono rfl)

theorem does_guideResendTap (s : State) : Does [.guide, .slots] s (guideResendTap s) := by
  dsimp only [guideResendTap]
  exact Does.ite (fun _ => ((does_guide s _).mono rfl).trans (does_resendGuidance _)) (fun _ => (does_guide s _).mono rfl)

theorem does_rotationTap (s : State) : Does [.guide, .slots] s (rotationTap s) := by
  dsimp only [rotationTap]
  exact Does.ite (fun _ => ((does_guide s _).mono rfl).trans (does_advanceUnpaired _)) (fun _ => (does_guide s _).mono rfl)

theorem does_staleLevel (v : Nat) (e : OtherLevel) (s : State) :
    Does [.guide, .slots, .notices] s (staleLevel v e s) :=
  ((does_setLevel s v _).mono rfl).trans (((does_post _ _).mono rfl).trans ((does_guideLevels _ _).mono rfl))

theorem does_levelTap (v : Nat) (s : State) : Does [.guide, .slots, .notices] s (levelTap v s) := by
  dsimp only [levelTap]
  split
  · refine Does.ite (fun _ => .refl s) (fun _ => ?_)
    exact Does.ite (fun _ => does_staleLevel v _ s) (fun _ => (does_setLevel s v _).mono rfl)
  · exact .refl s

theorem does_loopsT32 (l : BitVec 8) (s : State) : Does loopBlocks s (loopsT32 l s) :=
  Does.foldl _ (fun t i => does_loopTap i _ t) _ s

theorem does_keysT32 (l : BitVec 2) (s : State) : Does stackBlocks s (keysT32 l s) :=
  Does.foldl _ (fun t k => does_keyTap k _ t) _ s

theorem does_pathsT32 (s : State) : Does [.light, .slots] s (pathsT32 s) := by
  dsimp only [pathsT32]
  exact Does.ite (fun _ => Does.foldl _ (fun t p => does_pathTap p t) _ s) (fun _ => .refl s)

/-- What a T32 tap can change. -/
abbrev t32Blocks : List Block := [.loops, .ovr, .air, .fan, .light, .guide, .slots, .notices]

theorem does_runT32 (l : BitVec 8) (k : BitVec 2) (s : State) (p : T32Part) : Does t32Blocks s (runT32 l k s p) := by
  dsimp only [runT32]
  refine Does.ite (fun _ => .refl s) (fun _ => ?_)
  cases p
  · exact (does_loopsT32 l s).mono rfl
  · exact (does_keysT32 k s).mono rfl
  · exact (does_pathsT32 s).mono rfl

theorem does_tapT32 (l : BitVec 8) (k : BitVec 2) (o : List T32Part) (s : State) :
    Does t32Blocks s (tapT32 l k o s) :=
  (Does.foldl _ (does_runT32 l k) _ s).trans ((does_fillSlots _).mono rfl)

theorem does_fansT4 (rdy : BitVec 12) (s : State) : Does [.fan, .guide, .slots, .notices] s (fansT4 rdy s) := by
  dsimp only [fansT4]
  have h : Does [.fan, .guide, .slots, .notices] s
      ((List.range 12).foldl (fun u n => fanTap n (rdy.getLsbD n) u) s) :=
    Does.foldl _ (fun t n => does_fanTap n _ t) _ s
  refine Does.ite (fun _ => h.trans ?_) (fun _ => h)
  exact Does.foldl _ (fun t n => (does_testBelow n t).mono rfl) _ _

/-- What a T4 tap can change. -/
abbrev t4Blocks : List Block := [.occ, .air, .fan, .light, .guide, .slots, .bus, .notices]

theorem does_runT4 (rdy : BitVec 12) (s : State) (p : T4Part) : Does t4Blocks s (runT4 rdy s p) := by
  dsimp only [runT4]
  refine Does.ite (fun _ => .refl s) (fun _ => ?_)
  cases p
  · exact (does_bayT4 s).mono rfl
  · exact (does_fansT4 rdy s).mono rfl
  · exact (does_busT4 s).mono rfl

theorem does_tapT4 (rdy : BitVec 12) (o : List T4Part) (s : State) : Does t4Blocks s (tapT4 rdy o s) :=
  (Does.foldl _ (does_runT4 rdy) _ s).trans ((does_fillSlots _).mono rfl)

theorem does_lightsT1 (s : State) : Does [.light, .slots] s (lightsT1 s) := by
  dsimp only [lightsT1]
  refine Does.trans ?_ (does_lightResendTap _)
  exact Does.ite (fun _ => Does.foldl _ (fun t g => does_stayTap g t) _ s) (fun _ => .refl s)

theorem does_guideT1 (s : State) : Does [.guide, .slots, .notices] s (guideT1 s) := by
  dsimp only [guideT1]
  refine Does.trans ?_ ((does_guideResendTap _).mono rfl)
  refine Does.ite (fun _ => ?_) (fun _ => .refl s)
  refine Does.trans ?_ ((does_rotationTap _).mono rfl)
  exact Does.foldl _ (fun t v => does_levelTap v t) _ s

theorem does_stackT1 (s : State) : Does stackBlocks s (stackT1 s) :=
  ((does_setStack s _).mono rfl).trans (does_expireEntries _)

/-- What a T1 tap can change. -/
abbrev t1Blocks : List Block := [.time, .loops, .ovr, .occ, .air, .fan, .light, .guide, .slots, .notices]

theorem does_runT1 (ain : Tab (BitVec 10) 8) (s : State) (p : T1Part) : Does t1Blocks s (runT1 ain s p) := by
  cases p
  · exact (does_time s _).mono rfl
  · exact Does.ite (fun _ => .refl s) (fun _ => (does_sounderTap s).mono rfl)
  · exact (does_airTap ain s).mono rfl
  · exact (does_bayT1 s).mono rfl
  · exact Does.ite (fun _ => .refl s) (fun _ => (does_fan s _).mono rfl)
  · exact Does.ite (fun _ => .refl s) (fun _ => (does_lightsT1 s).mono rfl)
  · exact (does_loopT1 s).mono rfl
  · exact Does.ite (fun _ => .refl s) (fun _ => (does_guideT1 s).mono rfl)
  · exact Does.ite (fun _ => .refl s) (fun _ => (does_stackT1 s).mono rfl)

theorem does_tapT1 (ain : Tab (BitVec 10) 8) (o : List T1Part) (s : State) : Does t1Blocks s (tapT1 ain o s) :=
  (Does.foldl _ (does_runT1 ain) _ s).trans ((does_fillSlots _).mono rfl)

/-! ## Requests -/

@[simp] theorem arrive_received {s : State} (h : s.link.resetDue = false) : arrive s = received s := by
  simp [arrive, received, h]

@[simp] theorem received_cfg (s : State) : (received s).cfg = s.cfg := rfl
@[simp] theorem received_time (s : State) : (received s).time = s.time := rfl
@[simp] theorem received_occ (s : State) : (received s).occ = s.occ := rfl
@[simp] theorem received_air (s : State) : (received s).air = s.air := rfl
@[simp] theorem received_fan (s : State) : (received s).fan = s.fan := rfl
@[simp] theorem received_light (s : State) : (received s).light = s.light := rfl
@[simp] theorem received_loops (s : State) : (received s).loops = s.loops := rfl
@[simp] theorem received_guide (s : State) : (received s).guide = s.guide := rfl
@[simp] theorem received_ovr (s : State) : (received s).ovr = s.ovr := rfl
@[simp] theorem received_bus (s : State) : (received s).bus = s.bus := rfl
@[simp] theorem received_free (s : State) : (received s).free = s.free := rfl
@[simp] theorem received_pending (s : State) : (received s).pending = s.pending := rfl

theorem does_received (s : State) : Does [.link] s (received s) := by
  refine .quiet (fun c hc => ?_) rfl
  cases c <;> first | rfl | exact ⟨rfl, rfl⟩ | exact ⟨rfl, rfl, rfl⟩ | simp at hc

/-- R195: a request that fits, on a part that takes requests, is its rule on the part as the request finds it. -/
theorem request_taken {α : Type} {kind : Nat} {always : Bool} {rule : α → State → State} {x : α} {s : State}
    (h : takesRequests s) : request kind always (.fits x) rule s = rule x (received s) := by
  obtain ⟨h1, h2, h3⟩ := h
  simp [request, h1, h2, loading, h3]

/-- R194: the same for a broadcast. -/
theorem broadcast_taken {α : Type} {rule : α → State → State} {x : α} {s : State} (h : takesRequests s) :
    broadcastIn (.fits x) rule s = rule x { s with link := { s.link with receiver := .hunting } } := by
  obtain ⟨h1, h2, h3⟩ := h
  simp [broadcastIn, h1, loading, h3]

/-- What a request does, given what its rule does. -/
theorem does_request {α : Type} {bs : List Block} {kind : Nat} {always : Bool} {rule : α → State → State} {x : α}
    {s : State} (h : takesRequests s) (k : ∀ t, Does bs t (rule x t)) (l : bs.contains .link = true) :
    Does bs s (request kind always (.fits x) rule s) := by
  rw [request_taken h]
  refine Does.trans ((does_received s).mono ?_) (k _)
  simpa using l

/-- The commanded reset leaves the law of the notice queue. -/
theorem queueLaw_start (straps : Straps) (c : Bool) (n : BitVec 32) : QueueLaw (Link.start straps c n) :=
  ⟨by simp [Link.start], by simp [Link.start], rfl⟩

theorem queueLaw_arrive {s : State} (h : QueueLaw s.link) : QueueLaw (arrive s).link := by
  dsimp only [arrive]
  split
  · exact queueLaw_start _ _ _
  · exact ⟨h.bounded, h.distinct, h.attn⟩

theorem queueLaw_request {α : Type} {kind : Nat} {always : Bool} {r : Req α} {rule : α → State → State} {s : State}
    (h : QueueLaw s.link) (k : ∀ x t, QueueLaw t.link → QueueLaw (rule x t).link) :
    QueueLaw (request kind always r rule s).link := by
  have ha := queueLaw_arrive h
  dsimp only [request]
  split
  · exact h
  · split
    · exact ⟨ha.bounded, ha.distinct, ha.attn⟩
    · split
      · exact ⟨ha.bounded, ha.distinct, ha.attn⟩
      · exact k _ _ ha

theorem does_unlessStoring {bs : List Block} {kind : Nat} {rule : State → State} {s : State}
    (h : Does bs s (rule s)) (l : bs.contains .link = true) : Does bs s (unlessStoring kind rule s) := by
  dsimp only [unlessStoring]
  exact Does.ite (fun _ => (does_answer s _ _ _).mono (by simpa using l)) (fun _ => h)

theorem does_inRunning {bs : List Block} {kind : Nat} {rule : State → State} {s : State}
    (h : Does bs s (rule s)) (l : bs.contains .link = true) : Does bs s (inRunning kind rule s) := by
  dsimp only [inRunning]
  exact Does.ite (fun _ => h) (fun _ => (does_answer s _ _ _).mono (by simpa using l))

end Sys2Proof.Machine
end

