-- ==== Sys2Proof/Tests/Slice0.lean ====
section
/-! SUPPORT. Our own tests: the well-formedness checks, the layouts of section 11.8, worked examples of the manual, and
for every statement with hypotheses a concrete state and operands that meet them. -/

namespace Sys2Proof.Tests

open Sys2Proof Sys2Proof.Machine

-- The kernel's evaluations go one after another, each with the whole memory limit to itself.
set_option Elab.async false

/-! ## Well-formedness: an ill-formed command for each check -/

theorem test_wellFormed_refuses_events :
    ([.loadEnd (.supplied ⟨[0xD6], emptyBody, 0, none⟩),
      .loadEnd (.supplied ⟨List.replicate 64 0, { emptyBody with cfg := { emptyCfg with
        inputs := Tab.fill 2 ⟨.close, 1, 0⟩ } }, 0, none⟩), .t32Tap 0 0 [.keys, .keys], .t4Tap 0 [.bus, .bus],
      .t1Tap (Tab.fill 8 0) [.air, .fans, .air], .warmupEnd 32 0, .sensorSilent 7, .sensorSilent 32, .doseRingAdvance 0,
      .creditDecay 16, .alarmHoldEnd 0, .bayState 0x100000 .present .ok, .gasValue 5 (.ok 65536),
      .gasValue 0x100000 .fault, .pedPresence 0x100000 .clear, .lumState 0x100000 .ok, .signState 0x100000 .ok,
      .announce 0x100000 .other, .settleExpiry 512, .reservationExpiry 512, .stayLitEnd 48, .pathStep 4, .readyTimeout 12,
      .readyLoss 12, .coastEnd 12, .loopOccupied 8, .loopRelease 8, .loopStuck 8, .sequenceTimeout 4, .levelStale 0,
      .levelStale 8, .inputActive 2, .inputRelease 2, .frameIgnored 256 0, .unknownKind 0x01, .unknownKind 0x80,
      .frameLenAbandoned 1, .frameLenAbandoned 251] : List Instr).all (fun i => !wellFormed i) = true := by
  decide +kernel

theorem test_wellFormed_refuses_records :
    ([.params 0 { defaultParams with settle := 256 }, .params 0 { defaultParams with minRun := 65536 },
      .params 0 { defaultParams with curve := Tab.fill 17 65536 }, .params 256 defaultParams, .zone 1 ⟨true, 65536, 0, 0, 0⟩,
      .zone 1 ⟨true, 0, 0, 0, 256⟩, .bay 65536 [], .sensor 0 ⟨true, .co, 256, 0, 0, 0, 0, 0, 0⟩,
      .sensor 0 ⟨true, .co, 0, 2 ^ 24, 0, 0, 0, 0, 0⟩, .sensor 0 ⟨true, .co, 0, 0, 65536, 0, 0, 0, 0⟩,
      .sensor 0 ⟨true, .co, 0, 0, 0, 0, 0, 0, 256⟩, .fan 0 ⟨true, 256, [], 0, Tab.fill 4 .off⟩,
      .fan 0 ⟨true, 0, [256], 0, Tab.fill 4 .off⟩, .fan 0 ⟨true, 0, [], 256, Tab.fill 4 .off⟩,
      .group 0 ⟨true, 256, 0, none, 0, 0, 0, 0⟩, .group 0 ⟨true, 0, 2 ^ 24, none, 0, 0, 0, 0⟩,
      .group 0 ⟨true, 0, 0, some (65536, 0), 0, 0, 0, 0⟩, .group 0 ⟨true, 0, 0, none, 0, 0, 65536, 0⟩,
      .presence 0 ⟨true, 2 ^ 24, 0⟩, .presence 0 ⟨true, 0, 256⟩, .path 0 ⟨true, 256, 0, 0, []⟩,
      .path 0 ⟨true, 0, 0, 0, [256]⟩, .pair 0 ⟨true, 256, none, .entry, 0, none⟩, .pair 0 ⟨true, 0, some 256, .entry, 0, none⟩,
      .pair 0 ⟨true, 0, none, .entry, 0, some 256⟩, .sign 0 true (2 ^ 24) none, .sign 0 true 0 (some 256),
      .face 0 256 absentFace, .face 0 0 { absentFace with level := 256 }, .face 0 0 { absentFace with minFree := 256 },
      .filter 256 absentFilter, .input 1 ⟨.boost, 0, 65536⟩, .misfit .bay 65536 0,
      .misfit .zone 256 0] : List CfgWrite).all (fun w => !wellFormed (.configWrite (.fits w))) = true := by
  decide +kernel

theorem test_wellFormed_refuses_requests :
    ([.setClock false (.fits (0, some 128)), .setClock true (.fits (0, some (-129))),
      .configRead (.fits (.record .zone 256 0)), .configRead (.fits (.record .bay 65536 0)),
      .configRead (.fits (.misfit .face 0 256)), .curveWrite (.fits (256, none)), .curveWrite (.fits (0, some [65536])),
      .mapWrite (.fits (2 ^ 24, 0)), .mapWrite (.fits (0, 65536)), .mapRemove (.fits (2 ^ 24)), .mapLookup (.fits (2 ^ 24)),
      .curveRead (.fits 256), .mapReadSet (.fits 256), .readZone (.fits 256), .readSensor (.fits 256), .readFan (.fits 256),
      .readGroup (.fits 256), .readSign (.fits 256), .fanClear (.fits 256), .overrideRemove (.fits 256),
      .readBays (.fits (65536, 1)), .readBays (.fits (0, 256)), .bayReserve (.fits (65536, 1)), .bayReserve (.fits (0, 65536)),
      .bayRelease (.fits 65536), .bayClose (.fits 65536), .bayOpen (.fits 65536), .levelCounts true (.fits [(256, 0)]),
      .levelCounts false (.fits [(1, 65536)]), .overridePush (.fits ⟨256, 0, 0, none⟩), .overridePush (.fits ⟨0, 0, 65536, none⟩),
      .overridePush (.fits ⟨0, 0, 0, some 65536⟩)] : List Instr).all (fun i => !wellFormed i) = true := by
  decide +kernel

theorem test_wellFormed_takes :
    ([.t1Tap (Tab.fill 8 1023) [.air, .clock], .bayState 0xFFFFF .vacant .fault, .frameLenAbandoned 252, .unknownKind 0x7F,
      .setClock true (.fits (0, some (-128))), .readBays .misfit] : List Instr).all wellFormed = true := by
  decide +kernel

/-! ## Layouts (section 11.8) -/

/-- The check value that section 11.8 gives for "123456789". -/
theorem test_crc16 : crc16 [0x31, 0x32, 0x33, 0x34, 0x35, 0x36, 0x37, 0x38, 0x39] = 0x29B1 := by decide +kernel

/-- The image header, its CRC computed by hand over bytes 0..11. -/
theorem test_headerPage : (headerPage 7 0x1234).take 14
    = [0xD6, 0x3C, 0x40, 0x5A, 0x00, 0x01, 0x00, 0x07, 0x3F, 0xC0, 0x12, 0x34, 0x40, 0xDE]
    ∧ (headerPage 7 0x1234).length = 64 := by decide +kernel

/-- Received frames: class, kind code and address written out bit by bit, then the data bytes. -/
theorem test_receivedFrame :
    receivedFrame ⟨0b001_000001_00000000000100000001, [0x00, 0x01]⟩ = .bayState 0x101 .present .fault ∧
    receivedFrame ⟨0b001_000010_00000000001000001000, [0x00, 0x01, 0x2C]⟩ = .gasValue 0x208 (.ok 300) ∧
    receivedFrame ⟨0b000_000011_00000000010000000000, [0x01]⟩ = .pedPresence 0x400 .clear ∧
    receivedFrame ⟨0b110_000100_00000000001100000000, [0x01]⟩ = .lumState 0x300 .fault ∧
    receivedFrame ⟨0b110_000101_00000000010100000000, [0x00]⟩ = .signState 0x500 .ok ∧
    receivedFrame ⟨0b111_000110_11111111111111111110, [0x05]⟩ = .announce 0xFFFFE .other ∧
    receivedFrame ⟨0b011_010001_00000000010100000000, [0, 1, 0, 5, 0xFF]⟩ = .fieldFrameDiscarded .sentKind ∧
    receivedFrame ⟨0b001_000111_00000000000000000001, [0]⟩ = .fieldFrameDiscarded .unknownKind ∧
    receivedFrame ⟨0b001_000001_11111111111111111111, [0, 0]⟩ = .fieldFrameDiscarded .notDevice ∧
    receivedFrame ⟨0b001_000001_00000000000000000001, [0, 2]⟩ = .fieldFrameDiscarded .malformed := by decide +kernel

/-- A SIGN_FACE frame of face 2 of sign 0x500 with an arrow, and a LUM_LEVEL broadcast. -/
theorem test_slotFrame :
    slotFrame ⟨.face 0x500 2, .face (.arrow 12 3), 0, true, false⟩
      = ⟨0b011_010001_00000000010100000000, [0x02, 0x04, 0x00, 0x0C, 0x03]⟩ ∧
    slotFrame ⟨.groupAll, .level ⟨1023, 0⟩, 0, true, false⟩
      = ⟨0b100_010010_11111111111111111111, [0x03, 0xFF, 0x00]⟩ := by decide +kernel

/-- Whole frames after their SYNC, the CRCs computed by hand: GET_CLOCK, a broadcast SET_CLOCK, MAP_WRITE and
OVERRIDE_PUSH; the same GET_CLOCK with a wrong CRC; a LEN of 0. -/
theorem test_frameBytes :
    frameBytes ⟨0, 0⟩ State.reset [0x01, 0x01, 0x05, 0x98, 0x38] = .getClock (.fits ()) ∧
    frameBytes ⟨0, 0⟩ State.reset [0x00, 0x06, 0x04, 0x00, 0x00, 0x12, 0x34, 0x00, 0x72, 0xE8]
      = .setClock true (.fits (0x1234, none)) ∧
    frameBytes ⟨0, 0⟩ State.reset [0x01, 0x06, 0x20, 0x00, 0x01, 0x01, 0x00, 0x0A, 0x02, 0x0E]
      = .mapWrite (.fits (0x101, 10)) ∧
    frameBytes ⟨0, 0⟩ State.reset [0x01, 0x07, 0x50, 0x01, 0x00, 0x02, 0x03, 0x20, 0x00, 0x29, 0xA0]
      = .overridePush (.fits ⟨1, 0x0002, 800, none⟩) ∧
    frameBytes ⟨0, 0⟩ State.reset [0x01, 0x01, 0x05, 0x98, 0x39] = .frameCrcMismatch ∧
    frameBytes ⟨0, 0⟩ State.reset [0x01, 0x00] = .frameLenAbandoned 0 := by decide +kernel

/-- Bodies of section 11.8: a CURVE_WRITE whose outputs are cut short keeps its block, a PARAMS record cut short keeps its
index, and a code that no list holds still spells the command. -/
theorem test_requestOf :
    requestOf ⟨0, 0⟩ 0x15 [0x10, 0x02, 0x00, 0x01] = .curveWrite (.fits (16, none)) ∧
    requestOf ⟨0, 0⟩ 0x15 [] = .curveWrite .misfit ∧
    requestOf ⟨1, 2⟩ 0x03 [] = .reset (.fits ⟨1, 2⟩) ∧
    requestOf ⟨0, 0⟩ 0x11 [0x00, 0x00, 0x0C] = .configWrite (.fits (.misfit .params 0 0)) ∧
    (∃ k, requestOf ⟨0, 0⟩ 0x11 [0x02, 0x00, 0x05, 0x01, 0x09] = .configWrite (.fits (.bay 5 [k]))) :=
  ⟨by decide +kernel, by decide +kernel, by decide +kernel, by decide +kernel, _, rfl⟩

/-- Section 11.8: bit 0 of a zone mask is ignored and sent as 0. -/
theorem test_zone_masks :
    inputBytes (takeInput ⟨.boost, 0xFFFF, 800⟩) = [0x01, 0xFF, 0xFE, 0x03, 0x20] ∧
    (match takeFace { absentFace with kind := .decision, candidates := [⟨0x0003, 5⟩] } with
      | .ok r => faceBytes r
      | .error _ => []) = [0x00, 0x02, 0x00, 0x01, 0x00, 0x02, 0x05, 0x01] := by decide +kernel

/-- A notice record: a bay subject above 255 in the high byte of the value. -/
theorem test_noticeBytes :
    noticeBytes ⟨.bayDetector 300 .silent, 0x01020304⟩ = [0x06, 0x2C, 0x01, 0, 0, 0x01, 0x01, 0x02, 0x03, 0x04] ∧
    noticeBytes ⟨.fanState 11 .fault (some .readyLost), 5⟩ = [0x03, 0x0B, 0x05, 0x01, 0, 0, 0, 0, 0, 5] ∧
    noticeBytes ⟨.storeDone .failed 0x1234 256, 5⟩ = [0x10, 0, 0x12, 0x34, 0x81, 0x00, 0, 0, 0, 5] := by decide +kernel

/-! ## Worked examples of the manual -/

/-- Section 2.15: the sensor of zone 3 at its tap, and the zone stage on it. -/
def workedSensor : SensorRec := ⟨true, .co, 3, 0, 0, 204, 1020, 3000, 4⟩
def workedZone : ZoneAir :=
  { ZoneAir.start with ring := (Tab.fill 16 ⟨0, 0⟩).put 0 ⟨741084, 1023⟩, index := 9, sample := 63, e := 60, state := .clear }

theorem test_sample_of_section_2_15 :
    convert workedSensor 398 = (.ok, some 713) ∧ filterStep 4 640 713 = 658 ∧
    indices defaultParams .co 658 = ⟨658, 658, 1316⟩ ∧
    (let y := zoneStage defaultParams 500 [⟨658, 658, 1316⟩] workedZone
     [y.s, y.l, y.twa, y.e, y.z, y.lastD, y.sample, ringSum y] = [658, 1316, 725, 60, 785, 492, 0, 742400]
       ∧ y.state = .elevated) := by decide +kernel

/-- R32 and section 2.16: a broken wire, the two ends of the scale and an over-range reading; the filter's residual. -/
theorem test_convert_and_residual :
    convert workedSensor 183 = (.faultLow, none) ∧ convert workedSensor 184 = (.ok, some 0) ∧
    convert workedSensor 1020 = (.ok, some 3000) ∧ convert workedSensor 1021 = (.over, some 3000) ∧
    filterStep 1 712 713 = 712 ∧ filterStep 1 712 720 = 713 := by decide +kernel

/-- R45: points and segments of the default curve. -/
theorem test_default_curve :
    [600, 499, 500, 1375, 2000].map (curveDemand defaultParams) = [270, 148, 150, 1000, 1000] := by decide +kernel

/-- R50, R51: a rise at a threshold, the hysteresis below it, and the hold of an alarm. -/
theorem test_air_states :
    nextKnown defaultParams 1000 0 .clear = .high ∧ nextKnown defaultParams 950 0 .high = .high ∧
    nextKnown defaultParams 949 0 .high = .elevated ∧ nextKnown defaultParams 0 1 .alarm = .alarm := by decide +kernel

/-- Section 3.10, taps 11 to 13 and 41: the release at the minimum run, the dwell, and the start in the old direction. -/
def stoppingFan : Channel :=
  { Channel.start with state := .stopping, reference := 320, driven := some .forward, rdy := true
                       aim := ⟨500, none, 500, some .reverse, .run⟩ }

theorem test_fan_of_section_3_10 :
    let tap11 := stepChannel defaultParams stoppingFan
    let tap12 := stepChannel defaultParams tap11
    let tap13 := stepChannel defaultParams tap12
    let tap41 := stepChannel defaultParams { tap13 with coast := 23, aim := ⟨500, none, 500, some .forward, .run⟩ }
    (tap11.state, tap11.reference) = (.stopping, 300) ∧
    tap12 = { tap11 with state := .stopped, reference := 0, driven := none, coast := 30 } ∧
    tap13 = { tap12 with state := .dwell } ∧ (tap41.state, tap41.reference, tap41.coast) = (.starting, 300, 0) := by
  decide +kernel

/-- Section 2.15, last paragraph: fan 5 ramps from 400 to the demand of 492; and the ramp down to it. -/
theorem test_ramp :
    ramp defaultParams 492 400 = 420 ∧ ramp defaultParams 492 480 = 492 ∧ ramp defaultParams 492 505 = 492 ∧
    ramp defaultParams 0 310 = 300 := by decide +kernel

/-- R176: under correction +5 the cycles 209715, 419430, … advance by two, and under −127 the cycles 8256, … by none. -/
theorem test_adjusted_cycles :
    advance 5 209715 = 2 ∧ advance 5 1048575 = 2 ∧ advance 5 1048576 = 1 ∧ advance 5 209714 = 1 ∧
    advance (-127) 8256 = 0 ∧ advance (-127) 1048512 = 0 ∧ advance (-127) 8255 = 1 ∧ advance 0 1 = 1 := by decide +kernel

/-- Section 6.11, steps 1, 2 and 4: the tree turned away from the choice, and the selection. -/
theorem test_tree_of_section_6_11 :
    let t0 : Tree := ⟨false, false, false⟩
    let t1 := turnAway t0 0
    let t2 := turnAway t1 2
    let t4 := turnAway t2 0
    t1 = ⟨true, true, false⟩ ∧ select t1 [0, 1, 2, 3] = some 2 ∧ t2 = ⟨false, true, true⟩ ∧
    select t2 [0, 1, 2, 3] = some 1 ∧ select t2 [0, 2, 3] = some 0 ∧ t4 = ⟨true, true, true⟩ ∧
    select t4 [0, 2, 3] = some 3 ∧ select t4 [0, 2] = some 2 := by decide +kernel

/-- Section 7.7: the override stack after step 8: the effective forces, the profile, the light and the floor. -/
def busyStack : List Entry :=
  [⟨1, .fanForce, 0b1100, 0, none, .link⟩, ⟨2, .profile, 0, 1, some 600, .link⟩, ⟨3, .lightLevel, 0b110, 100, none, .link⟩,
   ⟨4, .ventBoost, 0b11110, 700, some 120, .link⟩, ⟨5, .zoneClose, 0b100000, 0, none, .in1⟩,
   ⟨6, .fanForce, 0b100, 800, none, .link⟩, ⟨7, .sounderMute, 0, 0, none, .link⟩, ⟨8, .lightLevel, 0b100, 255, none, .link⟩]

theorem test_stack_of_section_7_7 :
    effectiveForce busyStack 2 = some (6, 800) ∧ effectiveForce busyStack 3 = some (1, 0) ∧
    activeProfile busyStack = 1 ∧ (lightEntry busyStack 1).map (·.id) = some 3 ∧
    (lightEntry busyStack 2).map (·.id) = some 8 ∧ ventFloor busyStack 4 = 700 ∧ ventFloor busyStack 5 = 0 := by
  decide +kernel

/-! ## Witnesses: for every statement with hypotheses, states and operands that meet them -/

/-- A small level: zone 1; an analog sensor, a field sensor at 0x208; fans 0 and 11; groups 0 at 0x300 with bays 10..29
and 47 at 0x301; a pedestrian detector at 0x400; paths 0 and 3 of pair 0 and path 2, without a start delay, of pair 3; the
ENTRY pairs 0 of two loops and 3 of one, and the DECISION pair 2; sign 0 at 0x500 with
a COUNT face and a DECISION face; a boost key and a mute key. -/
def tCfg : Cfg := { emptyCfg with
  zones := emptyCfg.zones.put 1 ⟨true, 0, 32, 500, 1⟩
  sensors := (emptyCfg.sensors.put 0 ⟨true, .co, 1, 0, 60, 204, 1020, 3000, 4⟩).put 31 ⟨true, .co, 1, 0x208, 60, 0, 0, 3000, 4⟩
  fans := (emptyCfg.fans.put 0 ⟨true, 1, [], 0, Tab.fill 4 .forward⟩).put 11 ⟨true, 1, [], 0, Tab.fill 4 .forward⟩
  groups := (emptyCfg.groups.put 0 ⟨true, 1, 0x300, some (10, 20), 40, 200, 120, 4⟩).put 47
    ⟨true, 1, 0x301, none, 40, 200, 120, 4⟩
  presence := emptyCfg.presence.put 31 ⟨true, 0x400, 0⟩
  paths := ((emptyCfg.paths.put 0 ⟨true, 0, 8, 16, [0, 47]⟩).put 2 ⟨true, 3, 0, 16, [47, 0]⟩).put 3 ⟨true, 0, 8, 16, [47]⟩
  pairs := ((emptyCfg.pairs.put 0 ⟨true, 0, some 1, .entry, 1, none⟩).put 2 ⟨true, 5, some 6, .decision, 1, some 0⟩).put 3
    ⟨true, 7, none, .entry, 1, none⟩
  signs := emptyCfg.signs.put 0 ⟨true, 0x500, none,
    ((Tab.fill 4 absentFace).put 0 ⟨true, .count, 2, 15, 1, [], 1⟩).put 3 ⟨true, .decision, 0, 15, 1, [⟨2, 6⟩], 1⟩⟩
  inputs := (emptyCfg.inputs.put 0 ⟨.boost, 2, 800⟩).put 1 ⟨.mute, 0, 0⟩ }

/-- Addresses 1, 257 and 0xFFFFE bound to bays 0, 10 and 511. -/
def tMap : DetMap :=
  mapPut (mapPut (mapPut emptyMap 1 0 (some ⟨0, 0⟩)) 1 1 (some ⟨2, 10⟩)) 126 3 (some ⟨8191, 511⟩)

/-- The small level in RUNNING. -/
def live : State := { State.reset with
  cfg := { State.reset.cfg with state := .running, inForce := tCfg, working := tCfg, map := tMap }
  occ := { State.reset.occ with bays := ((State.reset.occ.bays.modify 0 (fun x => { x with zone := 1, detector := some 1 })).modify 10
    (fun x => { x with zone := 1, detector := some 257 })).modify 511 (fun x => { x with detector := some 0xFFFFE }) } }

def withBay (b : Nat) (f : Bay → Bay) (s : State) : State :=
  { s with occ := { s.occ with bays := s.occ.bays.modify b f } }
def withChannel (n : Nat) (f : Channel → Channel) (s : State) : State :=
  { s with fan := { s.fan with channels := s.fan.channels.modify n f } }
def withZoneAir (z : Nat) (f : ZoneAir → ZoneAir) (s : State) : State :=
  { s with air := { s.air with zones := s.air.zones.modify z f } }
def withSensor (n : Nat) (f : Sensor → Sensor) (s : State) : State :=
  { s with air := { s.air with sensors := s.air.sensors.modify n f } }
def withGroup (g : Nat) (f : Group → Group) (s : State) : State :=
  { s with light := { s.light with groups := s.light.groups.modify g f } }
def withLoop (i : Nat) (f : LoopInput → LoopInput) (s : State) : State :=
  { s with loops := { s.loops with inputs := s.loops.inputs.modify i f } }
def withPair (p : Nat) (f : PairRun → PairRun) (s : State) : State :=
  { s with loops := { s.loops with pairs := s.loops.pairs.modify p f } }
def withKey (k : Nat) (x : Key) (s : State) : State := { s with ovr := { s.ovr with keys := s.ovr.keys.put k x } }
def withSlot (i : Nat) (x : Slot) (s : State) : State := { s with bus := { s.bus with slots := s.bus.slots.put i (some x) } }
def inState (x : ConfigState) (s : State) : State := { s with cfg := { s.cfg with state := x } }

theorem meets_StepRunsTheFrontCommand :
    ({ State.reset with pending := [.frameSync, .replyEnd] } : State).pending = .frameSync :: [.replyEnd] := rfl

/-- Cycle 8256 is adjusted under correction −127, cycle 1 is not. -/
theorem meets_IdleStepCountsOneCrystalCycle :
    let s : State := { State.reset with time := { Time.start with cycle := 8256, correction := -127 } }
    TimeLaw s.time ∧ s.pending = [] ∧ adjustedCycle (-127) 8256 ∧
    TimeLaw State.reset.time ∧ State.reset.pending = [] ∧ ¬ adjustedCycle 0 State.reset.time.cycle := by
  refine ⟨⟨by decide, by decide, by decide, by simp [Time.start]⟩, rfl, ⟨1, by decide⟩,
    ⟨by decide, by decide, by decide, by simp [State.reset, Time.start]⟩, rfl, ?_⟩
  rintro ⟨j, h, h', -⟩
  simp at h'
  omega

theorem meets_WindowAdvancesByItsCorrection : (127 : Int).natAbs ≤ 127 ∧ (-127 : Int).natAbs ≤ 127 := by decide

theorem meets_ResetsLeaveTheResetValues :
    let s : State := { live with link := { live.link with resetDue := true } }
    s.link.resetDue = true ∧ s.link.reply = none ∧ s.link.de = false := by decide +kernel

theorem emptyBody_inRange : ∀ r ∈ decodeOrder, recordInRange emptyBody r = true := by
  simp only [decodeOrder, List.forall_mem_append, recordsOf, List.mem_flatMap, List.mem_map]
  and_intros
  all_goals first
    | (rintro _ ⟨i, hi, j, hj, rfl⟩
       simp only [List.mem_range] at hi hj
       simp [recordInRange, emptyBody, emptyCfg, emptyMap, hi, hj, stored, absentSign])
    | (rintro _ ⟨i, hi, rfl⟩
       simp [zoneIndices, span] at hi
       first
         | (simp [recordInRange, emptyBody, emptyCfg, hi, stored, absentSign, takeFilter, absentFilter]; done)
         | (subst hi; decide +kernel)
         | (obtain ⟨k, hk, rfl⟩ := hi; simp [recordInRange, emptyBody, emptyCfg, show k + 1 < 16 by omega, stored])
         | (rcases hi with rfl | rfl <;> decide +kernel)
         | (simp [recordInRange, emptyBody, defaultDimming, hi]; omega))

theorem emptyBody_decodes : firstUndecoded emptyBody none = none := by
  have h : decodeOrder.find? (fun r => (none : Option RecRef) == some r || !recordInRange emptyBody r) = none := by
    rw [List.find?_eq_none]
    intro r hr
    simp [emptyBody_inRange r hr]
  rw [firstUndecoded, h]
  rfl

theorem emptyBody_valid : validate emptyBody.cfg emptyBody.map = none := by decide +kernel

/-- R183: an image that passes every check loads. -/
theorem supplied_loads (s : State) (im : ImageRead) (h1 : im.page0.take 4 = imageMarker)
    (h2 : word16 im.page0 12 = crc16 (im.page0.take 12)) (h3 : word16 im.page0 4 = 0x0001)
    (h4 : word16 im.page0 8 = 0x3FC0) (h5 : word16 im.page0 10 = im.bodyCrc)
    (h6 : firstUndecoded im.body im.undecoded = none) (h7 : validate im.body.cfg im.body.map = none) :
    checkSource s (.supplied im) = .ok (im.body, word16 im.page0 6) := by
  simp [checkSource, checkImage, h1, h2, h3, h4, h5, h6, h7]

theorem held_blank : checkSource State.reset .held = .error .noImage := by
  rw [checkSource, checkHeld]
  decide +kernel

theorem page_fits : (headerPage 41 0x1234).take 4 = imageMarker ∧
    word16 (headerPage 41 0x1234) 12 = crc16 ((headerPage 41 0x1234).take 12) ∧
    word16 (headerPage 41 0x1234) 4 = 0x0001 ∧ word16 (headerPage 41 0x1234) 8 = 0x3FC0 ∧
    word16 (headerPage 41 0x1234) 10 = 0x1234 ∧ word16 (headerPage 41 0x1234) 6 = 41 := by decide +kernel

theorem meets_LoadEndsInRunningOrFallback :
    loading State.reset = true ∧
    checkSource State.reset (.supplied ⟨headerPage 41 0x1234, emptyBody, 0x1234, none⟩) = .ok (emptyBody, 41) ∧
    checkSource State.reset .held = .error .noImage := by
  obtain ⟨h1, h2, h3, h4, h5, h6⟩ := page_fits
  refine ⟨rfl, ?_, held_blank⟩
  rw [← h6]
  exact supplied_loads _ _ h1 h2 h3 h4 h5 emptyBody_decodes emptyBody_valid

theorem meets_CorrectionAndClockAreSet : takesRequests live ∧ takesRequests (inState .editing live) ∧
    takesRequests (inState .fallback live) ∧ ¬ takesRequests State.reset ∧ State.reset.time.cycle = 1 ∧
    ({ live with time := { live.time with cycle := windowCycles } } : State).time.cycle ≠ 1 := by
  simp [takesRequests, inState, live, State.reset, ConfigUnit.start, Link.start, Time.start, windowCycles]

/-- R177: a correction written between CORRECTION_WINDOW and cycle 1 of the window it begins acts from the window after. -/
theorem test_correction_after_the_window_begins :
    ({ Time.start with nextCorrection := some 5 } : Time).tick = ⟨1, 2, 5, none, 0, false, false⟩ ∧
    ({ Time.start with nextCorrection := some 5, begun := true } : Time).tick = ⟨1, 2, 0, some 5, 0, false, false⟩ := by
  decide +kernel

theorem meets_T1TapCountsSecondsAndCoasts :
    loading live = false ∧ loading State.reset = true ∧ (11 : Nat) < 12 ∧ (7 : Nat) < 8 ∧
    (live.cfg.inForce.sensors.nth 31).present = true ∧ (live.cfg.inForce.sensors.nth 7).present = false := by
  decide +kernel

/-- R31: a T1 tap in LOADING converts the input of slot 7, which is not present, and leaves the warm-up of slot 0. -/
theorem test_conversion_in_loading :
    let s := withSensor 0 (fun x => { x with warmup := 5 }) (inState .loading live)
    let t := airTap ((Tab.fill 8 0).put 7 1023) s
    (t.air.sensors.nth 7).raw = 1023 ∧ (t.air.sensors.nth 0).warmup = 5 ∧ (airTap (Tab.fill 8 0) (inState .editing s)).air.sensors.nth 0
      = { s.air.sensors.nth 0 with warmup := 4 } := by decide +kernel

theorem meets_T4TapStepsEveryDrivenFan : loading live = false ∧ fanDriven live 11 = true ∧ fanDriven live 1 = false := by
  decide +kernel

theorem meets_T32TapFiltersTheLoops :
    let s := withLoop 7 (fun x => { x with supervised := true, filter := 3 }) live
    loading s = false ∧ (s.loops.inputs.nth 7).supervised = true ∧ (s.loops.inputs.nth 7).state = .clear ∧
    (0x80 : BitVec 8).getLsbD 7 = true ∧ (0x80 : BitVec 8).getLsbD 0 = false := by decide +kernel

/-- Channels in each state: at rest with a second of coast and with none, and driven with the last tap of a wait. -/
theorem meets_FanStepFollowsTheTables :
    let toward : FanAim := ⟨500, none, 500, some .forward, .run⟩
    let away : FanAim := ⟨500, none, 500, some .reverse, .run⟩
    let rest := { Channel.start with coast := 1, aim := away }
    let driven := { stoppingFan with aim := toward, rdy := false, reference := 300 }
    (rest.state = .stopped ∧ rest.aim.call = .run ∧ rest.aim.wanted = some .reverse ∧ 0 < rest.coast ∧ .reverse ≠ rest.last) ∧
    (stepChannel defaultParams rest).state = .dwell ∧
    (stepChannel defaultParams { rest with coast := 0 }).state = .starting ∧
    (stepChannel defaultParams { driven with state := .starting, ready := 30 }).ready = 31 ∧
    (stepChannel defaultParams { driven with state := .starting, ready := 31 }).reason = some .noReady ∧
    (stepChannel defaultParams { driven with state := .running, ready := 6 }).reference = 320 ∧
    (stepChannel defaultParams { driven with state := .running, ready := 7 }).reason = some .readyLost ∧
    (stepChannel defaultParams { driven with state := .running, rdy := true, aim := away }).state = .stopping ∧
    (stepChannel defaultParams { driven with rdy := true }).state = .running ∧
    (stepChannel defaultParams { driven with rdy := true, aim := away }).state = .stopped := by decide +kernel

/-! Laws: a quiet level in RUNNING, with zone 1 FULL and its fan 0, and a command in front of its queue. -/

def quietCfg : Cfg := { emptyCfg with
  zones := emptyCfg.zones.put 1 ⟨true, 0, 0, 500, 1⟩
  fans := emptyCfg.fans.put 0 ⟨true, 1, [], 0, Tab.fill 4 .forward⟩ }

def quiet : State := { State.reset with
  cfg := { State.reset.cfg with state := .running, inForce := quietCfg, working := quietCfg }
  air := { State.reset.air with zones := State.reset.air.zones.put 1 { ZoneAir.start with demand := 500 } }
  guide := { State.reset.guide with status := State.reset.guide.status.put 1 ⟨.full, .nothing⟩ }
  pending := [.frameSync] }

theorem quiet_zone {z : Nat} (h : zonePresent quiet.cfg.inForce z = true) : z = 1 := by
  by_contra hz
  simp [zonePresent, quiet, quietCfg, emptyCfg, Tab.nth_put, hz] at h
  by_cases hz' : z < 16 <;> simp_all [absentZone]
  exact absurd h.2 (by decide)

theorem quiet_tuned : Tuned quietCfg where
  curve := by decide +kernel
  minRun := by decide
  fallbackSpeed := by decide
  demands := by decide +kernel
  weights := by decide +kernel

theorem meets_CountersAndNoticesKeepTheirLaws :
    (∃ t, step quiet = .next t) ∧ TimeLaw quiet.time ∧ CountLaw quiet.loops ∧ QueueLaw quiet.link :=
  ⟨⟨_, rfl⟩, ⟨by decide, by decide, by decide, by simp [quiet, State.reset, Time.start]⟩,
    ⟨by decide, by decide +kernel⟩, ⟨by decide, by simp [quiet, State.reset, Link.start], rfl⟩⟩

theorem meets_StackAndSounderKeepTheirLaws :
    (∃ t, step quiet = .next t) ∧ StackLaw quiet.ovr.stack ∧ SounderLaw quiet ∧ StackLaw busyStack := by
  have h : alarmZones quiet = [] := by decide +kernel
  have hs : quiet.ovr.sounder = .silent := rfl
  refine ⟨⟨_, rfl⟩, ⟨by decide, by decide, by decide, by decide⟩, ⟨?_, ?_⟩, ⟨by decide, by decide, by decide, by decide⟩⟩
  · simp [h, hs]
  · simp [h, hs]

theorem quiet_cfgLaw : CfgLaw quiet := ⟨quiet_tuned, quiet_tuned⟩

theorem quiet_airLaw : AirLaw quiet := by
  refine ⟨fun z hz => ?_, fun n hn => ?_⟩
  · have h : quiet.air.zones.nth z = if z = 1 then { ZoneAir.start with demand := 500 } else ZoneAir.start := by
      by_cases h1 : z = 1 <;> simp [quiet, State.reset, Air.start, Tab.nth_put, hz, h1]
    rw [h]
    split <;> constructor <;> decide +kernel
  · simp [SensorLaw, quiet, State.reset, Air.start, Sensor.start, hn]

theorem quiet_fanLaw : FanLaw quiet := by
  refine ⟨fun n hn => ?_, fun h => absurd h (by decide)⟩
  have h : quiet.fan.channels.nth n = Channel.start := by simp [quiet, State.reset, FanDrive.start, hn]
  rw [h]
  constructor <;> simp [Channel.start]

theorem meets_TuningValuesStayInRange : CfgLaw quiet ∧ ∃ t, step quiet = .next t := ⟨quiet_cfgLaw, _, rfl⟩

theorem meets_AirValuesStayInRange :
    CfgLaw quiet ∧ StackLaw quiet.ovr.stack ∧ AirLaw quiet ∧ (∃ t, step quiet = .next t) ∧
    ([⟨658, 658, 1316⟩] : List Filtered) ≠ [] :=
  ⟨quiet_cfgLaw, ⟨by decide, by decide, by decide, by decide⟩, quiet_airLaw, ⟨_, rfl⟩, by simp⟩

theorem meets_FanReferencesKeepTheirLaw :
    CfgLaw quiet ∧ StackLaw quiet.ovr.stack ∧ AirLaw quiet ∧ FanLaw quiet ∧ ∃ t, step quiet = .next t :=
  ⟨quiet_cfgLaw, ⟨by decide, by decide, by decide, by decide⟩, quiet_airLaw, quiet_fanLaw, _, rfl⟩

/-- The largest fan index too. -/
theorem meets_ComputedTargetComesFromTheDemands :
    running quiet = true ∧ (quiet.cfg.inForce.fans.nth 0).present = true ∧ CfgLaw quiet ∧ AirLaw quiet ∧
    running live = true ∧ (live.cfg.inForce.fans.nth 11).present = true :=
  ⟨by decide, by decide +kernel, quiet_cfgLaw, quiet_airLaw, by decide, by decide +kernel⟩

theorem quiet_bay {b : Nat} (h : b < 512) : bayOf quiet b = Bay.start := by
  simp [bayOf, quiet, State.reset, Occupancy.start, h]

theorem meets_BaysCountsAndMapKeepTheirLaws :
    (∃ t, step quiet = .next t) ∧ BayLaw quiet ∧ FreeLaw quiet ∧ MapLaw quiet := by
  have hm : mapEntries quiet.cfg.map = [] := by decide +kernel
  refine ⟨⟨_, rfl⟩, fun b hb => ?_, ⟨fun z k hz => ?_, fun h => absurd h (by decide)⟩, ⟨?_, ?_, fun b hb => ?_⟩⟩
  · rw [quiet_bay hb]; decide
  · rw [quiet_zone hz, freeBays, List.filter_eq_nil_iff.2]
    · cases k <;> decide +kernel
    · intro b hb
      simp [quiet_bay (List.mem_range.1 hb), Bay.start]
  · simp [hm]
  · simp [hm]
  · rw [hm, quiet_bay hb]; rfl

theorem quiet_slot (i : Nat) : quiet.bus.slots.nth i = none := by
  by_cases h : i < 16 <;> simp [quiet, State.reset, FieldBus.start, h]
  rfl

theorem meets_FieldBusKeepsItsLaw : (∃ t, step quiet = .next t) ∧ SlotLaw quiet.bus ∧ BusLaw quiet.bus := by
  have h : filledSlots quiet.bus = [] := by simp [filledSlots, quiet_slot]
  refine ⟨⟨_, rfl⟩, ⟨by simp [h], by simp [h], by simp [quiet_slot]⟩, ?_⟩
  constructor <;> decide

theorem fillLaw_of_none {s : State} (h : waitingDests s = []) : FillLaw s := by simp [FillLaw, h]

theorem quiet_fillLaw : FillLaw quiet := by
  have h : waitingDests quiet = [] := by decide +kernel
  simp [FillLaw, h]

/-- The quiet level while an image store runs, in EDITING and in FALLBACK. -/
def storingQuiet : State := { quiet with cfg := { quiet.cfg with activity := .storing 0 1 emptyBody } }

theorem storing_fillLaw : FillLaw storingQuiet := fillLaw_of_none (show waitingDests quiet = [] by decide +kernel)
theorem editing_fillLaw : FillLaw (inState .editing quiet) :=
  fillLaw_of_none (show waitingDests quiet = [] by decide +kernel)
theorem fallback_fillLaw : FillLaw (inState .fallback quiet) :=
  fillLaw_of_none (show waitingDests quiet = [] by decide +kernel)

theorem meets_NoDestinationWaitsBesideAFreeSlot : FillLaw quiet ∧ ∃ t, step quiet = .next t := ⟨quiet_fillLaw, _, rfl⟩

theorem meets_ZoneConditionsFollowTheirInputs :
    (∃ t, step quiet = .next t) ∧ DemandLaw quiet ∧ StatusLaw quiet ∧ VentLaw quiet ∧ DarkLaw quiet := by
  refine ⟨⟨_, rfl⟩, fun _ z hz => ?_, fun _ z hz => ?_, fun _ z hz => ?_, fun _ z hz => ?_⟩ <;> rw [quiet_zone hz]
  · exact ⟨⟨by decide, .inl (by decide +kernel)⟩, by decide +kernel⟩
  all_goals decide +kernel

/-- R47, R48: the demands of a zone with a contributor, of an UNKNOWN zone under a boost, and of a zone held in ALARM. -/
theorem test_demand :
    demandOf 500 { ZoneAir.start with contributors := 1, lastD := 300, floor := 200, state := .clear } = 300 ∧
    demandOf 500 { ZoneAir.start with floor := ventFloor busyStack 4, state := .unknown } = 700 ∧
    demandOf 500 { ZoneAir.start with lastD := 900, floor := 700, state := .alarm } = 900 := by decide +kernel

theorem meets_LampsFollowTheirBays : LampLaw quiet ∧ ∃ t, step quiet = .next t := by
  refine ⟨fun b hb => ?_, _, rfl⟩
  have h : (quiet.occ.bays.nth b).zone = 0 := congrArg Bay.zone (quiet_bay hb)
  simp [lampColour, h]
  simp [quiet, State.reset, Guidance.start, hb, Lamp.start]

/-- The quiet level with a COUNT face over zone 1, a DECISION face over zones 1 and 2, zone 2 OPEN with 7 free bays, and a
group, their values formed. -/
def shown : State := { quiet with
  cfg := { quiet.cfg with inForce := { quietCfg with
    zones := quietCfg.zones.put 2 ⟨true, 0, 0, 500, 1⟩
    signs := emptyCfg.signs.put 0 ⟨true, 0x500, none, ((Tab.fill 4 absentFace).put 0 ⟨true, .count, 2, 15, 1, [], 1⟩).put 3
      ⟨true, .decision, 0, 15, 1, [⟨2, 6⟩, ⟨4, 2⟩], 7⟩⟩
    groups := emptyCfg.groups.put 0 ⟨true, 1, 0x300, none, 40, 200, 120, 4⟩ } }
  occ := { quiet.occ with free := quiet.occ.free.put 2 (Tab.build 4 (fun k => if k = 0 then 7 else 0)) }
  guide := { quiet.guide with
    status := quiet.guide.status.put 2 ⟨.opened, .nothing⟩
    signs := quiet.guide.signs.put 0 ⟨.ok, ((Tab.fill 4 Face.start).put 0 { Face.start with wanted := .full }).put 3
      { Face.start with wanted := .arrow 7 2, choice := some 1 }⟩ }
  light := { quiet.light with groups := quiet.light.groups.put 0 { Group.start with level := 40, fade := 4, wanted := ⟨160, 4⟩ } } }

/-- A DECISION face whose second candidate has just the minimum of free bays, and one without an eligible candidate. -/
theorem meets_FacesFollowTheirInputs :
    FaceLaw shown ∧ allFaces shown = [(0, 0), (0, 3)] ∧ (∃ t, step shown = .next t) ∧
    ChoiceLaw shown { faceRec shown 0 3 with minFree := 8 } { Face.start with wanted := .full, choice := none } := by
  have h : allFaces shown = [(0, 0), (0, 3)] := by decide +kernel
  have hv : faceShows shown (faceRec shown 0 0) = some .full := by decide +kernel
  have hw : (faceOf shown 0 0).wanted = .full := by decide +kernel
  have hr : faceRec shown 0 3 = ⟨true, .decision, 0, 15, 1, [⟨2, 6⟩, ⟨4, 2⟩], 7⟩ := by decide +kernel
  have hf : faceOf shown 0 3 = { Face.start with wanted := .arrow 7 2, choice := some 1 } := by decide +kernel
  have hc : (faceRec shown 0 0).kind = .count := by decide +kernel
  refine ⟨fun _ x hx => ?_, h, ⟨_, rfl⟩, ⟨nofun, nofun, fun _ => by decide +kernel, by decide +kernel⟩⟩
  rw [h] at hx
  simp only [List.mem_cons, List.not_mem_nil, or_false] at hx
  obtain rfl | rfl := hx
  · exact ⟨fun v hs => by simp_all, fun hd => by simp_all⟩
  · simp only [hr, hf]
    refine ⟨nofun, fun _ => ⟨?_, ?_, nofun, by decide +kernel⟩⟩
    · rintro k ⟨⟩
      decide +kernel
    · rintro k ⟨⟩
      exact ⟨⟨4, 2⟩, rfl, by decide +kernel⟩

theorem meets_GroupsFollowTheirInputs : GroupLaw shown ∧ presentGroups shown = [0] ∧ ∃ t, step shown = .next t := by
  have h : presentGroups shown = [0] := by decide +kernel
  refine ⟨fun _ g hg => ?_, h, _, rfl⟩
  rw [h, List.mem_singleton] at hg
  subst hg
  decide +kernel

/-! Taps and events. -/

theorem meets_T1TapTakesTheAirSample :
    running live = true ∧ zonePresent live.cfg.inForce 1 = true := by decide +kernel

theorem meets_CreditDecaysAtEveryFourthSample :
    let s := withLoop 7 (fun x => { x with state := .occupied, occupied := 118 }) live
    running s = true ∧ zonePresent s.cfg.inForce 1 = true ∧
    ∀ i, i < 8 → (s.loops.inputs.nth i).state = .occupied → (s.loops.inputs.nth i).occupied < 119 := by decide +kernel

/-- The end of the curve, and the first point of its falling example of R46. -/
theorem meets_DemandFollowsTheCurve :
    let top := zoneStage defaultParams 0 [⟨2000, 2000, 2000⟩] ZoneAir.start
    let p := { defaultParams with curve := (defaultCurve.put 0 800).put 1 600 }
    let low := zoneStage p 0 [⟨1, 1, 1⟩] ZoneAir.start
    top.z / 125 = 16 ∧ top.lastD = 1000 ∧ low.z / 125 ≠ 16 ∧ low.z = 1 ∧ low.lastD = 799 := by decide +kernel

/-- R51: Z at the thresholds less the hysteresis and one below them, from ALARM, HIGH and ELEVATED; a rise; and the hold. -/
theorem meets_AirStateRisesAtOnceAndFallsByHysteresis :
    let next := nextKnown defaultParams
    let rank := fun z => airRank (stateOfIndex defaultParams z)
    (rank 1350 < airRank .alarm ∧ threshold defaultParams .alarm = 1350 + 50 ∧ next 1350 0 .alarm = .alarm) ∧
    (rank 1349 ≤ airRank .alarm ∧ 1349 + 50 < threshold defaultParams .alarm ∧ next 1349 0 .alarm = .high) ∧
    (next 950 0 .alarm = .high ∧ next 949 0 .alarm = .elevated ∧ next 550 0 .alarm = .elevated ∧
      next 549 0 .alarm = .clear) ∧
    (next 950 0 .high = .high ∧ next 949 0 .high = .elevated ∧ next 549 0 .high = .clear) ∧
    (next 550 0 .elevated = .elevated ∧ 549 + 50 < threshold defaultParams .elevated ∧ next 549 0 .elevated = .clear) ∧
    airRank .clear < rank 1400 ∧ next 0 1 .alarm = .alarm ∧ next 0 0 .clear = .clear ∧
    ([⟨658, 658, 1316⟩] : List Filtered) ≠ [] ∧
    (zoneStage defaultParams 0 [] { ZoneAir.start with state := .alarm, hold := 2 }).hold = 1 ∧
    (zoneStage defaultParams 0 [] { ZoneAir.start with state := .alarm, hold := 1 }).state = .unknown := by decide +kernel

theorem meets_AirCountsEnd :
    (let s := withSensor 0 (fun x => { x with warmup := 1 }) live
     loading s = false ∧ running s = true ∧ (s.cfg.inForce.sensors.nth 0).present = true ∧ (s.air.sensors.nth 0).warmup = 1 ∧
       (s.cfg.inForce.sensors.nth 0).zero < 205 ∧ (1020 : Nat) ≤ (s.cfg.inForce.sensors.nth 0).span) ∧
    (let s := withSensor 31 (fun x => { x with silence := 9 }) live
     running s = true ∧ (s.cfg.inForce.sensors.nth 31).present = true ∧ (s.air.sensors.nth 31).silence = 9) ∧
    (let s := withZoneAir 1 (fun x => { x with e := 1000 }) live
     running s = true ∧ zonePresent s.cfg.inForce 1 = true ∧ (s.air.zones.nth 1).sample = 0 ∧
       (s.air.zones.nth 1).sample % 4 = 0) ∧
    (let s := withZoneAir 1 (fun x => { x with state := .alarm, hold := 1 }) live
     running s = true ∧ zonePresent s.cfg.inForce 1 = true ∧ (s.air.zones.nth 1).state = .alarm ∧
       (s.air.zones.nth 1).hold = 1) := by decide +kernel

/-- The last bay; and a bay that is reserved and faulted, so that both announcements come. -/
theorem meets_FirstHealthyReportIsTakenAtOnce :
    (running live = true ∧ delivered live 0xFFFFE = true ∧ mapBay live.cfg.map 0xFFFFE = some 511 ∧
      (bayOf live 511).sensed = .nothing) ∧
    (let s := withBay 0 (fun x => { x with health := .fault, admin := .reserved 1 }) live
     running s = true ∧ delivered s 1 = true ∧ mapBay s.cfg.map 1 = some 0 ∧ (bayOf s 0).sensed = .nothing ∧
       isReserved (bayOf s 0).admin = true ∧ (bayOf s 0).health = .fault) := by decide +kernel

theorem meets_LaterReportsSettleOrFault :
    (let s := withBay 10 (fun x => { x with sensed := .vacant, health := .fault }) live
     running s = true ∧ delivered s 257 = true ∧ mapBay s.cfg.map 257 = some 10 ∧ (bayOf s 10).sensed ≠ .nothing ∧
       0 < (params s).settle ∧ agrees .vacant (bayOf s 10).sensed = true ∧ agrees .present (bayOf s 10).sensed = false ∧
       (bayOf s 10).health = .fault) ∧
    (bayOf live 10).health = .ok ∧
    (let c := { tCfg with params := { tCfg.params with settle := 0 } }
     let s := withBay 10 (fun x => { x with sensed := .vacant, admin := .reserved 300, health := .fault })
       { live with cfg := { live.cfg with inForce := c } }
     running s = true ∧ delivered s 257 = true ∧ mapBay s.cfg.map 257 = some 10 ∧ (bayOf s 10).sensed ≠ .nothing ∧
       agrees .present (bayOf s 10).sensed = false ∧ (params s).settle = 0 ∧ (bayOf s 10).pending = none ∧
       isReserved (bayOf s 10).admin = true ∧ (bayOf s 10).health = .fault ∧
       zonePresent s.cfg.inForce (bayOf s 10).zone = true ∧ rangeHas (s.cfg.inForce.groups.nth 0) 10 = true) := by
  decide +kernel

theorem meets_UnknownAndDiscardedFrames :
    (delivered live 2 = true ∧ UnknownReport live 2 (.bayState 2 .present .ok) .detector ∧
      UnknownReport live 2 (.gasValue 2 .fault) .gasSensor ∧ UnknownReport live 2 (.pedPresence 2 .clear) .presence ∧
      UnknownReport live 2 (.lumState 2 .ok) .luminaire ∧ UnknownReport live 2 (.signState 2 .ok) .sign ∧
      UnknownReport live 2 (.announce 2 .other) .other) ∧
    delivered live 0 = false ∧ delivered live 0xFFFFF = false ∧
    delivered { live with bus := { live.bus with state := .off } } 1 = false ∧
    (let s : State := { live with bus := { live.bus with unknown := (List.range 8).map (fun i => ⟨2 + i, .other, 0⟩) } }
     s.bus.unknown.any (fun e => e.addr == 9) = true ∧ s.bus.unknown.any (fun e => e.addr == 10) = false ∧
       8 ≤ s.bus.unknown.length ∧ s.bus.overflow = false) := by
  refine ⟨⟨by decide +kernel, .bay _ _ ?_, .gas _ ?_, .ped _ ?_, .lum _ ?_, .sign _ ?_, .announce _ ?_ ?_ ?_ ?_ ?_⟩, ?_⟩
  all_goals decide +kernel

theorem meets_SensorLightAndSignReports :
    running live = true ∧ delivered live 0x208 = true ∧ fieldSensorAt live.cfg.inForce 0x208 = some 31 ∧
    delivered live 0x400 = true ∧ presenceAt live.cfg.inForce 0x400 = some 31 ∧
    delivered live 0x301 = true ∧ groupAt live.cfg.inForce 0x301 = some 47 ∧
    delivered live 0x500 = true ∧ signAt live.cfg.inForce 0x500 = some 0 := by decide +kernel

theorem meets_AnnounceGoesToItsOwner :
    running live = true ∧ mapBay live.cfg.map 1 = some 0 ∧
    (mapBay live.cfg.map 0x208 = none ∧ fieldSensorAt live.cfg.inForce 0x208 = some 31) ∧
    (mapBay live.cfg.map 0x300 = none ∧ fieldSensorAt live.cfg.inForce 0x300 = none ∧
      groupAt live.cfg.inForce 0x300 = some 0) ∧
    (mapBay live.cfg.map 0x500 = none ∧ fieldSensorAt live.cfg.inForce 0x500 = none ∧
      groupAt live.cfg.inForce 0x500 = none ∧ presenceAt live.cfg.inForce 0x500 = none ∧
      signAt live.cfg.inForce 0x500 = some 0 ∧ presentFaces (live.cfg.inForce.signs.nth 0) = [0, 3]) := by decide +kernel

theorem meets_DeviceFramesAreReadBack :
    ([.bayState 1 .vacant .fault, .gasValue 0xFFFFE (.ok 65535), .pedPresence 1 .detected, .lumState 2 .fault,
      .signState 3 .ok, .announce 0xFFFFE .sign] : List Instr).all
      (fun i => wellFormed i && (deviceFrame 0 i).isSome && (deviceFrame 7 i).isSome) = true := by decide +kernel

theorem meets_SettleExpiryMovesAVehicle :
    let s := withBay 10 (fun x => { x with sensed := .vacant, pending := some (.present, 1), admin := .reserved 300 }) live
    running s = true ∧ (bayOf s 10).pending = some (.present, 1) ∧ isReserved (bayOf s 10).admin = true ∧
    zonePresent s.cfg.inForce (bayOf s 10).zone = true ∧ rangeHas (s.cfg.inForce.groups.nth 0) 10 = true := by decide +kernel

theorem meets_SilenceAndReservationsEnd :
    (let s := withBay 0 (fun x => { x with sensed := .vacant, lastHeard := 181 }) { live with occ := { live.occ with scan := 15 } }
     running s = true ∧ s.occ.scan = 15 ∧ (bayOf s 0).detector ≠ none ∧ 180 < (bayOf s 0).lastHeard ∧
       (bayOf s 0).sensed ≠ .nothing ∧ ¬ 180 < (bayOf s 10).lastHeard) ∧
    (let s := withBay 511 (fun x => { x with admin := .reserved 1 }) live
     running s = true ∧ (bayOf s 511).admin = .reserved 1) := by decide +kernel

theorem meets_StayLitAndPathsEnd :
    (let s := withGroup 47 (fun x => { x with stay := 1 }) live
     running s = true ∧ 47 ∈ presentGroups s ∧ (s.light.groups.nth 47).stay = 1) ∧
    (let s : State := { live with light := { live.light with paths := (live.light.paths.put 0 (.running 0 1)).put 3 (.running 0 1) } }
     running s = true ∧ s.light.paths.nth 0 = .running 0 1 ∧ 0 + 1 < (s.cfg.inForce.paths.nth 0).groups.length ∧
       s.light.paths.nth 3 = .running 0 1 ∧ ¬ 0 + 1 < (s.cfg.inForce.paths.nth 3).groups.length) := by decide +kernel

theorem meets_ResendsSendEverythingAgain :
    let s : State := { live with light := { live.light with resend := 63 }, guide := { live.guide with resend := 63 } }
    loading s = false ∧ s.light.resend = 63 ∧ s.guide.resend = 63 ∧ running s = true ∧ allFaces s = [(0, 0), (0, 3)] ∧
    (bayOf s 511).detector ≠ none ∧ loading (inState .editing s) = false ∧ running (inState .editing s) = false := by
  decide +kernel

theorem meets_RotationTurnsUnpairedDecisions :
    let s : State := { live with guide := { live.guide with rotation := 15 } }
    running s = true ∧ s.guide.rotation = 15 ∧ (0, 3) ∈ allFaces s ∧ (faceRec s 0 3).kind = .decision ∧
    (s.cfg.inForce.signs.nth 0).pair = none ∧ (0, 0) ∈ allFaces s ∧ (faceRec s 0 0).kind ≠ .decision := by decide +kernel

theorem meets_OtherLevelsAreWrittenAndTurnStale :
    let s : State := { live with guide := { live.guide with levels := live.guide.levels.put 7 (some ⟨42, 119⟩) } }
    running s = true ∧ s.guide.levels.nth 7 = some ⟨42, 119⟩ ∧
    (∀ x ∈ ([(1, 0), (7, 65535)] : List (Nat × Nat)), 1 ≤ x.1 ∧ x.1 ≤ 7) ∧ takesRequests s ∧
    (takesRequests quiet ∧ FillLaw quiet ∧ running quiet = true ∧ (∃ x ∈ ([(1, 5), (8, 5)] : List (Nat × Nat)), 7 < x.1) ∧
      7 < ((List.range 8).map (fun v => (v, v))).length) ∧
    (takesRequests (inState .editing quiet) ∧ FillLaw (inState .editing quiet) ∧ running (inState .editing quiet) = false) :=
  ⟨by decide +kernel, by decide +kernel, by decide, ⟨rfl, rfl, by decide⟩,
    ⟨⟨rfl, rfl, by decide⟩, quiet_fillLaw, rfl, by decide, by decide⟩, ⟨rfl, rfl, by decide⟩, editing_fillLaw, rfl⟩

/-- The last fan in STARTING and in RUNNING with one tap of its wait left; a resting fan with one second of coast. -/
theorem meets_FanEventsFaultCoastAndDrive :
    (let s := withZoneAir 1 (fun x => { x with demand := 500 })
        (withChannel 11 (fun x => { x with state := .starting, driven := some .forward, reference := 300, ready := 31 }) live)
     fanDriven s 11 = true ∧ (s.fan.channels.nth 11).state = .starting ∧ (channelAim s 11).call ≠ .stop ∧
       (channelAim s 11).wanted = (s.fan.channels.nth 11).driven ∧
       (params s).readyTimeout ≤ (s.fan.channels.nth 11).ready + 1) ∧
    (let s := withChannel 11 (fun x => { x with state := .running, driven := some .forward, reference := 300, ready := 7 }) live
     fanDriven s 11 = true ∧ (s.fan.channels.nth 11).state = .running ∧
       (params s).readyLoss ≤ (s.fan.channels.nth 11).ready + 1) ∧
    (let s := withChannel 0 (fun x => { x with coast := 1 }) live
     loading s = false ∧ ¬ turns (s.fan.channels.nth 0).state ∧ (s.fan.channels.nth 0).coast = 1) := by decide +kernel

theorem meets_LoopEventsChangeTheirInput :
    (let s := withLoop 7 (fun x => { x with supervised := true, filter := 3 }) live
     loading s = false ∧ (s.loops.inputs.nth 7).supervised = true ∧ (s.loops.inputs.nth 7).state = .clear ∧
       (s.loops.inputs.nth 7).filter = 3) ∧
    (withLoop 0 (fun x => { x with state := .stuck }) live).loops.inputs.nth 0 = ⟨false, false, .stuck, 0, 0⟩ ∧
    (let s := withLoop 0 (fun x => { x with state := .occupied, occupied := 119 }) live
     (s.loops.inputs.nth 0).state = .occupied ∧ (s.loops.inputs.nth 0).occupied = 119) ∧
    (let s := withPair 3 (fun x => { x with sequence := .aFirst, time := 29 }) live
     (s.loops.pairs.nth 3).sequence ≠ .idle ∧ (s.loops.pairs.nth 3).time = 29) := by decide +kernel

theorem meets_SequencesBecomePassages :
    (let s := withLoop 1 (fun x => { x with state := .occupied }) live
     loading s = false ∧ pairOf s.cfg.inForce 1 = some 0 ∧ (s.cfg.inForce.pairs.nth 0).inB = some 1 ∧
       (s.loops.inputs.nth 1).state = .occupied ∧ (s.cfg.inForce.pairs.nth 0).inA = 0 ∧
       (s.loops.inputs.nth 0).state ≠ .occupied) ∧
    (let s := withLoop 7 (fun x => { x with supervised := true, filter := 3 }) live
     pairOf s.cfg.inForce 7 = some 3 ∧ (s.cfg.inForce.pairs.nth 3).inB = none ∧ (s.loops.inputs.nth 7).supervised = true ∧
       (s.loops.inputs.nth 7).state = .clear ∧ (s.loops.inputs.nth 7).filter = 3 ∧ triggeredAtStart s 3 47 ∧
       running s = true ∧ zonePresent s.cfg.inForce (s.cfg.inForce.pairs.nth 3).zone = true) ∧
    (let s := withLoop 6 (fun x => { x with state := .occupied }) live
     pairOf s.cfg.inForce 6 = some 2 ∧ (s.cfg.inForce.pairs.nth 2).inB = some 6 ∧ (s.cfg.inForce.pairs.nth 2).inA = 5 ∧
       (s.loops.inputs.nth 6).state = .occupied ∧ (s.loops.inputs.nth 5).state ≠ .occupied ∧ turnedBy s 2 0 3) := by
  refine ⟨by decide +kernel, ⟨by decide +kernel, by decide +kernel, by decide +kernel, by decide +kernel, by decide +kernel,
    ⟨by decide +kernel, 2, by decide +kernel, by decide +kernel⟩, by decide +kernel⟩, by decide +kernel, by decide +kernel,
    by decide +kernel, by decide +kernel, by decide +kernel, by decide +kernel, by decide +kernel, by decide +kernel,
    by decide +kernel⟩

theorem meets_KeysAndExpiryMoveTheStack :
    (let s : State := { withKey 0 ⟨false, 7, .released⟩ live with ovr := { (withKey 0 ⟨false, 7, .released⟩ live).ovr with
        stack := busyStack } }
     loading s = false ∧ roleKind (s.cfg.inForce.inputs.nth 0).role = some .ventBoost ∧
       (s.ovr.keys.nth 0).state = .released ∧ (s.ovr.keys.nth 0).filter = 7 ∧ 8 ≤ s.ovr.stack.length ∧
       (s.ovr.keys.nth 1).state ≠ .pending) ∧
    roleKind (live.cfg.inForce.inputs.nth 1).role = some .sounderMute ∧ live.ovr.stack.length < 8 ∧
    ((withKey 1 ⟨true, 0, .held 5⟩ live).ovr.keys.nth 1).state = .held 5 ∧
    ((withKey 1 ⟨true, 0, .pending⟩ live).ovr.keys.nth 1).state = .pending ∧
    ((withKey 1 ⟨true, 0, .spent⟩ live).ovr.keys.nth 1).state = .spent := by decide +kernel

/-! Field bus and image store. -/

def faceSlot : Slot := ⟨.face 0x500 3, .face (.arrow 999 6), 15, false, false⟩

theorem live_slots (i : Nat) : live.bus.slots.nth i = none := by
  by_cases h : i < 16 <;> simp [live, State.reset, FieldBus.start, h]
  rfl

theorem slots_of {i j : Nat} {x y : Slot} (h : (withSlot i x live).bus.slots.nth j = some y) : j = i ∧ y = x := by
  simp only [withSlot, Tab.nth_put, live_slots] at h
  split at h <;> simp_all

/-- A face's slot to be offered, the same slot in its last attempt, and the last tap of OFF. -/
theorem meets_SlotsAreOfferedLowestFirst :
    (let s := withSlot 15 faceSlot live
     loading s = false ∧ s.bus.state ≠ .off ∧ (∀ j x, j < 16 → s.bus.slots.nth j = some x → x.trying = false) ∧
       (∀ j x a f, j < 16 → s.bus.slots.nth j = some x → x.key = .face a f → f < 4) ∧
       ∃ j x, j < 16 ∧ s.bus.slots.nth j = some x) ∧
    (let s := withSlot 15 { faceSlot with trying := true } live
     s.bus.state ≠ .off ∧ s.bus.slots.nth 15 = some { faceSlot with trying := true } ∧
       ∀ j y, j < 16 → j ≠ 15 → s.bus.slots.nth j = some y → y.trying = false) ∧
    (let s : State := { live with bus := { live.bus with state := .off, offTaps := 3, errors := 263 } }
     s.bus.state = .off ∧ s.bus.offTaps = 3) := by
  refine ⟨⟨by decide +kernel, by decide +kernel, fun j x _ h => ?_, fun j x a f _ h hk => ?_, 15, faceSlot, by decide, ?_⟩,
    ⟨by decide +kernel, ?_, fun j y _ hj h => ?_⟩, by decide +kernel⟩
  · rw [(slots_of h).2]; rfl
  · rw [(slots_of h).2] at hk; cases hk; decide
  · simp [withSlot, Tab.nth_put]
  · simp [withSlot, Tab.nth_put]
  · exact absurd (slots_of h).1 hj

theorem meets_AttemptsSucceedOrFail :
    let s := withSlot 0 { faceSlot with trying := true } { live with bus := { live.bus with errors := 248 } }
    loading s = false ∧ s.bus.state ≠ .off ∧ s.bus.slots.nth 0 = some { faceSlot with trying := true } ∧
    (∀ j y, j < 16 → j ≠ 0 → s.bus.slots.nth j = some y → y.trying = false) ∧
    signAt s.cfg.inForce 0x500 = some 0 ∧ groupAt s.cfg.inForce 0x300 = some 0 ∧ mapBay s.cfg.map 0xFFFFE = some 511 ∧
    16 ≤ faceSlot.attempts + 1 ∧ busStateOf (248 + 8) = .off := by
  refine ⟨by decide +kernel, by decide +kernel, by simp [withSlot, Tab.nth_put], fun j y _ hj h => ?_, by decide +kernel⟩
  simp only [withSlot, Tab.nth_put, hj, false_and, if_false] at h
  rw [show ({ live with bus := { live.bus with errors := 248 } } : State).bus.slots = live.bus.slots from rfl,
    live_slots] at h
  cases h

theorem meets_StoresWriteTheirPages :
    (∀ n ∈ [0, 1, 254, 255, 256, 257], ∃ s : State, s.cfg.activity = .storing n 42 emptyBody) ∧
    (∃ page, live.cfg.memory.page0 = .whole page) ∧
    ∀ page, ({ live.cfg.memory with page0 := .cut true [] } : SerialMem).page0 ≠ .whole page :=
  ⟨fun n _ => ⟨{ live with cfg := { live.cfg with activity := .storing n 42 emptyBody } }, rfl⟩, ⟨_, rfl⟩, by simp⟩

theorem meets_LinkEventsMoveTheReceiver :
    live.link.de = false ∧ live.link.resetDue = false ∧ (0x7F : Byte).toNat ∉ requestKinds ∧
    (251 : Byte) < 252 ∧ (0 : Nat) ≠ nodeAddress live ∧ nodeAddress live = 1 ∧
    (let s : State := { live with link := { live.link with reply := some ⟨0x81, [0]⟩ } }
     s.link.de = false ∧ s.link.reply = some ⟨0x81, [0]⟩) ∧
    ({ live with link := { live.link with de := true } } : State).link.de = true ∧
    requestCode (.noticeClasses (.fits 0)) ≠ none := by decide +kernel

/-! Requests. -/

theorem meets_RequestsMeetTheCommonChecks :
    requestCode (.readZone .misfit) = some 0x30 ∧ misfitFirst (.readZone .misfit) ∧ State.reset.link.de = false ∧
    loading State.reset = true ∧ State.reset.link.resetDue = false ∧
    ({ live with link := { live.link with resetDue := true } } : State).link.resetDue = true ∧
    misfitFirst (.reset .misfit) ∧ takesRequests quiet ∧ FillLaw quiet := by
  refine ⟨rfl, by simp [misfitFirst], rfl, rfl, rfl, rfl, by simp [misfitFirst], ⟨rfl, rfl, by decide⟩, quiet_fillLaw⟩

theorem meets_ReadsAnswerAndChangeNothing :
    takesRequests live ∧ running live = true ∧ inRange .face 23 3 ∧ inRange .zone 15 0 ∧ inRange .input 1 0 ∧
    live.link.de = false ∧ live.link.resetDue = false ∧ ¬ inRange .face 23 4 ∧ ¬ inRange .zone 16 0 ∧ ¬ inRange .input 0 0 ∧
    takesRequests (inState .fallback live) ∧ running (inState .fallback live) = false :=
  ⟨⟨rfl, rfl, by decide⟩, rfl, ⟨by decide, by decide⟩, ⟨by decide, by decide⟩, ⟨by decide, by decide⟩, rfl, rfl,
    fun h => absurd h.2 (by decide), fun h => absurd h.2 (by decide), fun h => absurd h.1 (by decide), ⟨rfl, rfl, by decide⟩, rfl⟩

/-- The last way of the map's set 126; an address bound to no bay; the part during LOADING. -/
theorem meets_MapReadsFindTheirEntries :
    takesRequests live ∧ (live.cfg.map.nth 126).nth 3 = some ⟨8191, 511⟩ ∧ entryAddr 126 ⟨8191, 511⟩ = 0xFFFFE ∧
    (∀ w, w < 3 → (live.cfg.map.nth 126).nth w = none) ∧
    (∀ p ∈ mapEntries live.cfg.map, entryAddr p.1 p.2.2 ≠ 2) ∧
    loading State.reset = true ∧ State.reset.link.de = false ∧ State.reset.link.resetDue = false :=
  ⟨⟨rfl, rfl, by decide⟩, by decide +kernel⟩

theorem meets_GetClockReportsTheClock :
    takesRequests live ∧ loading State.reset = true ∧ State.reset.link.de = false ∧ State.reset.link.resetDue = false ∧
    live.time.clockSet = false ∧ ({ live with time := { live.time with clockSet := true } } : State).time.clockSet = true :=
  ⟨⟨rfl, rfl, by decide⟩, by decide +kernel⟩

/-- The quiet level in each configuration state, storing, and with a working configuration that validation refuses. -/
theorem meets_ConfigurationOpensClosesAndStores :
    (let s : State := { quiet with cfg := { quiet.cfg with activity := .storing 0 1 emptyBody } }
     takesRequests s ∧ storing s = true ∧ FillLaw s) ∧
    (takesRequests (inState .editing quiet) ∧ storing quiet = false ∧ FillLaw (inState .editing quiet)) ∧
    (takesRequests (inState .fallback quiet) ∧ storing (inState .fallback quiet) = false ∧
      FillLaw (inState .fallback quiet)) ∧
    validate emptyCfg emptyMap = none ∧
    (∃ r why, validate { emptyCfg with fans := emptyCfg.fans.put 11 ⟨true, 1, [], 0, Tab.fill 4 .off⟩ } emptyMap
      = some (r, why)) := by
  have h : waitingDests quiet = [] := by decide +kernel
  have hs : ∀ c, waitingDests { quiet with cfg := c } = [] := fun _ => h
  refine ⟨⟨⟨rfl, rfl, by decide⟩, rfl, ?_⟩, ⟨⟨rfl, rfl, by decide⟩, rfl, ?_⟩, ⟨⟨rfl, rfl, by decide⟩, rfl, ?_⟩,
    emptyBody_valid, ?_⟩
  · simp [FillLaw, hs]
  · simp [FillLaw, inState, hs]
  · simp [FillLaw, inState, hs]
  · exact ⟨⟨.fan, 11, 0⟩, .zoneAbsent, by decide +kernel⟩

theorem meets_RecordsAndCurvesAreWritten :
    (inState .editing live).cfg.state = .editing ∧ live.cfg.state ≠ .editing ∧ running live = true ∧ storing live = false ∧
    writeRecord .unknownKind emptyCfg = .error .badIndex ∧
    (∃ c bytes, writeRecord (.input 2 ⟨.mute, 0, 0⟩) emptyCfg = .ok (c, bytes)) ∧
    (writtenRecord (.input 2 ⟨.mute, 0, 0⟩) = some (.input, 2, 0) ∧ inRange .input 2 0) ∧
    (writtenRecord (.bay 511 [.family, .standard]) = some (.bay, 511, 2) ∧ inRange .bay 511 2) ∧
    (writtenRecord (.face 23 4 absentFace) = some (.face, 23, 4) ∧ ¬ inRange .face 23 4) ∧ (List.replicate 16 1024).length = 16 ∧
    FillLaw quiet ∧ storing quiet = false ∧ running quiet = true ∧
    (let s : State := { quiet with cfg := { quiet.cfg with activity := .storing 0 1 emptyBody } }
     takesRequests s ∧ storing s = true ∧ FillLaw s) ∧
    (takesRequests (inState .fallback quiet) ∧ running (inState .fallback quiet) = false ∧ FillLaw (inState .fallback quiet)) := by
  have hs : ∀ c, FillLaw { quiet with cfg := c } := fun c => fillLaw_of_none (show waitingDests quiet = [] by decide +kernel)
  exact ⟨rfl, by decide, rfl, rfl, rfl, ⟨_, _, rfl⟩, ⟨rfl, by decide, by decide⟩, ⟨rfl, by simp [inRange]⟩,
    ⟨rfl, fun h => absurd h.2 (by decide)⟩, rfl, quiet_fillLaw, rfl, rfl, ⟨⟨rfl, rfl, by decide⟩, rfl, hs _⟩,
    ⟨rfl, rfl, by decide⟩, rfl, hs _⟩

/-- The quiet level with address 1 bound to bay 0 and addresses 2, 130, 258 and 386 in the ways of set 2. -/
def mapped : State :=
  withBay 0 (fun x => { x with detector := some 1 }) { quiet with
    cfg := { quiet.cfg with
      map := mapPut (mapPut (mapPut (mapPut (mapPut emptyMap 1 0 (some ⟨0, 0⟩)) 2 0 (some ⟨0, 1⟩)) 2 1 (some ⟨1, 2⟩)) 2 2
        (some ⟨2, 3⟩)) 2 3 (some ⟨3, 4⟩)
      working := { quiet.cfg.working with groups := emptyCfg.groups.put 0 ⟨true, 1, 0x300, none, 40, 200, 120, 4⟩ } }
    bus := { quiet.bus with slots := Tab.build 16 (fun i => some ⟨.face 0x500 i, .face .blank, 0, false, false⟩) } }

theorem mapped_fillLaw : FillLaw mapped := by
  intro _ h
  exact absurd (show freeSlot mapped.bus = none by decide +kernel) h

/-- Address 129 to bay 511 where the map has room; address 1 of bay 0 taken away; an address bound to no bay; and for
every refusal of MAP_WRITE and MAP_REMOVE an address and a bay that meet it. -/
theorem meets_BindingsAreMadeAndRemoved :
    (let s := withBay 511 (fun x => { x with detector := none }) live
     storing s = false ∧ s.cfg.state ≠ .fallback ∧ isDevice 129 = true ∧ mapWay s.cfg.map 129 = none ∧
       (bayOf s 511).detector = none ∧ addressUsed s.cfg.working 129 = false ∧ freeWay s.cfg.map (129 % 128) = some 2) ∧
    (isDevice 1 = true ∧ mapWay live.cfg.map 1 = some 0 ∧ mapBay live.cfg.map 1 = some 0) ∧
    (FillLaw quiet ∧ takesRequests quiet ∧ storing quiet = false ∧ quiet.cfg.state ≠ .fallback ∧
      mapWay quiet.cfg.map 1 = none) ∧
    (FillLaw mapped ∧ takesRequests mapped ∧ storing mapped = false ∧ mapped.cfg.state ≠ .fallback ∧
      isDevice 0 = false ∧ isDevice 0xFFFFF = false ∧
      (mapWay mapped.cfg.map 1 = some 0 ∧ mapBay mapped.cfg.map 1 = some 0 ∧ (0 : Nat) ≠ 511) ∧
      (mapWay mapped.cfg.map 129 = none ∧ (bayOf mapped 0).detector = some 1) ∧
      (mapWay mapped.cfg.map 0x300 = none ∧ (bayOf mapped 511).detector = none ∧
        addressUsed mapped.cfg.working 0x300 = true) ∧
      (isDevice 514 = true ∧ mapWay mapped.cfg.map 514 = none ∧ addressUsed mapped.cfg.working 514 = false ∧
        freeWay mapped.cfg.map (514 % 128) = none)) ∧
    (FillLaw storingQuiet ∧ takesRequests storingQuiet ∧ storing storingQuiet = true) ∧
    (FillLaw (inState .fallback quiet) ∧ takesRequests (inState .fallback quiet) ∧
      storing (inState .fallback quiet) = false) :=
  ⟨by decide +kernel, by decide +kernel, ⟨quiet_fillLaw, ⟨rfl, rfl, by decide⟩, by decide +kernel⟩,
    ⟨mapped_fillLaw, ⟨rfl, rfl, by decide⟩, by decide +kernel⟩, ⟨storing_fillLaw, ⟨rfl, rfl, by decide⟩, rfl⟩,
    fallback_fillLaw, ⟨rfl, rfl, by decide⟩, rfl⟩

/-- Among them the refusals: in each configuration state, while a store runs, and for a bay in each standing. -/
theorem meets_BaysAreReservedClosedAndOpened :
    takesRequests live ∧ running live = true ∧ storing live = false ∧
    (bayOf (withBay 511 (fun x => { x with state := .free }) live) 511).state = .free ∧
    isReserved (bayOf (withBay 0 (fun x => { x with admin := .reserved 65535 }) live) 0).admin = true ∧
    (bayOf live 511).admin ≠ .closed ∧
    (bayOf (withBay 511 (fun x => { x with admin := .closed }) live) 511).admin = .closed ∧
    (takesRequests (inState .editing quiet) ∧ FillLaw (inState .editing quiet) ∧ running (inState .editing quiet) = false ∧
      storing (inState .editing quiet) = false) ∧
    (takesRequests storingQuiet ∧ FillLaw storingQuiet ∧ storing storingQuiet = true ∧ running storingQuiet = true) ∧
    (takesRequests quiet ∧ FillLaw quiet ∧ running quiet = true ∧ storing quiet = false ∧ (511 : Nat) < 512 ∧
      (bayOf quiet 0).state = .unknown ∧ isReserved (bayOf quiet 0).admin = false ∧ (bayOf quiet 0).admin ≠ .closed) ∧
    (let s := withBay 511 (fun x => { x with admin := .closed, state := .closed }) quiet
     takesRequests s ∧ FillLaw s ∧ running s = true ∧ storing s = false ∧ (bayOf s 511).state = .closed ∧
       (bayOf s 511).admin = .closed ∧ isReserved (bayOf s 511).admin = false) ∧
    (bayOf (withBay 0 (fun x => { x with state := .occupied }) quiet) 0).state = .occupied :=
  ⟨⟨rfl, rfl, by decide⟩, by decide +kernel, by decide +kernel, by decide +kernel, by decide +kernel, by decide +kernel,
    by decide +kernel, ⟨⟨rfl, rfl, by decide⟩, editing_fillLaw, by decide⟩,
    ⟨⟨rfl, rfl, by decide⟩, storing_fillLaw, by decide⟩,
    ⟨⟨rfl, rfl, by decide⟩, quiet_fillLaw, by decide +kernel⟩,
    ⟨⟨rfl, rfl, by decide⟩, fillLaw_of_none (by decide +kernel), by decide +kernel⟩, by decide +kernel⟩

/-- The stack of section 7.7 at its step 10, with a LINK entry below one of a key, and a faulted fan. -/
theorem meets_FansAreClearedAndOverridesMoved :
    takesRequests live ∧ ((withChannel 11 (fun x => { x with state := .fault }) live).fan.channels.nth 11).state = .fault ∧
    overrideKindOf 5 = some .sounderMute ∧ emptyScope .sounderMute 0 = false ∧ live.ovr.stack.length < 8 ∧
    (∀ k, k < 2 → (live.ovr.keys.nth k).state ≠ .pending) ∧
    (let below : List Entry := busyStack.take 3
     let e : Entry := ⟨9, .profile, 0, 3, none, .link⟩
     let above : List Entry := [⟨5, .zoneClose, 32, 0, none, .in1⟩]
     let s : State := { live with ovr := { live.ovr with stack := below ++ e :: above } }
     takesRequests s ∧ StackLaw s.ovr.stack ∧ s.ovr.stack = below ++ e :: above ∧ e.source = .link ∧
       ∀ x ∈ above, x.source ≠ .link) ∧
    (let s : State := { quiet with ovr := { quiet.ovr with stack := busyStack } }
     takesRequests s ∧ FillLaw s ∧ 8 ≤ s.ovr.stack.length ∧ StackLaw s.ovr.stack ∧
       (s.fan.channels.nth 0).state ≠ .fault ∧ (∃ e ∈ s.ovr.stack, e.source ≠ .link) ∧ (∀ e ∈ s.ovr.stack, e.id ≠ 255) ∧
       emptyScope .fanForce 0xF000 = true ∧ overrideKindOf 0 = some .fanForce ∧ overrideKindOf 6 = none) ∧
    FillLaw quiet ∧ ∀ e ∈ quiet.ovr.stack, e.source ≠ .link := by
  refine ⟨⟨rfl, rfl, by decide⟩, by decide +kernel, by decide, by decide, by decide, by decide +kernel,
    ⟨⟨rfl, rfl, by decide⟩, ⟨by decide, by decide, by decide, by decide⟩, rfl, rfl, by decide⟩,
    ⟨⟨rfl, rfl, by decide⟩, fillLaw_of_none (show waitingDests quiet = [] by decide +kernel), by decide,
      ⟨by decide, by decide, by decide, by decide⟩, by decide +kernel, by decide, by decide, by decide, by decide, by decide⟩,
    quiet_fillLaw, by decide⟩

/-- R192: the reset of a RESET whose reply a later request discards reads the straps as the pins stand. -/
theorem test_straps_at_a_discarded_reset (s : State) (h : takesRequests s) :
    ∃ t u, exec (.reset (.fits ⟨3, 31⟩)) s = .next t ∧ exec (.identify (.fits ())) t = .next u ∧
      u.link.straps = ⟨3, 31⟩ := by
  obtain ⟨hd, hr, hl⟩ := h
  refine ⟨_, _, rfl, rfl, ?_⟩
  simp [request, arrive, resetRule, answer, resetCommanded, Link.start, loading, hd, hr, hl]

theorem meets_NoticesAreFetchedAndFiltered : takesRequests live ∧ takesRequests (inState .fallback live) :=
  ⟨⟨rfl, rfl, by decide⟩, rfl, rfl, by decide⟩

theorem meets_EventsOfAbsentThingsFault : (512 : Nat) ≤ 512 ∧ (8 : Nat) ≤ 8 ∧ (2 : Nat) ≤ 2 := by decide

end Sys2Proof.Tests
end

section
/-! SUPPORT. What an announcement leaves: the notice stands in the queue, or LOST is set, until another of its kind and
subject comes (R197). -/

namespace Sys2Proof.Machine

/-- R197: the notice stands in the queue with the second, or LOST is set. -/
def Link.holds (l : Link) (n : Notice) (now : BitVec 32) : Prop := ⟨n, now⟩ ∈ l.notices ∨ l.lost = true

theorem Link.holds_enqueue_self {l : Link} {n : Notice} (now : BitVec 32)
    (h : l.classes.getLsbD (noticeClass n) = true) : (l.enqueue n now).holds n now := by
  unfold Link.enqueue
  split
  · simp_all
  · split
    · rename_i hany
      obtain ⟨x, hx, hs⟩ := List.any_eq_true.mp hany
      exact .inl (List.mem_map.mpr ⟨x, hx, by rw [if_pos hs]⟩)
    · split
      · exact .inl (by simp)
      · exact .inr rfl

theorem Link.holds_enqueue_other {l : Link} {n m : Notice} {now : BitVec 32} (later : BitVec 32) (h : l.holds n now)
    (k : sameNotice n m = false) : (l.enqueue m later).holds n now := by
  unfold Link.enqueue
  split
  · exact h
  · split
    · exact h.imp (fun hm => List.mem_map.mpr ⟨_, hm, by simp [k]⟩) id
    · split
      · exact h.imp (fun hm => by simp [hm]) id
      · exact .inr rfl

theorem Does.classes {bs : List Block} {s t : State} (h : Does bs s t) (n : bs.contains .link = false) :
    t.link.classes = s.link.classes := by rw [h.link n]

theorem announced_post {s t : State} {n : Notice} (hc : t.link.classes = s.link.classes) (ht : t.time = s.time) :
    announced s (post n t) n := by
  intro h
  rw [post_link, ht]
  exact Link.holds_enqueue_self _ (by rw [hc]; exact h)

/-- R197: a notice posted by an operation that has changed neither the class enables nor the clock. -/
theorem Does.announced_post {bs : List Block} {s t : State} (h : Does bs s t) (n : Notice)
    (k : bs.contains .link = false) (l : bs.contains .time = false) : announced s (post n t) n :=
  Machine.announced_post (h.classes k) (h.time l)

namespace announced

variable {s t u : State} {n m : Notice}

theorem post_other (h : announced s t n) (k : sameNotice n m = false) : announced s (post m t) n :=
  fun c => Link.holds_enqueue_other _ (h c) k

theorem postAll_other (h : announced s t n) {ms : List Notice} (k : ∀ m ∈ ms, sameNotice n m = false) :
    announced s (postAll ms t) n := by
  induction ms generalizing t with
  | nil => exact h
  | cons m ms ih => exact ih (h.post_other (k m (by simp))) (fun x hx => k x (by simp [hx]))

/-- An operation that leaves the notices keeps what was announced. -/
theorem kept {bs : List Block} (h : announced s t n) (k : Does bs t u) (q : bs.contains .notices = false) :
    announced s u n := by
  obtain ⟨hn, hl, -⟩ := k.notices q
  intro c
  rw [hn, hl]
  exact h c

/-- R120: an arrival at guidance announces changed statuses only. -/
theorem guideArrival (h : announced s t n) (k : ∀ z st, sameNotice n (.zoneGuidance z st) = false) (zs : List Nat)
    (also : FaceRec → Bool) : announced s (Machine.guideArrival zs also t) n := by
  dsimp only [Machine.guideArrival]
  split
  · have h1 := h.kept (does_takeStatuses t (changedZones zs t)) rfl
    have h2 := h1.kept (Does.foldl (fun t z => formLamps (zoneBays t z) t) (fun t z => does_formLamps _ t)
      (changedZones zs t) _) rfl
    refine postAll_other (h2.kept (does_formFaces _ _) rfl) ?_
    intro m hm
    obtain ⟨z, -, rfl⟩ := List.mem_map.mp hm
    exact k _ _
  · exact h

/-- R14: so does a new derivation of a bay's state. -/
theorem rederive (h : announced s t n) (k : ∀ z st, sameNotice n (.zoneGuidance z st) = false) (b : Nat) :
    announced s (Machine.rederive b t) n := by
  dsimp only [Machine.rederive]
  split
  · exact h
  · have h1 := kept (kept h (does_setBay t b { bayOf t b with state := bayStateOf (running t) (bayOf t b) }) rfl)
      (does_countFree (bayOf t b).zone (bayKind t b).ctorIdx (bayOf t b).state (bayStateOf (running t) (bayOf t b)) _) rfl
    dsimp only [guideBay]
    split
    · exact kept (h1.guideArrival k _ _) (does_formLamp b _) rfl
    · exact h1

end announced

end Sys2Proof.Machine
end

section
/-! SUPPORT. When a destination's value is on its way (R165, R166): marking it sets it on its way, and neither further
marks nor the filling of slots take it off; where no destination waits beside a free slot, filling changes nothing. -/

namespace Sys2Proof.Machine

/-- Does a destination wait, by the record that keeps its mark (R164)? -/
def Dest.waits (s : State) : Dest → Prop
  | .face i f => i < 24 ∧ f < 4 ∧ ((s.guide.signs.nth i).faces.nth f).waiting = true
  | .faceAll => s.guide.faceBroadcast = true
  | .call a => a ∈ s.bus.calls
  | .group g => g < 48 ∧ (s.light.groups.nth g).waiting = true
  | .groupAll => s.light.broadcast = true
  | .lamp b => b < 512 ∧ (s.guide.lamps.nth b).waiting = true
  | .lampAll => s.guide.lampBroadcast = true

/-- Does the part have the record of a destination? -/
def Dest.exists : Dest → Prop
  | .face i f => i < 24 ∧ f < 4
  | .group g => g < 48
  | .lamp b => b < 512
  | .faceAll | .call _ | .groupAll | .lampAll => True

theorem mem_waitingDests {s : State} {d : Dest} : d ∈ waitingDests s ↔ d.waits s := by
  cases d <;> simp [waitingDests, Dest.waits, and_assoc]

theorem waits_setMark {d : Dest} (h : d.exists) (s : State) : d.waits (setMark d true s) := by
  cases d <;> simp_all [Dest.exists, Dest.waits, setMark, Guidance.setFace, Tab.nth_modify, Tab.nth_put]

theorem waits_setMark_of_ne {d e : Dest} (h : e ≠ d) (m : Bool) {s : State} (w : e.waits s) :
    e.waits (setMark d m s) := by
  cases d with
  | face i f =>
    cases e with
    | face j g =>
      obtain ⟨hj, hg, hw⟩ := w
      refine ⟨hj, hg, ?_⟩
      simp only [setMark, Guidance.setFace, Tab.nth_modify]
      split
      · rename_i hji
        obtain ⟨rfl, -⟩ := hji
        rw [Tab.nth_put_ne _ _ (fun hgf => h (by rw [hgf]))]
        exact hw
      · exact hw
    | _ => exact w
  | call a =>
    cases e with
    | call c =>
      simp only [Dest.waits, setMark] at w ⊢
      have hca : c ≠ a := fun hca => h (by rw [hca])
      cases m <;> simp [w, hca]
    | _ => exact w
  | group g =>
    cases e with
    | group k =>
      refine ⟨w.1, ?_⟩
      simp only [setMark, Tab.nth_modify]
      rw [if_neg (fun hk => h (by rw [hk.1]))]
      exact w.2
    | _ => exact w
  | lamp b =>
    cases e with
    | lamp c =>
      refine ⟨w.1, ?_⟩
      simp only [setMark, Tab.nth_modify]
      rw [if_neg (fun hc => h (by rw [hc.1]))]
      exact w.2
    | _ => exact w
  | faceAll => cases e <;> first | exact w | exact absurd rfl h
  | groupAll => cases e <;> first | exact w | exact absurd rfl h
  | lampAll => cases e <;> first | exact w | exact absurd rfl h

@[simp] theorem destKey_setMark (d e : Dest) (m : Bool) (s : State) : destKey (setMark d m s) e = destKey s e := by
  cases d <;> cases e <;> rfl

theorem slotWith_eq_none {b : FieldBus} {k : DestKey} :
    slotWith b k = none ↔ ∀ i x, b.slots.nth i = some x → x.key ≠ k := by
  simp only [slotWith, List.find?_eq_none, List.mem_range]
  constructor
  · intro h i x hx
    have hi : i < 16 := by
      by_contra hi
      rw [Tab.nth_of_ge _ (by omega)] at hx
      exact absurd hx (by simp)
    have := h i hi
    rw [hx] at this
    simpa using this
  · intro h i _
    split
    · rename_i x hx
      simpa using h i x hx
    · simp

theorem slotWith_ne_none {b : FieldBus} {k : DestKey} :
    slotWith b k ≠ none ↔ ∃ i x, b.slots.nth i = some x ∧ x.key = k := by
  rw [Ne, slotWith_eq_none]
  push Not
  rfl

/-- A slot written with the key it holds, or while it is free, takes no key away. -/
theorem slotWith_setSlot {b : FieldBus} {k : DestKey} {i : Nat} {y : Slot} (h : slotWith b k ≠ none)
    (hy : ∀ x, b.slots.nth i = some x → x.key = y.key) : slotWith (b.setSlot i (some y)) k ≠ none := by
  obtain ⟨j, x, hx, hk⟩ := slotWith_ne_none.mp h
  refine slotWith_ne_none.mpr ?_
  by_cases hji : j = i ∧ i < 16
  · obtain ⟨rfl, hj⟩ := hji
    exact ⟨j, y, by rw [setSlot_slots, Tab.nth_put_self _ _ hj], by rw [← hy x hx, hk]⟩
  · exact ⟨j, x, by rw [setSlot_slots, Tab.nth_put, if_neg hji, hx], hk⟩

theorem slotWith_setSlot_self (b : FieldBus) {i : Nat} {y : Slot} {k : DestKey} (hi : i < 16) (hk : y.key = k) :
    slotWith (b.setSlot i (some y)) k ≠ none :=
  slotWith_ne_none.mpr ⟨i, y, by rw [setSlot_slots, Tab.nth_put_self _ _ hi], hk⟩

theorem slotWith_lt {b : FieldBus} {k : DestKey} {i : Nat} (h : slotWith b k = some i) : i < 16 := by
  simpa using List.mem_of_find?_eq_some h

theorem slotWith_key {b : FieldBus} {k : DestKey} {i : Nat} {x : Slot} (h : slotWith b k = some i)
    (hx : b.slots.nth i = some x) : x.key = k := by
  have := List.find?_some h
  rw [hx] at this
  simpa using this

theorem freeSlot_lt {b : FieldBus} {i : Nat} (h : freeSlot b = some i) : i < 16 := by
  simpa using List.mem_of_find?_eq_some h

theorem freeSlot_free {b : FieldBus} {i : Nat} (h : freeSlot b = some i) : b.slots.nth i = none := by
  simpa using List.find?_some h

theorem onItsWay_iff {t : State} {d : Dest} :
    onItsWay t d ↔ d.waits t ∨ ∃ k, destKey t d = some k ∧ slotWith t.bus k ≠ none := by
  rw [onItsWay, mem_waitingDests]

/-- R166: a value that is on its way stays so as another destination's mark is set or cleared. -/
theorem onItsWay.setMark_of_ne {d e : Dest} {s : State} (w : onItsWay s e) (h : e ≠ d) (m : Bool) :
    onItsWay (setMark d m s) e := by
  rw [onItsWay_iff] at w ⊢
  refine w.imp (waits_setMark_of_ne h m) ?_
  rintro ⟨k, hk, hs⟩
  refine ⟨k, by rw [destKey_setMark, hk], ?_⟩
  rw [slotWith_ne_none, setMark_slots, ← slotWith_ne_none]
  exact hs

/-- A slot that holds a destination's key carries its value, whatever becomes of its mark. -/
theorem onItsWay_setMark_of_slot {d : Dest} {s : State} {k : DestKey} (hk : destKey s d = some k)
    (hs : slotWith s.bus k ≠ none) (m : Bool) : onItsWay (setMark d m s) d := by
  refine .inr ⟨k, by rw [destKey_setMark, hk], ?_⟩
  rw [slotWith_ne_none, setMark_slots, ← slotWith_ne_none]
  exact hs

/-- R166: a slot that takes a destination's key carries its value. -/
theorem onItsWay_setMark_setSlot {d : Dest} {s : State} {k : DestKey} {i : Nat} {y : Slot} (hk : destKey s d = some k)
    (hi : i < 16) (hy : y.key = k) (m : Bool) :
    onItsWay (setMark d m { s with bus := s.bus.setSlot i (some y) }) d := by
  refine .inr ⟨k, by rw [destKey_setMark, ← hk]; cases d <;> rfl, ?_⟩
  rw [slotWith_ne_none, setMark_slots, ← slotWith_ne_none]
  exact slotWith_setSlot_self s.bus hi hy

/-- A slot written with the key it holds, or while it is free, leaves every value on its way. -/
theorem onItsWay.setSlot {e : Dest} {s : State} (w : onItsWay s e) {i : Nat} {y : Slot}
    (hy : ∀ x, s.bus.slots.nth i = some x → x.key = y.key) :
    onItsWay { s with bus := s.bus.setSlot i (some y) } e := by
  rcases w with w | ⟨k, hk, hs⟩
  · rw [mem_waitingDests] at w
    rw [onItsWay_iff]
    left
    cases e <;> exact w
  · refine .inr ⟨k, ?_, slotWith_setSlot hs hy⟩
    rw [← hk]
    cases e <;> rfl

/-- R166: what `note` does: nothing, the mark is set, or the slot that holds the key takes the value. -/
theorem note_cases (d : Dest) (mark : Bool) (s : State) :
    (note d mark s = s ∧ (mark = true → destKey s d = none)) ∨ (mark = true ∧ note d mark s = setMark d true s) ∨
    ∃ k i y, destKey s d = some k ∧ i < 16 ∧ y.key = k ∧ (∀ x, s.bus.slots.nth i = some x → x.key = y.key) ∧
      note d mark s = setMark d false { s with bus := s.bus.setSlot i (some y) } := by
  unfold note
  split
  · rename_i hk
    exact .inl ⟨rfl, fun _ => hk⟩
  · rename_i k hk
    split
    · cases mark <;> simp
    · rename_i i hi
      split
      · rename_i hn
        exact absurd (List.find?_some hi) (by simp [hn])
      · rename_i x hx
        have hxk := slotWith_key hi hx
        split
        · cases mark <;> simp
        · exact .inr (.inr ⟨k, i, { x with data := destData s d }, hk, slotWith_lt hi, hxk, by simp [hx], rfl⟩)

/-- R166: forming or marking a destination takes no value off its way. -/
theorem onItsWay.note {e : Dest} {s : State} (w : onItsWay s e) (d : Dest) (mark : Bool) :
    onItsWay (note d mark s) e := by
  rcases note_cases d mark s with ⟨h, -⟩ | ⟨-, h⟩ | ⟨k, i, y, hk, hi, hy, hx, h⟩
  · rw [h]
    exact w
  · rw [h]
    by_cases hed : e = d
    · subst hed
      rcases w with w | ⟨k, hk, hs⟩
      · rw [onItsWay_iff]
        left
        rw [mem_waitingDests] at w
        refine waits_setMark ?_ s
        cases e <;> simp_all [Dest.waits, Dest.exists]
      · exact onItsWay_setMark_of_slot hk hs true
    · exact w.setMark_of_ne hed true
  · rw [h]
    by_cases hed : e = d
    · subst hed
      exact onItsWay_setMark_setSlot hk hi hy false
    · exact (w.setSlot hx).setMark_of_ne hed false

/-- R166: a destination with a key that is marked is on its way. -/
theorem onItsWay_note {d : Dest} (h : d.exists) {s : State} (hk : destKey s d ≠ none) : onItsWay (note d true s) d := by
  rcases note_cases d true s with ⟨-, h0⟩ | ⟨-, h1⟩ | ⟨k, i, y, hk, hi, hy, -, h2⟩
  · exact absurd (h0 rfl) hk
  · rw [h1]
    exact .inl (mem_waitingDests.mpr (waits_setMark h s))
  · rw [h2]
    exact onItsWay_setMark_setSlot hk hi hy false

theorem onItsWay.fillOne {e : Dest} {s : State} (w : onItsWay s e) (d : Dest) : onItsWay (fillOne s d) e := by
  unfold Machine.fillOne
  split
  · rename_i k i hk hi
    split
    · exact w
    · by_cases hed : e = d
      · subst hed
        exact onItsWay_setMark_setSlot hk (freeSlot_lt hi) rfl false
      · exact (w.setSlot (by rw [freeSlot_free hi]; simp)).setMark_of_ne hed false
  · exact w

/-- R165: filling the slots takes no value off its way. -/
theorem onItsWay.fillSlots {e : Dest} {s : State} (w : onItsWay s e) : onItsWay (fillSlots s) e := by
  unfold Machine.fillSlots
  split
  · exact w
  · generalize waitingDests s = ds
    clear * - w
    induction ds generalizing s with
    | nil => exact w
    | cons d ds ih => exact ih (w.fillOne d)

theorem fillOne_eq_self {s : State} {d : Dest}
    (h : freeSlot s.bus ≠ none → ∀ k, destKey s d = some k → slotWith s.bus k ≠ none) : fillOne s d = s := by
  unfold fillOne
  split
  · rename_i k i hk hi
    rw [if_pos (Option.isSome_iff_ne_none.mpr (h (by simp [hi]) k hk))]
  · rfl

/-- R165: where no destination waits beside a free slot, filling the slots changes nothing. -/
theorem fillSlots_eq_self {s : State} (h : FillLaw s) : fillSlots s = s := by
  unfold fillSlots
  split
  · rfl
  · rename_i hl
    have hd : ∀ d ∈ waitingDests s, fillOne s d = s := fun d hd =>
      fillOne_eq_self (fun hf => h (by simpa using hl) hf d hd)
    generalize waitingDests s = ds at hd
    induction ds with
    | nil => rfl
    | cons d ds ih =>
      rw [List.foldl_cons, hd d (by simp)]
      exact ih (fun e he => hd e (by simp [he]))

end Sys2Proof.Machine
end

section
/-! SUPPORT. What the operations on a bay leave in the bays (sections 1.3 to 1.8): the bay they name becomes one record, and
every other bay stands. -/

namespace Sys2Proof.Machine

section Reads

variable {bs : List Block} {s t : State}

theorem Does.running (h : Does bs s t) (n : bs.contains .cfg = false) : running t = running s := by
  simp only [Machine.running, h.cfg n]

theorem Does.bayOf (h : Does bs s t) (n : bs.contains .occ = false) (b : Nat) : bayOf t b = bayOf s b := by
  simp only [Machine.bayOf, h.occ n]

end Reads

theorem bayOf_of_ge (s : State) {b : Nat} (hb : 512 ≤ b) : bayOf s b = default := Tab.nth_of_ge _ hb

theorem bayOf_setBay (b c : Nat) (x : Bay) (s : State) :
    bayOf (setBay b x s) c = if c = b ∧ b < 512 then x else bayOf s c := Tab.nth_put _ _ _ _

/-- The part has no bay above 511 to write. -/
theorem setBay_of_ge {b : Nat} (hb : 512 ≤ b) (x : Bay) (s : State) : setBay b x s = s := by
  have h : s.occ.bays.put b x = s.occ.bays := Tab.ext_nth (fun c hc => Tab.nth_put_ne _ _ (by omega))
  simp only [setBay, h]

/-- From `s` to `t` bay `b` becomes `y`, and every other bay stands. -/
structure BayBecomes (b : Nat) (y : Bay) (s t : State) : Prop where
  self : bayOf t b = y
  others : ∀ c, c ≠ b → bayOf t c = bayOf s c

namespace BayBecomes

variable {b : Nat} {x y : Bay} {s t u : State} {bs : List Block}

theorem trans (h : BayBecomes b x s t) (k : BayBecomes b y t u) : BayBecomes b y s u :=
  ⟨k.self, fun c hc => (k.others c hc).trans (h.others c hc)⟩

theorem refl (b : Nat) (s : State) : BayBecomes b (bayOf s b) s s := ⟨rfl, fun _ _ => rfl⟩

/-- What leaves the bays leaves what a bay became. -/
theorem kept (h : BayBecomes b y s t) (k : Does bs t u) (n : bs.contains .occ = false) : BayBecomes b y s u :=
  ⟨(k.bayOf n b).trans h.self, fun c hc => (k.bayOf n c).trans (h.others c hc)⟩

end BayBecomes

theorem setBay_becomes {b : Nat} (hb : b < 512) (x : Bay) (s : State) : BayBecomes b x s (setBay b x s) :=
  ⟨by rw [bayOf_setBay, if_pos ⟨rfl, hb⟩], fun c hc => by rw [bayOf_setBay, if_neg (fun h => hc h.1)]⟩

/-- R4: a bay with its state derived again. -/
def Bay.derived (tracking : Bool) (x : Bay) : Bay := { x with state := bayStateOf tracking x }

@[simp] theorem bayOf_countFree (z k : Nat) (o n : BayState) (s : State) (b : Nat) :
    bayOf (countFree z k o n s) b = bayOf s b := by
  simp only [bayOf, countFree]
  split <;> rfl

theorem rederive_becomes {b : Nat} (hb : b < 512) (s : State) :
    BayBecomes b ((bayOf s b).derived (running s)) s (rederive b s) := by
  dsimp only [rederive]
  split
  · rename_i h
    exact ⟨by rw [Bay.derived, h], fun _ _ => rfl⟩
  · have hs := setBay_becomes hb ((bayOf s b).derived (running s)) s
    refine BayBecomes.kept ?_ (does_guideBay b _) rfl
    exact ⟨by rw [bayOf_countFree]; exact hs.self, fun c hc => by rw [bayOf_countFree]; exact hs.others c hc⟩

theorem bayOf_rederive_of_ge {b : Nat} (hb : 512 ≤ b) (s : State) (c : Nat) : bayOf (rederive b s) c = bayOf s c := by
  dsimp only [rederive]
  split
  · rfl
  · rw [(does_guideBay b _).bayOf rfl, bayOf_countFree, setBay_of_ge hb]

/-- A change of bay `b`, then a new derivation of its state. -/
theorem BayBecomes.rederive {b : Nat} {y : Bay} {s t : State} (h : BayBecomes b y s t) (hb : b < 512) :
    BayBecomes b (y.derived (running t)) s (rederive b t) := by
  have k := h.trans (rederive_becomes hb t)
  rwa [h.self] at k

theorem setBay_rederive_becomes {b : Nat} (hb : b < 512) (x : Bay) (s : State) :
    BayBecomes b (x.derived (running s)) s (rederive b (setBay b x s)) := (setBay_becomes hb x s).rederive hb

@[simp] theorem rederive_scan (b : Nat) (s : State) : (rederive b s).occ.scan = s.occ.scan := by
  dsimp only [rederive]
  split
  · rfl
  · rw [(does_guideBay b _).occ rfl]
    simp only [countFree]
    split <;> rfl

/-- R8, R10, R17: a bay whose sensed value takes a detection at second `now`. -/
def Bay.taking (d : Det) (now : BitVec 32) (x : Bay) : Bay :=
  { x with
    sensed := sensedOf d now
    pending := none
    admin := if d = .present ∧ isReserved x.admin = true then .inService else x.admin }

theorem takeSensed_becomes {b : Nat} (hb : b < 512) (d : Det) (s : State) :
    BayBecomes b (((bayOf s b).taking d s.time.clock).derived (running s)) s (takeSensed b d s) := by
  dsimp only [takeSensed]
  split
  · rename_i h
    refine BayBecomes.kept ?_ (does_post _ _) rfl
    simpa only [Bay.taking, if_pos h] using setBay_rederive_becomes hb _ s
  · rename_i h
    simpa only [Bay.taking, if_neg h] using setBay_rederive_becomes hb _ s

theorem loseSensed_becomes {b : Nat} (hb : b < 512) (s : State) :
    BayBecomes b (Bay.derived (running s) { bayOf s b with sensed := .nothing, pending := none }) s (loseSensed b s) :=
  setBay_rederive_becomes hb _ s

theorem settleBay_becomes {b : Nat} (hb : b < 512) (d : Det) (s : State) :
    BayBecomes b (((bayOf s b).taking d s.time.clock).derived (running s)) s (settleBay b d s) :=
  (takeSensed_becomes hb d s).kept (does_sensedChange b d _) rfl

theorem reserveBay_becomes {b : Nat} (hb : b < 512) (n : Nat) (s : State) :
    BayBecomes b (Bay.derived (running s) { bayOf s b with admin := .reserved n }) s (reserveBay b n s) :=
  setBay_rederive_becomes hb _ s

theorem cancelReservation_becomes {b : Nat} (hb : b < 512) (s : State) :
    BayBecomes b (Bay.derived (running s) { bayOf s b with admin := .inService }) s (cancelReservation b s) :=
  ((setBay_becomes hb _ s).kept (does_post _ _) rfl).rederive hb

theorem expireReservation_becomes {b : Nat} (hb : b < 512) (s : State) :
    BayBecomes b (Bay.derived (running s) { bayOf s b with admin := .inService }) s (expireReservation b s) :=
  ((setBay_becomes hb _ s).rederive hb).kept (does_post _ _) rfl

theorem openBay_becomes {b : Nat} (hb : b < 512) (s : State) :
    BayBecomes b (Bay.derived (running s) { bayOf s b with admin := .inService }) s (openBay b s) :=
  ((setBay_becomes hb _ s).kept (does_setClosure _ b false) rfl).rederive hb

theorem closeBay_becomes {b : Nat} (hb : b < 512) (s : State) :
    BayBecomes b (Bay.derived (running s) { bayOf s b with admin := .closed }) s (closeBay b s) := by
  dsimp only [closeBay]
  have hd : Does [.notices] s (if isReserved (bayOf s b).admin = true then post (.reservationEnd b .cancelled) s else s) :=
    Does.ite (fun _ => does_post _ s) (fun _ => .refl s)
  have h := ((((BayBecomes.refl b s).kept hd rfl).trans (setBay_becomes hb { bayOf s b with admin := .closed } _)).kept
    (does_setClosure _ b true) rfl).rederive hb
  have hr : running (setClosure b true (setBay b { bayOf s b with admin := .closed } (if isReserved (bayOf s b).admin = true
      then post (.reservationEnd b .cancelled) s else s))) = running s := hd.running rfl
  rwa [hr] at h

end Sys2Proof.Machine
end

section
/-! SUPPORT. What keeps the bay states derived, the free counts counted and the detector map one to one (R4, R14, R15, R21):
the operations of the occupancy unit, and whatever leaves the bays and the configuration. -/

namespace Sys2Proof.Machine

theorem zonePresent_lt {c : Cfg} {z : Nat} (h : zonePresent c z = true) : z < 16 := by
  by_contra hz
  rw [zonePresent, Tab.nth_of_ge _ (by omega)] at h
  simp [show (default : ZoneRec).present = false from rfl] at h

/-! ## The laws under a frame -/

/-- From `s` to `t` the laws of the bays read the same of the configuration. -/
structure SameTracking (s t : State) : Prop where
  state : t.cfg.state = s.cfg.state
  inForce : t.cfg.inForce = s.cfg.inForce
  map : t.cfg.map = s.cfg.map

theorem SameTracking.of_cfg {s t : State} (h : t.cfg = s.cfg) : SameTracking s t := ⟨by rw [h], by rw [h], by rw [h]⟩

theorem SameTracking.running {s t : State} (h : SameTracking s t) : running t = running s := by
  simp only [Machine.running, h.state]

theorem bayLaw_congr {s t : State} (hr : running t = running s)
    (h : ∀ b, b < 512 → (bayOf t b).state = (bayOf s b).state ∧
      bayStateOf (running s) (bayOf t b) = bayStateOf (running s) (bayOf s b)) : BayLaw s → BayLaw t := by
  intro l b hb
  rw [(h b hb).1, hr, (h b hb).2]
  exact l b hb

theorem freeBays_congr {s t : State} (hc : t.cfg.inForce = s.cfg.inForce)
    (h : ∀ b, b < 512 → (bayOf t b).zone = (bayOf s b).zone ∧ (bayOf t b).state = (bayOf s b).state)
    (z : Nat) (k : BayKind) : freeBays t z k = freeBays s z k := by
  refine congrArg List.length (List.filter_congr (fun b hb => ?_))
  obtain ⟨hz, hs⟩ := h b (List.mem_range.mp hb)
  rw [hz, hs, bayKind, bayKind, hc]

theorem freeLaw_congr {s t : State} (hr : running t = running s) (hc : t.cfg.inForce = s.cfg.inForce)
    (hf : t.occ.free = s.occ.free)
    (h : ∀ b, b < 512 → (bayOf t b).zone = (bayOf s b).zone ∧ (bayOf t b).state = (bayOf s b).state) :
    FreeLaw s → FreeLaw t := by
  intro l
  refine ⟨fun z k hz => ?_, fun hu => ?_⟩
  · rw [hf, freeBays_congr hc h]
    exact l.counts z k (by rwa [← hc])
  · obtain ⟨hu, hz⟩ := l.untracked (by rwa [← hr])
    exact ⟨fun b hb => by rw [(h b hb).2, hu b hb], fun z k => by rw [hf]; exact hz z k⟩

theorem mapLaw_congr {s t : State} (hm : t.cfg.map = s.cfg.map)
    (h : ∀ b, b < 512 → (bayOf t b).detector = (bayOf s b).detector) : MapLaw s → MapLaw t := by
  intro l
  exact ⟨by rw [hm]; exact l.addresses, by rw [hm]; exact l.bays, fun b hb => by rw [h b hb, hm]; exact l.detectors b hb⟩

/-- From `s` to `t` the laws of the bays, of the free counts and of the detector map are kept. -/
structure KeepsBays (s t : State) : Prop where
  bay : BayLaw s → BayLaw t
  free : FreeLaw s → FreeLaw t
  map : MapLaw s → MapLaw t

namespace KeepsBays

variable {s t u : State} {bs : List Block}

theorem refl (s : State) : KeepsBays s s := ⟨id, id, id⟩

theorem trans (h : KeepsBays s t) (k : KeepsBays t u) : KeepsBays s u :=
  ⟨k.bay ∘ h.bay, k.free ∘ h.free, k.map ∘ h.map⟩

theorem ite {c : Prop} [Decidable c] (h : c → KeepsBays s t) (k : ¬c → KeepsBays s u) :
    KeepsBays s (if c then t else u) := by
  split
  · exact h ‹_›
  · exact k ‹_›

theorem foldl {α : Type} (f : State → α → State) (h : ∀ t x, KeepsBays t (f t x)) (l : List α) (s : State) :
    KeepsBays s (l.foldl f s) := by
  induction l generalizing s with
  | nil => exact refl s
  | cons x l ih => exact (h s x).trans (ih _)

/-- What leaves the free counts, and of every bay the zone, the detector, the state and the state derived. -/
theorem of_bays (c : SameTracking s t) (hf : t.occ.free = s.occ.free)
    (h : ∀ b, b < 512 → (bayOf t b).zone = (bayOf s b).zone ∧ (bayOf t b).detector = (bayOf s b).detector ∧
      (bayOf t b).state = (bayOf s b).state ∧
      bayStateOf (Machine.running s) (bayOf t b) = bayStateOf (Machine.running s) (bayOf s b)) : KeepsBays s t where
  bay := bayLaw_congr c.running fun b hb => (h b hb).2.2
  free := freeLaw_congr c.running c.inForce hf fun b hb => ⟨(h b hb).1, (h b hb).2.2.1⟩
  map := mapLaw_congr c.map fun b hb => (h b hb).2.1

/-- What leaves the occupancy unit, and of the configuration the state, the copy in force and the map. -/
theorem of_same (c : SameTracking s t) (h : t.occ = s.occ) : KeepsBays s t :=
  of_bays c (by rw [h]) fun b _ => by rw [show bayOf t b = bayOf s b by rw [bayOf, bayOf, h]]; exact ⟨rfl, rfl, rfl, rfl⟩

/-- The same, for a change that leaves these by its form. -/
theorem of_fields (ho : t.occ = s.occ := by rfl) (hs : t.cfg.state = s.cfg.state := by rfl)
    (hc : t.cfg.inForce = s.cfg.inForce := by rfl) (hm : t.cfg.map = s.cfg.map := by rfl) : KeepsBays s t :=
  of_same ⟨hs, hc, hm⟩ ho

theorem of_does (h : Does bs s t) (o : bs.contains .occ = false) (c : bs.contains .cfg = false) : KeepsBays s t :=
  of_same (.of_cfg (h.cfg c)) (h.occ o)

/-- An operation of the other blocks after one that keeps the laws. -/
theorem after (h : KeepsBays s t) (k : Does bs t u) (o : bs.contains .occ = false) (c : bs.contains .cfg = false) :
    KeepsBays s u := h.trans (of_does k o c)

theorem post (h : KeepsBays s t) (n : Notice) : KeepsBays s (Machine.post n t) := h.after (does_post n t) rfl rfl

end KeepsBays

/-! ## A bay's record written -/

/-- A bay whose new record has the same zone, detector and state, and derives the same state, keeps the laws. -/
theorem keeps_setBay {b : Nat} {x : Bay} {s : State} (hz : x.zone = (bayOf s b).zone)
    (hd : x.detector = (bayOf s b).detector) (hs : x.state = (bayOf s b).state)
    (hr : bayStateOf (running s) x = bayStateOf (running s) (bayOf s b)) : KeepsBays s (setBay b x s) := by
  refine .of_bays ⟨rfl, rfl, rfl⟩ rfl fun c _ => ?_
  rw [bayOf_setBay]
  split
  · rename_i e
    rw [e.1]
    exact ⟨hz, hd, hs, hr⟩
  · exact ⟨rfl, rfl, rfl, rfl⟩

/-- So does one whose new record has the same zone, detector, state, admin value and sensed value. -/
theorem keeps_setBay_fields {b : Nat} {x : Bay} {s : State} (hz : x.zone = (bayOf s b).zone := by rfl)
    (hd : x.detector = (bayOf s b).detector := by rfl) (hs : x.state = (bayOf s b).state := by rfl)
    (ha : x.admin = (bayOf s b).admin := by rfl) (hv : x.sensed = (bayOf s b).sensed := by rfl) :
    KeepsBays s (setBay b x s) :=
  keeps_setBay hz hd hs (by rw [bayStateOf, bayStateOf, ha, hv])

/-! ## The state derived again (R14, R15) -/

/-- Two filters that differ at one member of the list at most. -/
theorem length_filter_change {l : List Nat} {b : Nat} (hl : l.Nodup) (hb : b ∈ l) {p q : Nat → Bool}
    (h : ∀ c ∈ l, c ≠ b → p c = q c) :
    (l.filter p).length + (q b).toNat = (l.filter q).length + (p b).toNat := by
  obtain ⟨l1, l2, rfl⟩ := List.append_of_mem hb
  have hn : b ∉ l1 ∧ b ∉ l2 := by
    have := List.nodup_append.mp hl
    obtain ⟨-, h2, h3⟩ := this
    exact ⟨fun hb1 => h3 b hb1 b (by simp) rfl, (List.nodup_cons.mp h2).1⟩
  have e1 : l1.filter p = l1.filter q :=
    List.filter_congr (fun c hc => h c (by simp [hc]) (fun e => hn.1 (e ▸ hc)))
  have e2 : l2.filter p = l2.filter q :=
    List.filter_congr (fun c hc => h c (by simp [hc]) (fun e => hn.2 (e ▸ hc)))
  cases hp : p b <;> cases hq : q b <;> simp [List.filter_append, e1, e2, hp, hq] <;> omega

/-- R14, R15: a bay of zone `zone` whose state changes moves the number of FREE bays of its zone and kind by one step of
their count, and no other number. -/
theorem freeBays_setState {b : Nat} (hb : b < 512) {st : BayState} {s : State} (hst : st ≠ (bayOf s b).state)
    (z : Nat) (k : BayKind) :
    freeBays (setBay b { bayOf s b with state := st } s) z k =
      if z = (bayOf s b).zone ∧ k = bayKind s b then countStep (bayOf s b).state st (freeBays s z k)
      else freeBays s z k := by
  have hs := setBay_becomes hb { bayOf s b with state := st } s
  have hk : ∀ c, bayKind (setBay b { bayOf s b with state := st } s) c = bayKind s c := fun _ => rfl
  have key := length_filter_change (l := List.range 512) (b := b) List.nodup_range (by simpa using hb)
    (p := fun c => (bayOf (setBay b { bayOf s b with state := st } s) c).zone == z &&
      bayKind (setBay b { bayOf s b with state := st } s) c == k &&
      (bayOf (setBay b { bayOf s b with state := st } s) c).state == .free)
    (q := fun c => (bayOf s c).zone == z && bayKind s c == k && (bayOf s c).state == .free)
    (fun c _ hc => by simp only [hs.others c hc, hk])
  change freeBays _ z k + _ = freeBays s z k + _ at key
  simp only [hs.self, hk] at key
  unfold countStep
  by_cases hz : (bayOf s b).zone = z ∧ bayKind s b = k
  · obtain ⟨rfl, rfl⟩ := hz
    rw [if_pos ⟨rfl, rfl⟩]
    simp only [beq_self_eq_true, Bool.true_and] at key
    by_cases h1 : st = .free
    · have h2 : ((bayOf s b).state == .free) = false := beq_eq_false_iff_ne.mpr (fun h => hst (h1.trans h.symm))
      simpa [h1, h2] using key
    · have h1' : (st == .free) = false := beq_eq_false_iff_ne.mpr h1
      rw [if_neg h1]
      by_cases h2 : (bayOf s b).state = .free
      · rw [if_pos h2]
        exact Nat.eq_sub_of_add_eq (by simpa [h1', h2] using key)
      · rw [if_neg h2]
        simpa [h1', beq_eq_false_iff_ne.mpr h2] using key
  · rw [if_neg (fun h => hz ⟨h.1.symm, h.2.symm⟩)]
    rw [← beq_iff_eq (a := (bayOf s b).zone), ← beq_iff_eq (a := bayKind s b), ← Bool.and_eq_true, Bool.not_eq_true] at hz
    simpa [hz] using key

theorem kind_ctorIdx_inj {k l : BayKind} (h : k.ctorIdx = l.ctorIdx) : k = l := by
  cases k <;> cases l <;> first | rfl | exact absurd h (by decide)

/-- R15: what the free count of zone `z` and kind `k` is after a step of the count of `zone` and `kind`. -/
theorem countFree_count {zone : Nat} {kind : BayKind} {o n : BayState} {s : State} {z : Nat}
    (hz : zonePresent s.cfg.inForce z = true) (k : BayKind) :
    ((countFree zone kind.ctorIdx o n s).occ.free.nth z).nth k.ctorIdx =
      if z = zone ∧ k = kind then countStep o n ((s.occ.free.nth z).nth k.ctorIdx)
      else (s.occ.free.nth z).nth k.ctorIdx := by
  have hz16 := zonePresent_lt hz
  have hk4 : kind.ctorIdx < 4 := by cases kind <;> decide
  unfold countFree
  split
  · rename_i hp
    simp only [Tab.nth_modify]
    by_cases e : z = zone
    · subst e
      rw [if_pos ⟨rfl, hz16⟩, Tab.nth_put]
      by_cases ek : k = kind
      · subst ek
        simp [hk4]
      · rw [if_neg (fun h => ek (kind_ctorIdx_inj h.1)), if_neg (fun h => ek h.2)]
    · rw [if_neg (fun h => e h.1), if_neg (fun h => e h.1)]
  · rename_i hp
    rw [if_neg (fun h : z = zone ∧ k = kind => hp (h.1 ▸ hz))]

theorem bayLaw_rederive {b : Nat} {s : State}
    (h : ∀ c, c < 512 → c ≠ b → (bayOf s c).state = bayStateOf (running s) (bayOf s c)) : BayLaw (rederive b s) := by
  have hr : running (rederive b s) = running s := (does_rederive b s).running rfl
  intro c hc
  rw [hr]
  by_cases e : c = b
  · subst e
    rw [(rederive_becomes hc s).self]
    rfl
  · by_cases hb : b < 512
    · rw [(rederive_becomes hb s).others c e]
      exact h c hc e
    · rw [bayOf_rederive_of_ge (by omega)]
      exact h c hc e

theorem freeLaw_rederive {b : Nat} {s : State} (l : FreeLaw s) : FreeLaw (rederive b s) := by
  by_cases hst : bayStateOf (running s) (bayOf s b) = (bayOf s b).state
  · have e : rederive b s = s := by
      dsimp only [rederive]
      rw [if_pos hst]
    rwa [e]
  · have e : rederive b s = guideBay b (countFree (bayOf s b).zone (bayKind s b).ctorIdx (bayOf s b).state
        (bayStateOf (running s) (bayOf s b))
        (setBay b { bayOf s b with state := bayStateOf (running s) (bayOf s b) } s)) := by
      dsimp only [rederive]
      rw [if_neg hst]
    rw [e]
    refine (KeepsBays.of_does (does_guideBay b _) rfl rfl).free ?_
    have hc : (countFree (bayOf s b).zone (bayKind s b).ctorIdx (bayOf s b).state
        (bayStateOf (running s) (bayOf s b))
        (setBay b { bayOf s b with state := bayStateOf (running s) (bayOf s b) } s)).cfg = s.cfg :=
      (does_countFree _ _ _ _ _).cfg rfl
    refine ⟨fun z k hz => ?_, fun hr => ?_⟩
    · rw [hc] at hz
      rw [countFree_count (s := setBay b _ s) hz, freeBays_congr (s := setBay b { bayOf s b with state := _ } s) (by rw [hc]; rfl)
        (fun c _ => by rw [bayOf_countFree]; exact ⟨rfl, rfl⟩)]
      change (if _ then countStep _ _ ((s.occ.free.nth z).nth k.ctorIdx) else (s.occ.free.nth z).nth k.ctorIdx) = _
      by_cases hb : b < 512
      · rw [freeBays_setState hb hst, l.counts z k hz]
      · rw [setBay_of_ge (by omega), bayOf_of_ge s (by omega)]
        have hz0 : z ≠ (default : Bay).zone := by
          rintro rfl
          simp [zonePresent, show (default : Bay).zone = 0 from rfl] at hz
        rw [if_neg (fun h => hz0 h.1), l.counts z k hz]
    · have hr' : running s = false := by rwa [running, hc] at hr
      obtain ⟨hu, hz⟩ := l.untracked hr'
      by_cases hb : b < 512
      · exact absurd (by rw [hr', hu b hb]; rfl) hst
      · rw [setBay_of_ge (by omega), bayOf_of_ge s (by omega)]
        have h0 : ∀ k n o, countFree (default : Bay).zone k o n s = s := fun k n o => by
          unfold countFree
          rw [if_neg (by simp [zonePresent, show (default : Bay).zone = 0 from rfl])]
        rw [h0]
        exact ⟨hu, hz⟩

/-- A change of bay `b` that leaves its zone, its detector and its state, and then the new derivation of its state. -/
theorem keeps_rederive {b : Nat} {s u : State} (x : Bay) (c : SameTracking s u) (ho : u.occ = (setBay b x s).occ)
    (hz : x.zone = (bayOf s b).zone) (hd : x.detector = (bayOf s b).detector) (hs : x.state = (bayOf s b).state) :
    KeepsBays s (rederive b u) := by
  have h : ∀ c, bayOf u c = x ∧ c = b ∨ bayOf u c = bayOf s c := by
    intro c
    rw [show bayOf u c = bayOf (setBay b x s) c by rw [bayOf, bayOf, ho], bayOf_setBay]
    split
    · rename_i e
      exact .inl ⟨rfl, e.1⟩
    · exact .inr rfl
  refine ⟨fun l => bayLaw_rederive fun d hd' hne => ?_, fun l => freeLaw_rederive (freeLaw_congr c.running c.inForce ?_ (fun d _ => ?_) l),
    fun l => ?_⟩
  · rcases h d with ⟨-, e⟩ | e
    · exact absurd e hne
    · rw [e, c.running]
      exact l d hd'
  · rw [ho]
    rfl
  · rcases h d with ⟨e, rfl⟩ | e <;> rw [e]
    · exact ⟨hz, hs⟩
    · exact ⟨rfl, rfl⟩
  · have hdet : ∀ d, d < 512 → (bayOf (rederive b u) d).detector = (bayOf s d).detector := by
      intro d hd512
      have hu : (bayOf u d).detector = (bayOf s d).detector := by
        rcases h d with ⟨e, rfl⟩ | e <;> rw [e]
        exact hd
      by_cases e : d = b
      · subst e
        rw [(rederive_becomes hd512 u).self]
        exact hu
      · rw [← hu]
        by_cases hb : b < 512
        · rw [(rederive_becomes hb u).others d e]
        · rw [bayOf_rederive_of_ge (by omega)]
    refine mapLaw_congr ?_ hdet l
    rw [(does_rederive b u).cfg rfl]
    exact c.map

theorem keeps_setBay_rederive {b : Nat} {x : Bay} {s : State} (hz : x.zone = (bayOf s b).zone := by rfl)
    (hd : x.detector = (bayOf s b).detector := by rfl) (hs : x.state = (bayOf s b).state := by rfl) :
    KeepsBays s (rederive b (setBay b x s)) := keeps_rederive x ⟨rfl, rfl, rfl⟩ rfl hz hd hs

end Sys2Proof.Machine
end

section
/-! SUPPORT. The operations of the occupancy unit keep the laws of the bays; what a binding and its removal do to the
detector map (R21 to R24). -/

namespace Sys2Proof.Machine

/-! ## Operations on bays -/

theorem keeps_takeSensed (b : Nat) (d : Det) (s : State) : KeepsBays s (takeSensed b d s) := by
  dsimp only [takeSensed]
  refine .ite (fun _ => ?_) (fun _ => ?_)
  · exact .post keeps_setBay_rederive _
  · exact keeps_setBay_rederive

theorem keeps_loseSensed (b : Nat) (s : State) : KeepsBays s (loseSensed b s) := keeps_setBay_rederive

theorem keeps_settleBay (b : Nat) (d : Det) (s : State) : KeepsBays s (settleBay b d s) :=
  (keeps_takeSensed b d s).after (does_sensedChange b d _) rfl rfl

theorem keeps_faultReport (b : Nat) (s : State) : KeepsBays s (faultReport b s) := by
  dsimp only [faultReport]
  have h : KeepsBays s (loseSensed b (setBay b { bayOf s b with health := .fault, lastHeard := 0 } s)) :=
    .trans keeps_setBay_fields (keeps_loseSensed b _)
  exact .ite (fun _ => h.post _) (fun _ => h)

theorem keeps_compareReport (b : Nat) (d : Det) (s : State) : KeepsBays s (compareReport b d s) := by
  dsimp only [compareReport]
  refine .ite (fun _ => keeps_setBay_fields) (fun _ => .ite (fun _ => .refl s) (fun _ => ?_))
  exact .ite (fun _ => keeps_settleBay b d s) (fun _ => keeps_setBay_fields)

theorem keeps_okReport (b : Nat) (d : Det) (s : State) : KeepsBays s (okReport b d s) := by
  dsimp only [okReport]
  have h : KeepsBays s (setBay b { bayOf s b with health := .ok, lastHeard := 0 } s) := keeps_setBay_fields
  have k : KeepsBays s (if (bayOf s b).sensed = .nothing
      then takeSensed b d (setBay b { bayOf s b with health := .ok, lastHeard := 0 } s)
      else compareReport b d (setBay b { bayOf s b with health := .ok, lastHeard := 0 } s)) :=
    .ite (fun _ => h.trans (keeps_takeSensed b d _)) (fun _ => h.trans (keeps_compareReport b d _))
  exact .ite (fun _ => k.post _) (fun _ => k)

theorem keeps_bayReport (b : Nat) (d : Det) (h : Health) (s : State) : KeepsBays s (bayReport b d h s) := by
  cases h
  · exact keeps_okReport b d s
  · exact keeps_faultReport b s

theorem keeps_settleTap (b : Nat) (s : State) : KeepsBays s (settleTap b s) := by
  dsimp only [settleTap]
  split
  · exact .ite (fun _ => keeps_settleBay b _ s) (fun _ => keeps_setBay_fields)
  · exact .refl s

theorem keeps_expireReservation (b : Nat) (s : State) : KeepsBays s (expireReservation b s) :=
  .post keeps_setBay_rederive _

theorem keeps_reservationTap (b : Nat) (s : State) : KeepsBays s (reservationTap b s) := by
  dsimp only [reservationTap]
  split
  · rename_i n hn
    refine .ite (fun _ => keeps_expireReservation b s) (fun _ => keeps_setBay rfl rfl rfl ?_)
    simp only [bayStateOf, hn]
    cases (bayOf s b).sensed <;> rfl
  · exact .refl s
  · exact .refl s

theorem keeps_scanBay (b : Nat) (s : State) : KeepsBays s (scanBay b s) := by
  dsimp only [scanBay]
  exact .ite (fun _ => (keeps_loseSensed b s).post _) (fun _ => .refl s)

theorem keeps_scanTap (s : State) : KeepsBays s (scanTap s) := by
  dsimp only [scanTap]
  have h : ∀ n, KeepsBays s { s with occ := { s.occ with scan := n } } := fun n =>
    .of_bays ⟨rfl, rfl, rfl⟩ rfl (fun _ _ => ⟨rfl, rfl, rfl, rfl⟩)
  exact .ite (fun _ => (h _).trans (.foldl _ (fun t b => keeps_scanBay b t) _ _)) (fun _ => h _)

theorem keeps_bayT4 (s : State) : KeepsBays s (bayT4 s) := by
  dsimp only [bayT4]
  exact .ite (fun _ => .foldl _ (fun t b => keeps_settleTap b t) _ s) (fun _ => .refl s)

theorem keeps_heardTap (s : State) : KeepsBays s { s with occ := { s.occ with bays := s.occ.bays.each heardTap } } := by
  refine .of_bays ⟨rfl, rfl, rfl⟩ rfl fun b hb => ?_
  have h : bayOf { s with occ := { s.occ with bays := s.occ.bays.each heardTap } } b = heardTap (bayOf s b) :=
    Tab.nth_each _ _ hb
  rw [h, heardTap]
  split <;> exact ⟨rfl, rfl, rfl, rfl⟩

theorem keeps_bayT1 (s : State) : KeepsBays s (bayT1 s) := by
  dsimp only [bayT1]
  refine .ite (fun _ => ?_) (fun _ => .refl s)
  exact ((keeps_heardTap s).trans (.foldl _ (fun t b => keeps_reservationTap b t) _ _)).trans (keeps_scanTap _)

theorem keeps_reserveBay (b n : Nat) (s : State) : KeepsBays s (reserveBay b n s) :=
  keeps_setBay_rederive

theorem keeps_cancelReservation (b : Nat) (s : State) : KeepsBays s (cancelReservation b s) :=
  keeps_rederive { bayOf s b with admin := .inService } ⟨rfl, rfl, rfl⟩ rfl rfl rfl rfl

theorem keeps_closeBay (b : Nat) (s : State) : KeepsBays s (closeBay b s) := by
  dsimp only [closeBay]
  split <;> exact keeps_rederive { bayOf s b with admin := .closed } ⟨rfl, rfl, rfl⟩ rfl rfl rfl rfl

theorem keeps_openBay (b : Nat) (s : State) : KeepsBays s (openBay b s) :=
  keeps_rederive { bayOf s b with admin := .inService } ⟨rfl, rfl, rfl⟩ rfl rfl rfl rfl

theorem keeps_lampLost (b : Nat) (s : State) : KeepsBays s (lampLost b s) := by
  dsimp only [lampLost]
  exact .ite (fun _ => .refl s) (fun _ => .post keeps_setBay_fields _)

theorem keeps_lampReached (b : Nat) (s : State) : KeepsBays s (lampReached b s) := by
  dsimp only [lampReached]
  exact .ite (fun _ => .post keeps_setBay_fields _) (fun _ => .refl s)

/-! ## The detector map (R21) -/

theorem entryAddr_eq_iff {set : Nat} (h : set < 128) (e : MapEntry) (a : Addr) :
    entryAddr set e = a ↔ set = a % 128 ∧ e.tag = a / 128 := by
  unfold entryAddr
  constructor
  · rintro rfl
    omega
  · rintro ⟨rfl, ht⟩
    rw [ht]
    exact Nat.div_add_mod' a 128

theorem mem_mapEntries {m : DetMap} {x : Nat × Nat × MapEntry} :
    x ∈ mapEntries m ↔ x.1 < 128 ∧ x.2.1 < 4 ∧ (m.nth x.1).nth x.2.1 = some x.2.2 := by
  obtain ⟨set, way, e⟩ := x
  simp only [mapEntries, List.mem_flatMap, List.mem_range, List.mem_filterMap, Option.map_eq_some_iff]
  constructor
  · rintro ⟨s, hs, w, hw, e', he, heq⟩
    obtain ⟨rfl, rfl, rfl⟩ : s = set ∧ w = way ∧ e' = e := by simpa using heq
    exact ⟨hs, hw, he⟩
  · rintro ⟨hs, hw, he⟩
    exact ⟨set, hs, way, hw, e, he, rfl⟩

theorem mapEntries_nodup (m : DetMap) : (mapEntries m).Nodup := by
  refine List.nodup_flatMap.mpr ⟨fun set _ => ?_, ?_⟩
  · refine List.Nodup.filterMap (fun w v x hw hv => ?_) List.nodup_range
    simp only [Option.mem_def, Option.map_eq_some_iff] at hw hv
    obtain ⟨e, -, rfl⟩ := hw
    obtain ⟨f, -, h⟩ := hv
    simp only [Prod.mk.injEq] at h
    exact h.2.1.symm
  · refine List.Pairwise.imp ?_ (List.nodup_range (n := 128))
    intro s t hst x hx hy
    simp only [List.mem_filterMap, Option.map_eq_some_iff] at hx hy
    obtain ⟨_, -, _, -, rfl⟩ := hx
    obtain ⟨_, -, _, -, h⟩ := hy
    simp only [Prod.mk.injEq] at h
    exact hst h.1.symm

/-- Distinct entries have distinct values of `f`: the pairwise form over the entries in order. -/
theorem mapEntries_pairwise {α : Type} (m : DetMap) (f : Nat × Nat × MapEntry → α) :
    (mapEntries m).Pairwise (fun x y => f x ≠ f y) ↔ ∀ x ∈ mapEntries m, ∀ y ∈ mapEntries m, f x = f y → x = y := by
  constructor
  · intro h x hx y hy e
    by_contra hne
    have : Std.Symm (fun x y => f x ≠ f y) := ⟨fun _ _ h => h.symm⟩
    exact h.forall hx hy hne e
  · intro h
    exact (mapEntries_nodup m).pairwise_of_forall_ne (fun x hx y hy hne e => hne (h x hx y hy e))

theorem boundAddr_eq_none {es : List (Nat × Nat × MapEntry)} {b : Nat} :
    boundAddr es b = none ↔ ∀ x ∈ es, x.2.2.bay ≠ b := by
  simp [boundAddr]

/-- R21: where no two entries name one bay, the address of a bay is that of its entry. -/
theorem boundAddr_eq {m : DetMap} (h : ∀ x ∈ mapEntries m, ∀ y ∈ mapEntries m, x.2.2.bay = y.2.2.bay → x = y)
    {x : Nat × Nat × MapEntry} (hx : x ∈ mapEntries m) :
    boundAddr (mapEntries m) x.2.2.bay = some (entryAddr x.1 x.2.2) := by
  unfold boundAddr
  cases hf : (mapEntries m).find? (fun e => e.2.2.bay == x.2.2.bay) with
  | none => exact absurd (List.find?_eq_none.mp hf x hx) (by simp)
  | some y =>
    have hy := List.mem_of_find?_eq_some hf
    have hb := List.find?_some hf
    rw [h y hy x hx (by simpa using hb)]
    rfl

theorem boundAddr_congr {m k : DetMap} {b : Nat} (hm : ∀ x ∈ mapEntries m, ∀ y ∈ mapEntries m, x.2.2.bay = y.2.2.bay → x = y)
    (hk : ∀ x ∈ mapEntries k, ∀ y ∈ mapEntries k, x.2.2.bay = y.2.2.bay → x = y)
    (h : ∀ x, x.2.2.bay = b → (x ∈ mapEntries m ↔ x ∈ mapEntries k)) :
    boundAddr (mapEntries m) b = boundAddr (mapEntries k) b := by
  cases hb : boundAddr (mapEntries k) b with
  | none =>
    rw [boundAddr_eq_none] at hb ⊢
    exact fun x hx e => hb x ((h x e).mp hx) e
  | some a =>
    have hne : ¬ ∀ x ∈ mapEntries k, x.2.2.bay ≠ b := fun hn => by simp [boundAddr_eq_none.mpr hn] at hb
    push Not at hne
    obtain ⟨x, hx, rfl⟩ := hne
    rw [boundAddr_eq hk hx] at hb
    rw [boundAddr_eq hm ((h x rfl).mpr hx), hb]

theorem mapPut_nth (m : DetMap) (i j : Nat) (e : Option MapEntry) (set way : Nat) :
    ((mapPut m i j e).nth set).nth way =
      if set = i ∧ way = j ∧ i < 128 ∧ j < 4 then e else (m.nth set).nth way := by
  simp only [mapPut, Tab.nth_modify]
  by_cases h : set = i ∧ i < 128
  · obtain ⟨rfl, hi⟩ := h
    rw [if_pos ⟨rfl, hi⟩, Tab.nth_put]
    by_cases hw : way = j ∧ j < 4
    · rw [if_pos hw, if_pos ⟨rfl, hw.1, hi, hw.2⟩]
    · rw [if_neg hw, if_neg (fun h => hw ⟨h.2.1, h.2.2.2⟩)]
  · rw [if_neg h, if_neg (fun k => h ⟨k.1, k.2.2.1⟩)]

/-- R21: what the way of an address is: the way that holds it. -/
theorem mapWay_some {m : DetMap} {a : Addr} {w : Nat} (h : mapWay m a = some w) :
    w < 4 ∧ ∃ e, (m.nth (a % 128)).nth w = some e ∧ e.tag = a / 128 := by
  refine ⟨by simpa using List.mem_of_find?_eq_some h, ?_⟩
  have := List.find?_some h
  split at this
  · rename_i e he
    exact ⟨e, he, by simpa using this⟩
  · exact absurd this (by simp)

/-- R21: an address has no way exactly when no entry holds it. -/
theorem mapWay_none {m : DetMap} {a : Addr} :
    mapWay m a = none ↔ ∀ x ∈ mapEntries m, entryAddr x.1 x.2.2 ≠ a := by
  simp only [mapWay, List.find?_eq_none, List.mem_range]
  constructor
  · rintro h ⟨set, way, e⟩ hx ha
    obtain ⟨hs, hw, he⟩ := mem_mapEntries.mp hx
    obtain ⟨rfl, ht⟩ := (entryAddr_eq_iff hs e a).mp ha
    have := h way hw
    simp only at he
    rw [he] at this
    simp [ht] at this
  · intro h w hw
    split
    · rename_i e he
      intro ht
      have hx : (a % 128, w, e) ∈ mapEntries m := mem_mapEntries.mpr ⟨by omega, hw, he⟩
      refine h _ hx ((entryAddr_eq_iff (by omega) e a).mpr ⟨rfl, by simpa using ht⟩)
    · simp

theorem mapBay_of_way {m : DetMap} {a : Addr} {w : Nat} (h : mapWay m a = some w) {e : MapEntry}
    (he : (m.nth (a % 128)).nth w = some e) : mapBay m a = some e.bay := by
  simp [mapBay, h, he]

/-- R21: the law of the detector map, over its entries. -/
theorem mapLaw_iff {s : State} : MapLaw s ↔
    (∀ x ∈ mapEntries s.cfg.map, ∀ y ∈ mapEntries s.cfg.map, entryAddr x.1 x.2.2 = entryAddr y.1 y.2.2 → x = y) ∧
    (∀ x ∈ mapEntries s.cfg.map, ∀ y ∈ mapEntries s.cfg.map, x.2.2.bay = y.2.2.bay → x = y) ∧
    ∀ b, b < 512 → (bayOf s b).detector = boundAddr (mapEntries s.cfg.map) b := by
  rw [← mapEntries_pairwise s.cfg.map (fun x => entryAddr x.1 x.2.2), ← mapEntries_pairwise s.cfg.map (fun x => x.2.2.bay)]
  exact ⟨fun h => ⟨h.addresses, h.bays, h.detectors⟩, fun ⟨h1, h2, h3⟩ => ⟨h1, h2, h3⟩⟩

/-- R23: an address that is not bound, bound to a bay without one in a free way. -/
theorem mapLaw_bind {a b way : Nat} {s t : State} (hway : mapWay s.cfg.map a = none) (hb : b < 512)
    (hdet : (bayOf s b).detector = none) (hw : way < 4) (hm : t.cfg.map = mapPut s.cfg.map (a % 128) way (some ⟨a / 128, b⟩))
    (hfree : (s.cfg.map.nth (a % 128)).nth way = none)
    (hd : ∀ c, c < 512 → (bayOf t c).detector = if c = b then some a else (bayOf s c).detector) (l : MapLaw s) :
    MapLaw t := by
  obtain ⟨la, lb, ld⟩ := mapLaw_iff.mp l
  have hfresh : ∀ x ∈ mapEntries s.cfg.map, x.2.2.bay ≠ b := boundAddr_eq_none.mp (by rw [← ld b hb, hdet])
  have ha := mapWay_none.mp hway
  have hself : entryAddr (a % 128) ⟨a / 128, b⟩ = a := (entryAddr_eq_iff (by omega) _ _).mpr ⟨rfl, rfl⟩
  have hmem : ∀ x, x ∈ mapEntries t.cfg.map ↔ x = (a % 128, way, ⟨a / 128, b⟩) ∨ x ∈ mapEntries s.cfg.map := by
    rintro ⟨set, w, e⟩
    rw [mem_mapEntries, mem_mapEntries, hm, mapPut_nth]
    by_cases h : set = a % 128 ∧ w = way
    · obtain ⟨rfl, rfl⟩ := h
      rw [if_pos ⟨rfl, rfl, by omega, hw⟩]
      simp only [hfree, Prod.mk.injEq, true_and, Option.some.injEq]
      constructor
      · rintro ⟨-, -, rfl⟩
        exact .inl rfl
      · rintro (rfl | ⟨-, -, h⟩)
        · exact ⟨by omega, hw, rfl⟩
        · exact absurd h (by simp)
    · rw [if_neg (fun k => h ⟨k.1, k.2.1⟩)]
      simp only [Prod.mk.injEq]
      exact ⟨.inr, fun k => k.resolve_left (fun k => h ⟨k.1, k.2.1⟩)⟩
  have kb : ∀ x ∈ mapEntries t.cfg.map, ∀ y ∈ mapEntries t.cfg.map, x.2.2.bay = y.2.2.bay → x = y := by
    intro x hx y hy e
    rcases (hmem x).mp hx with rfl | hx <;> rcases (hmem y).mp hy with rfl | hy
    · rfl
    · exact absurd e.symm (hfresh y hy)
    · exact absurd e (hfresh x hx)
    · exact lb x hx y hy e
  refine mapLaw_iff.mpr ⟨fun x hx y hy e => ?_, kb, fun c hc => ?_⟩
  · rcases (hmem x).mp hx with rfl | hx <;> rcases (hmem y).mp hy with rfl | hy
    · rfl
    · exact absurd (e.symm.trans hself) (ha y hy)
    · exact absurd (e.trans hself) (ha x hx)
    · exact la x hx y hy e
  · rw [hd c hc]
    split
    · rename_i e
      subst e
      have := boundAddr_eq kb ((hmem _).mpr (.inl rfl))
      rw [this]
      simp only [hself]
    · rename_i e
      rw [ld c hc]
      refine (boundAddr_congr kb lb (fun x hx => ?_)).symm
      rw [hmem x]
      exact ⟨fun k => k.resolve_left (fun k => e (by rw [← hx, k])), .inr⟩

/-- R24: the binding of an address removed. -/
theorem mapLaw_unbind {a way : Nat} {e : MapEntry} {s t : State} (hway : mapWay s.cfg.map a = some way)
    (he : (s.cfg.map.nth (a % 128)).nth way = some e) (hm : t.cfg.map = mapPut s.cfg.map (a % 128) way none)
    (hd : ∀ c, c < 512 → (bayOf t c).detector = if c = e.bay then none else (bayOf s c).detector) (l : MapLaw s) :
    MapLaw t := by
  obtain ⟨la, lb, ld⟩ := mapLaw_iff.mp l
  have hw := (mapWay_some hway).1
  have hx0 : (a % 128, way, e) ∈ mapEntries s.cfg.map := mem_mapEntries.mpr ⟨by omega, hw, he⟩
  have hmem : ∀ x, x ∈ mapEntries t.cfg.map ↔ x ∈ mapEntries s.cfg.map ∧ x ≠ (a % 128, way, e) := by
    rintro ⟨set, w, f⟩
    rw [mem_mapEntries, mem_mapEntries, hm, mapPut_nth]
    by_cases h : set = a % 128 ∧ w = way
    · obtain ⟨rfl, rfl⟩ := h
      rw [if_pos ⟨rfl, rfl, by omega, hw⟩]
      simp only [he, Option.some.injEq, ne_eq, Prod.mk.injEq, true_and]
      constructor
      · rintro ⟨-, -, h⟩
        exact absurd h (by simp)
      · rintro ⟨⟨-, -, rfl⟩, h⟩
        exact absurd rfl h
    · rw [if_neg (fun k => h ⟨k.1, k.2.1⟩)]
      simp only [ne_eq, Prod.mk.injEq]
      exact ⟨fun k => ⟨k, fun k => h ⟨k.1, k.2.1⟩⟩, fun k => k.1⟩
  have kb : ∀ x ∈ mapEntries t.cfg.map, ∀ y ∈ mapEntries t.cfg.map, x.2.2.bay = y.2.2.bay → x = y :=
    fun x hx y hy h => lb x ((hmem x).mp hx).1 y ((hmem y).mp hy).1 h
  refine mapLaw_iff.mpr ⟨fun x hx y hy h => la x ((hmem x).mp hx).1 y ((hmem y).mp hy).1 h, kb, fun c hc => ?_⟩
  rw [hd c hc]
  split
  · rename_i h
    refine (boundAddr_eq_none.mpr (fun x hx hxc => ?_)).symm
    obtain ⟨hx1, hx2⟩ := (hmem x).mp hx
    exact hx2 (lb x hx1 _ hx0 (by rw [hxc, h]))
  · rename_i h
    rw [ld c hc]
    refine (boundAddr_congr kb lb (fun x hx => ?_)).symm
    rw [hmem x]
    exact ⟨fun k => k.1, fun k => ⟨k, fun k => h (by rw [← hx, k])⟩⟩

end Sys2Proof.Machine
end

section
/-! SUPPORT. The resets, the loads, the entries and the bindings keep the laws of the bays (R5, R21, R23, R24, R28). -/

namespace Sys2Proof.Machine

/-! ## No bay FREE -/

theorem freeBays_eq_zero {s : State} (h : ∀ b, b < 512 → (bayOf s b).state ≠ .free) (z : Nat) (k : BayKind) :
    freeBays s z k = 0 := by
  rw [freeBays, List.length_eq_zero_iff, List.filter_eq_nil_iff]
  intro b hb
  simp [h b (List.mem_range.mp hb)]

theorem BayKind.ctorIdx_lt (k : BayKind) : k.ctorIdx < 4 := by cases k <;> decide

/-- R5, R15: the free counts all 0 and no bay FREE; outside RUNNING every bay is UNKNOWN. -/
theorem freeLaw_of_zero {s : State} (hf : ∀ z k, z < 16 → k < 4 → (s.occ.free.nth z).nth k = 0)
    (hs : ∀ b, b < 512 → (bayOf s b).state ≠ .free)
    (hu : running s = false → ∀ b, b < 512 → (bayOf s b).state = .unknown) : FreeLaw s :=
  ⟨fun z k hz => by rw [hf z _ (zonePresent_lt hz) (BayKind.ctorIdx_lt k), freeBays_eq_zero hs], fun hr => ⟨hu hr, hf⟩⟩

theorem zeroCounts (z k : Nat) (hz : z < 16) (hk : k < 4) :
    ((Tab.fill 16 (Tab.fill 4 0) : Tab (Tab Nat 4) 16).nth z).nth k = 0 := by simp [hz, hk]

/-! ## Resets (R28) -/

theorem mapEntries_emptyMap : mapEntries emptyMap = [] := by
  refine List.eq_nil_iff_forall_not_mem.mpr fun x hx => ?_
  obtain ⟨h1, h2, h3⟩ := mem_mapEntries.mp hx
  simp [emptyMap, h1, h2] at h3

theorem bayOf_start {s : State} (h : s.occ = Occupancy.start) {b : Nat} (hb : b < 512) : bayOf s b = Bay.start := by
  rw [bayOf, h]
  simp [Occupancy.start, hb]

/-- The occupancy unit after a reset, beside an empty detector map, has every law of the bays. -/
theorem bayLaws_of_start {s : State} (ho : s.occ = Occupancy.start) (hr : running s = false)
    (hm : s.cfg.map = emptyMap) : BayLaw s ∧ FreeLaw s ∧ MapLaw s := by
  refine ⟨fun b hb => ?_, freeLaw_of_zero ?_ (fun b hb => ?_) (fun _ b hb => ?_), mapLaw_iff.mpr ?_⟩
  · rw [bayOf_start ho hb, hr]
    rfl
  · rw [ho]
    exact zeroCounts
  · rw [bayOf_start ho hb]
    decide
  · rw [bayOf_start ho hb]
    rfl
  · rw [hm, mapEntries_emptyMap]
    exact ⟨by simp, by simp, fun b hb => by rw [bayOf_start ho hb]; rfl⟩

theorem KeepsBays.of_start {s t : State} (ho : t.occ = Occupancy.start) (hr : Machine.running t = false)
    (hm : t.cfg.map = emptyMap) : KeepsBays s t := by
  obtain ⟨h1, h2, h3⟩ := bayLaws_of_start ho hr hm
  exact ⟨fun _ => h1, fun _ => h2, fun _ => h3⟩

theorem keeps_resetPowerOn (straps : Straps) (s : State) : KeepsBays s (resetPowerOn straps s) := .of_start rfl rfl rfl
theorem keeps_resetCommanded (straps : Straps) (s : State) : KeepsBays s (resetCommanded straps s) :=
  .of_start rfl rfl rfl

/-! ## Entries to RUNNING and EDITING (R5) -/

theorem enterRunning_cfg (s : State) : (enterRunning s).cfg =
    { s.cfg with inForce := s.cfg.working, state := .running, editFromFallback := false } := by
  dsimp only [enterRunning]
  rw [formSounder_cfg, (does_guideToRunning _).cfg rfl, (does_loopsToRunning _).cfg rfl, (does_lightToRunning _).cfg rfl,
    (does_fanToRunning _).cfg rfl, (does_airToRunning _ _).cfg rfl, (does_occToRunning _).cfg rfl,
    (does_ovrToRunning _ _).cfg rfl, (does_busToRunning _).cfg rfl]
  rfl

/-- R5: what the entry to RUNNING leaves in the occupancy unit. -/
theorem enterRunning_occ (s : State) : ∃ t, t.occ = s.occ ∧ (enterRunning s).occ = (occToRunning t).occ := by
  refine ⟨ovrToRunning s.cfg.inForce (busToRunning (cfgToRunning s)), ?_, ?_⟩
  · rw [(does_ovrToRunning _ _).occ rfl, (does_busToRunning _).occ rfl, (does_cfgToRunning s).occ rfl]
  · dsimp only [enterRunning]
    rw [formSounder_occ, (does_guideToRunning _).occ rfl, (does_loopsToRunning _).occ rfl,
      (does_lightToRunning _).occ rfl, (does_fanToRunning _).occ rfl, (does_airToRunning _ _).occ rfl]

theorem enterRunning_bay (s : State) {b : Nat} (hb : b < 512) :
    ∃ t, t.occ = s.occ ∧ bayOf (enterRunning s) b = startBay t b := by
  obtain ⟨t, ht, h⟩ := enterRunning_occ s
  refine ⟨t, ht, ?_⟩
  rw [bayOf, h]
  simp [occToRunning, hb]

theorem running_enterRunning (s : State) : running (enterRunning s) = true := by
  rw [running, enterRunning_cfg]
  rfl

theorem bayLaw_enterRunning (s : State) : BayLaw (enterRunning s) := by
  intro b hb
  obtain ⟨t, -, h⟩ := enterRunning_bay s hb
  rw [running_enterRunning, h]
  rfl

theorem freeLaw_enterRunning (s : State) : FreeLaw (enterRunning s) := by
  refine freeLaw_of_zero ?_ (fun b hb => ?_) (fun hr => absurd (running_enterRunning s) (by rw [hr]; decide))
  · obtain ⟨t, -, h⟩ := enterRunning_occ s
    rw [h]
    exact zeroCounts
  · obtain ⟨t, -, h⟩ := enterRunning_bay s hb
    rw [h]
    simp only [startBay]
    split <;> decide

theorem keeps_enterRunning (s : State) : KeepsBays s (enterRunning s) where
  bay _ := bayLaw_enterRunning s
  free _ := freeLaw_enterRunning s
  map := by
    refine mapLaw_congr (by rw [enterRunning_cfg]) fun b hb => ?_
    obtain ⟨t, ht, h⟩ := enterRunning_bay s hb
    rw [h, startBay, bayOf, bayOf, ht]

theorem enterEditing_cfg (s : State) : (enterEditing s).cfg =
    { s.cfg with working := s.cfg.inForce, state := .editing, editFromFallback := s.cfg.state == .fallback } := by
  dsimp only [enterEditing]
  rw [(does_guideToEditing _).cfg rfl, (does_lightToEditing _).cfg rfl, (does_fanToEditing _).cfg rfl,
    (does_airToEditing _).cfg rfl, (does_occToEditing _).cfg rfl, (does_busEntry _ _ _).cfg rfl]
  rfl

/-- R5: what the entry to EDITING leaves in the occupancy unit. -/
theorem enterEditing_occ (s : State) : (enterEditing s).occ =
    { s.occ with bays := s.occ.bays.each stopBay, free := Tab.fill 16 (Tab.fill 4 0) } := by
  dsimp only [enterEditing]
  rw [(does_guideToEditing _).occ rfl, (does_lightToEditing _).occ rfl, (does_fanToEditing _).occ rfl,
    (does_airToEditing _).occ rfl]
  have h : (busEntry s.bus.bitRate [] (cfgToEditing s)).occ = s.occ := by
    rw [(does_busEntry _ _ _).occ rfl, (does_cfgToEditing s).occ rfl]
  simp only [occToEditing, h]

theorem enterEditing_bay (s : State) {b : Nat} (hb : b < 512) : bayOf (enterEditing s) b = stopBay (bayOf s b) := by
  rw [bayOf, enterEditing_occ]
  exact Tab.nth_each _ _ hb

theorem keeps_enterEditing (s : State) : KeepsBays s (enterEditing s) where
  bay _ := by
    intro b hb
    rw [running, enterEditing_bay s hb, enterEditing_cfg]
    rfl
  free _ := by
    refine freeLaw_of_zero ?_ (fun b hb => ?_) (fun _ b hb => ?_)
    · rw [enterEditing_occ]
      exact zeroCounts
    · rw [enterEditing_bay s hb]
      exact fun h => absurd h (by simp [stopBay])
    · rw [enterEditing_bay s hb]
      rfl
  map := mapLaw_congr (by rw [enterEditing_cfg]) fun b hb => by rw [enterEditing_bay s hb]; rfl

/-! ## The end of a load (R21, R183) -/

theorem firstRepeat_none {α : Type} {l : List (α × Nat)} {seen : List Nat} (h : firstRepeat seen l = none) :
    (l.map (·.2)).Nodup ∧ ∀ x ∈ l, x.2 ∉ seen := by
  induction l generalizing seen with
  | nil => simp
  | cons x l ih =>
    obtain ⟨y, k⟩ := x
    simp only [firstRepeat] at h
    split at h
    · exact absurd h (by simp)
    · rename_i hk
      obtain ⟨hn, hs⟩ := ih h
      simp only [List.contains_eq_mem, decide_eq_true_eq] at hk
      simp only [List.map_cons, List.nodup_cons, List.mem_map, not_exists, not_and, List.mem_cons, forall_eq_or_imp]
      exact ⟨⟨fun z hz e => hs z hz (by simp [e]), hn⟩, hk, fun z hz e => hs z hz (by simp [e])⟩

theorem checkMap_none {l : List (Nat × Nat × MapEntry)} {seen : List Nat} (h : checkMap seen l = none) :
    (l.map (fun x => x.2.2.bay)).Nodup ∧ ∀ x ∈ l, x.2.2.bay ∉ seen := by
  induction l generalizing seen with
  | nil => simp
  | cons x l ih =>
    obtain ⟨set, way, e⟩ := x
    simp only [checkMap] at h
    split at h
    · exact absurd h (by simp)
    · rename_i hk
      split at h
      · exact absurd h (by simp)
      · obtain ⟨hn, hs⟩ := ih h
        simp only [List.contains_eq_mem, decide_eq_true_eq] at hk
        simp only [List.map_cons, List.nodup_cons, List.mem_map, not_exists, not_and, List.mem_cons, forall_eq_or_imp]
        exact ⟨⟨fun z hz k => hs z hz (by simp [k]), hn⟩, hk, fun z hz k => hs z hz (by simp [k])⟩

/-- R186, orders 11 and 12: the entries of a valid map have distinct addresses and distinct bays. -/
theorem validate_map {c : Cfg} {m : DetMap} (h : validate c m = none) :
    (∀ x ∈ mapEntries m, ∀ y ∈ mapEntries m, entryAddr x.1 x.2.2 = entryAddr y.1 y.2.2 → x = y) ∧
    (∀ x ∈ mapEntries m, ∀ y ∈ mapEntries m, x.2.2.bay = y.2.2.bay → x = y) := by
  have hl : firstRepeat [] (deviceAddresses c m) = none ∧ checkMap [] (mapEntries m) = none := by
    simp only [validate, Option.orElse_eq_none, Option.map_eq_none_iff] at h
    exact h.2.2.2.2.2.2.2.2.2.2
  constructor
  · have hn := (firstRepeat_none hl.1).1
    rw [deviceAddresses, List.map_append, List.map_map] at hn
    exact fun x hx y hy e => List.inj_on_of_nodup_map (List.nodup_append.mp hn).2.1 hx hy e
  · exact fun x hx y hy e => List.inj_on_of_nodup_map (checkMap_none hl.2).1 hx hy e

theorem checkImage_valid {im : ImageRead} {b : Body} {id : BitVec 16} (h : checkImage im = .ok (b, id)) :
    validate b.cfg b.map = none := by
  unfold checkImage at h
  dsimp only at h
  split at h
  · simp at h
  split at h
  · simp at h
  split at h
  · simp at h
  split at h
  · simp at h
  split at h
  · simp at h
  split at h
  · simp at h
  · rename_i hv
    simp only [Except.ok.injEq, Prod.mk.injEq] at h
    rw [← h.1]
    exact hv

/-- R183: a load that succeeds has an image whose configuration is valid. -/
theorem checkSource_valid {s : State} {source : LoadSource} {b : Body} {id : BitVec 16}
    (h : checkSource s source = .ok (b, id)) : validate b.cfg b.map = none := by
  cases source with
  | silent => simp [checkSource] at h
  | supplied im => exact checkImage_valid h
  | held =>
    simp only [checkSource, checkHeld] at h
    split at h
    · exact checkImage_valid h
    · unfold checkDoubtful at h
      split at h
      · split at h
        · exact checkImage_valid h
        · simp at h
      · simp at h
      · simp at h

theorem bayOf_loadDetectors (s : State) {b : Nat} (hb : b < 512) :
    bayOf (loadDetectors s) b = { bayOf s b with detector := boundAddr (mapEntries s.cfg.map) b } := by
  simp [bayOf, loadDetectors, hb]

theorem loadDetectors_free (s : State) : (loadDetectors s).occ.free = s.occ.free := by
  simp only [loadDetectors]

theorem keeps_loadImage {b : Body} {id : BitVec 16} {s : State} (h : validate b.cfg b.map = none) :
    KeepsBays s (loadImage b id s) where
  bay _ := bayLaw_enterRunning _
  free _ := freeLaw_enterRunning _
  map _ := by
    refine (keeps_enterRunning _).map (mapLaw_iff.mpr ?_)
    obtain ⟨h1, h2⟩ := validate_map h
    exact ⟨h1, h2, fun c hc => congrArg Bay.detector (bayOf_loadDetectors (takeBody b s) hc)⟩

theorem loadFallback_bay (why : FallbackReason) (s : State) {b : Nat} (hb : b < 512) :
    bayOf (loadFallback why s) b = { bayOf s b with detector := none } := by
  dsimp only [loadFallback]
  rw [(does_busEntry _ _ _).bayOf rfl]
  refine (bayOf_loadDetectors (takeBody emptyBody s) hb).trans ?_
  have hn : boundAddr (mapEntries (takeBody emptyBody s).cfg.map) b = none :=
    boundAddr_eq_none.mpr (by rw [show (takeBody emptyBody s).cfg.map = emptyMap from rfl, mapEntries_emptyMap]; simp)
  rw [hn]
  rfl

theorem loadFallback_cfg (why : FallbackReason) (s : State) :
    (loadFallback why s).cfg.state = .fallback ∧ (loadFallback why s).cfg.map = emptyMap := by
  dsimp only [loadFallback]
  rw [(does_busEntry _ _ _).cfg rfl]
  exact ⟨rfl, rfl⟩

theorem keeps_loadFallback (why : FallbackReason) {s : State} (hr : running s = false) :
    KeepsBays s (loadFallback why s) where
  bay l := by
    intro b hb
    rw [running, (loadFallback_cfg why s).1, loadFallback_bay why s hb]
    have := l b hb
    rw [hr] at this
    change (bayOf s b).state = .unknown
    exact this
  free l := by
    obtain ⟨hu, hz⟩ := l.untracked hr
    have hf : (loadFallback why s).occ.free = s.occ.free := by
      dsimp only [loadFallback]
      rw [(does_busEntry _ _ _).occ rfl, post_occ, (does_loadCoast _ _).occ rfl, loadDetectors_free,
        (does_takeBody _ s).occ rfl]
    refine freeLaw_of_zero (by rw [hf]; exact hz) (fun b hb => ?_) (fun _ b hb => ?_)
    · rw [loadFallback_bay why s hb]
      exact fun h => absurd ((hu b hb).symm.trans h) (by decide)
    · rw [loadFallback_bay why s hb]
      exact hu b hb
  map _ := by
    refine mapLaw_iff.mpr ?_
    rw [(loadFallback_cfg why s).2, mapEntries_emptyMap]
    exact ⟨by simp, by simp, fun b hb => by rw [loadFallback_bay why s hb]; rfl⟩

theorem keeps_endLoad (source : LoadSource) {s : State} (hr : running s = false) : KeepsBays s (endLoad source s) := by
  dsimp only [endLoad]
  have h : KeepsBays s { s with
      free := s.free + 1, cfg := { s.cfg with memory := memoryAfter s.cfg.memory source } } :=
    .of_fields
  split
  · rename_i b id he
    exact h.trans (keeps_loadImage (checkSource_valid he))
  · exact h.trans (keeps_loadFallback _ hr)

/-! ## Bindings (R23, R24) -/

/-- R23: the record of a bay that takes a detector address. -/
def Bay.bound (tracking : Bool) (a : Addr) (x : Bay) : Bay :=
  if tracking then
    { x with
      detector := some a, lastHeard := 0, health := .ok, lampFault := false, sensed := .nothing, pending := none
      state := deriveBay x.admin .nothing }
  else { x with detector := some a }

/-- R24: the record of a bay that loses its detector address. -/
def Bay.unbound (tracking : Bool) (x : Bay) : Bay :=
  if tracking then
    { x with detector := none, lampFault := false, sensed := .nothing, pending := none, state := deriveBay x.admin .nothing }
  else { x with detector := none }

theorem bindBay_becomes {b : Nat} (hb : b < 512) (a : Addr) (s : State) :
    BayBecomes b ((bayOf s b).bound (running s) a) s (bindBay b a s) := by
  dsimp only [bindBay]
  split
  · rename_i hr
    have h1 := (setBay_becomes hb { bayOf s b with
      detector := some a, lastHeard := 0, health := .ok, lampFault := false } s).kept (does_forgetLamp b _) rfl
    have h2 := (h1.trans (loseSensed_becomes hb _)).kept (does_markLamp b _) rfl
    rw [h1.self, (does_forgetLamp b _).running rfl] at h2
    change BayBecomes b (Bay.derived (running s) _) s _ at h2
    rw [hr] at h2 ⊢
    exact h2
  · rename_i hr
    rw [Bay.bound, if_neg hr]
    exact setBay_becomes hb _ s

theorem unbindBay_becomes {b : Nat} (hb : b < 512) (s : State) :
    BayBecomes b ((bayOf s b).unbound (running s)) s (unbindBay b s) := by
  dsimp only [unbindBay]
  have h0 := (BayBecomes.refl b s).kept (does_setLamp s b { s.guide.lamps.nth b with sent := none, waiting := false }) rfl
  split
  · rename_i hr
    have h1 := h0.trans (setBay_becomes hb { bayOf s b with detector := none, lampFault := false } _)
    have h2 := h1.trans (loseSensed_becomes hb _)
    rw [h1.self] at h2
    change BayBecomes b (Bay.derived (running s) _) s _ at h2
    rw [hr] at h2 ⊢
    exact h2
  · rename_i hr
    rw [Bay.unbound, if_neg hr]
    exact h0.trans (setBay_becomes hb { bayOf s b with detector := none } _)

/-- R23, R24: a bay that becomes a record of its zone, whose state is derived again while tracking is on and stands
otherwise, keeps the law of the bay states. -/
theorem BayBecomes.bayLaw {b : Nat} {y : Bay} {s t : State} (h : BayBecomes b y s t) (hr : running t = running s)
    (hy : (bayOf s b).state = bayStateOf (running s) (bayOf s b) → y.state = bayStateOf (running s) y)
    (l : BayLaw s) : BayLaw t := by
  intro c hc
  rw [hr]
  by_cases e : c = b
  · subst e
    rw [h.self]
    exact hy (l c hc)
  · rw [h.others c e]
    exact l c hc

theorem bound_state (tracking : Bool) (a : Addr) {x : Bay} (h : x.state = bayStateOf tracking x) :
    (x.bound tracking a).state = bayStateOf tracking (x.bound tracking a) := by
  cases tracking
  · exact h
  · rfl

theorem unbound_state (tracking : Bool) {x : Bay} (h : x.state = bayStateOf tracking x) :
    (x.unbound tracking).state = bayStateOf tracking (x.unbound tracking) := by
  cases tracking
  · exact h
  · rfl

/-- The free counts do not look at the detector addresses. -/
theorem freeLaw_setBay {b : Nat} {x : Bay} {s : State} (hz : x.zone = (bayOf s b).zone)
    (hs : x.state = (bayOf s b).state) (l : FreeLaw s) : FreeLaw (setBay b x s) := by
  refine freeLaw_congr (s := s) rfl rfl rfl (fun c _ => ?_) l
  rw [bayOf_setBay]
  split
  · rename_i e
    rw [e.1]
    exact ⟨hz, hs⟩
  · exact ⟨rfl, rfl⟩

theorem freeLaw_bindBay (b : Nat) (a : Addr) {s : State} (l : FreeLaw s) : FreeLaw (bindBay b a s) := by
  dsimp only [bindBay]
  split
  · refine (KeepsBays.of_does (does_markLamp b _) rfl rfl).free ((keeps_loseSensed b _).free ?_)
    refine (KeepsBays.of_does (does_forgetLamp b _) rfl rfl).free ?_
    exact freeLaw_setBay rfl rfl l
  · exact freeLaw_setBay rfl rfl l

theorem freeLaw_unbindBay (b : Nat) {s : State} (l : FreeLaw s) : FreeLaw (unbindBay b s) := by
  dsimp only [unbindBay]
  have h := (KeepsBays.of_does (does_setLamp s b { s.guide.lamps.nth b with sent := none, waiting := false }) rfl rfl).free l
  split
  · exact (keeps_loseSensed b _).free (freeLaw_setBay rfl rfl h)
  · exact freeLaw_setBay rfl rfl h

theorem does_callDetector (a : Addr) (s : State) : Does [.slots] s (callDetector a s) := by
  dsimp only [callDetector]
  refine .ite (fun _ => .refl s) (fun _ => ?_)
  exact (does_slots s s.bus.slots _).trans ((does_note (.call (callFor s.bus a)) false _).mono rfl)

/-- The part with the way of an address written, as a binding or its removal begins. -/
theorem keeps_mapPut {s t : State} (hr : running t = running s) (hc : t.cfg.inForce = s.cfg.inForce) (ho : t.occ = s.occ) :
    (∀ b, bayOf t b = bayOf s b) ∧ (BayLaw s → BayLaw t) ∧ (FreeLaw s → FreeLaw t) := by
  have hb : ∀ b, bayOf t b = bayOf s b := fun b => by rw [bayOf, bayOf, ho]
  exact ⟨hb, bayLaw_congr hr fun b _ => by rw [hb]; exact ⟨rfl, rfl⟩,
    freeLaw_congr hr hc (by rw [ho]) fun b _ => by rw [hb]; exact ⟨rfl, rfl⟩⟩

/-- R23: what the binding of an address does, after its way and the unknown-device list are written. -/
theorem does_bindAddress (a b way : Nat) (s : State) : ∃ t, Does [.cfg, .bus] s t ∧
    t.cfg = { s.cfg with map := mapPut s.cfg.map (a % 128) way (some ⟨a / 128, b⟩), imageCurrent := false } ∧
    t.bus.unknown = s.bus.unknown.filter (fun e => e.addr != a) ∧
    Does [.slots] (bindBay b a t) (bindAddress a b way s) := by
  refine ⟨{ s with
    cfg := { s.cfg with map := mapPut s.cfg.map (a % 128) way (some ⟨a / 128, b⟩), imageCurrent := false }
    bus := { s.bus with unknown := s.bus.unknown.filter (fun e => e.addr != a) } }, ?_, rfl, rfl, ?_⟩
  · exact ((does_cfg s _).mono rfl).trans ((does_busOnly _ _ _ _ _ _ _ _ _).mono rfl)
  · dsimp only [bindAddress]
    exact .ite (fun _ => does_callDetector a _) (fun _ => .refl _)

theorem bindAddress_cfg (a b way : Nat) (s : State) : (bindAddress a b way s).cfg =
    { s.cfg with map := mapPut s.cfg.map (a % 128) way (some ⟨a / 128, b⟩), imageCurrent := false } := by
  obtain ⟨t, -, hc, -, h⟩ := does_bindAddress a b way s
  rw [h.cfg rfl, (does_bindBay b a t).cfg rfl, hc]

theorem bindAddress_becomes {b : Nat} (hb : b < 512) (a way : Nat) (s : State) :
    BayBecomes b ((bayOf s b).bound (running s) a) s (bindAddress a b way s) := by
  obtain ⟨t, ht, hc, -, h⟩ := does_bindAddress a b way s
  have k := (bindBay_becomes hb a t).kept h rfl
  have hr : running t = running s := by rw [running, hc]; rfl
  rw [ht.bayOf rfl, hr] at k
  exact ⟨k.self, fun c hcb => (k.others c hcb).trans (ht.bayOf rfl c)⟩

theorem bound_detector (tracking : Bool) (a : Addr) (x : Bay) : (x.bound tracking a).detector = some a := by
  cases tracking <;> rfl

theorem unbound_detector (tracking : Bool) (x : Bay) : (x.unbound tracking).detector = none := by
  cases tracking <;> rfl

theorem freeWay_some {m : DetMap} {set way : Nat} (h : freeWay m set = some way) :
    way < 4 ∧ (m.nth set).nth way = none :=
  ⟨by simpa using List.mem_of_find?_eq_some h, by simpa using List.find?_some h⟩

/-- R23: the binding of an address that is not bound to a bay without one. -/
theorem keeps_bindAddress {a b way : Nat} {s : State} (hway : mapWay s.cfg.map a = none) (hb : b < 512)
    (hdet : (bayOf s b).detector = none) (hw : freeWay s.cfg.map (a % 128) = some way) :
    KeepsBays s (bindAddress a b way s) := by
  have hbec := bindAddress_becomes hb a way s
  obtain ⟨t, ht, hc, -, h⟩ := does_bindAddress a b way s
  have hr : running t = running s := by rw [running, hc]; rfl
  have hf := (keeps_mapPut hr (by rw [hc]) (ht.occ rfl)).2.2
  refine ⟨hbec.bayLaw ?_ (bound_state _ a), fun l => ?_, fun l => ?_⟩
  · rw [running, bindAddress_cfg]
    rfl
  · exact (KeepsBays.of_does h rfl rfl).free (freeLaw_bindBay b a (hf l))
  · refine mapLaw_bind hway hb hdet (freeWay_some hw).1 (by rw [bindAddress_cfg]) (freeWay_some hw).2 (fun c _ => ?_) l
    split
    · rename_i e
      rw [e, hbec.self, bound_detector]
    · rename_i e
      rw [hbec.others c e]

theorem does_withdrawKey (k : DestKey) (s : State) (calls : List Addr) :
    Does [.slots] s { s with bus := withdrawKey k { s.bus with calls := calls } } := by
  dsimp only [withdrawKey]
  repeat' split
  all_goals exact does_slots s _ _

/-- R24: what the removal of a binding does, after its way is written. -/
theorem does_unbindAddress (a b way : Nat) (s : State) : ∃ t, Does [.cfg] s t ∧
    t.cfg = { s.cfg with map := mapPut s.cfg.map (a % 128) way none, imageCurrent := false } ∧
    Does [.slots] (unbindBay b t) (unbindAddress a b way s) := by
  refine ⟨{ s with cfg := { s.cfg with map := mapPut s.cfg.map (a % 128) way none, imageCurrent := false } }, ?_, rfl, ?_⟩
  · exact does_cfg s _
  · dsimp only [unbindAddress]
    generalize unbindBay b { s with
      cfg := { s.cfg with map := mapPut s.cfg.map (a % 128) way none, imageCurrent := false } } = u
    exact (does_withdrawKey (.call a) u _).trans
      (does_withdrawKey (.lamp a) _ (withdrawKey (.call a) { u.bus with calls := u.bus.calls.filter (· != a) }).calls)

theorem unbindAddress_cfg (a b way : Nat) (s : State) : (unbindAddress a b way s).cfg =
    { s.cfg with map := mapPut s.cfg.map (a % 128) way none, imageCurrent := false } := by
  obtain ⟨t, -, hc, h⟩ := does_unbindAddress a b way s
  rw [h.cfg rfl, (does_unbindBay b t).cfg rfl, hc]

theorem unbindAddress_becomes {b : Nat} (hb : b < 512) (a way : Nat) (s : State) :
    BayBecomes b ((bayOf s b).unbound (running s)) s (unbindAddress a b way s) := by
  obtain ⟨t, ht, hc, h⟩ := does_unbindAddress a b way s
  have k := (unbindBay_becomes hb t).kept h rfl
  have hr : running t = running s := by rw [running, hc]; rfl
  rw [ht.bayOf rfl, hr] at k
  exact ⟨k.self, fun c hcb => (k.others c hcb).trans (ht.bayOf rfl c)⟩

theorem bayOf_unbindBay_of_ge {b : Nat} (hb : 512 ≤ b) (s : State) (c : Nat) :
    bayOf (unbindBay b s) c = bayOf s c := by
  dsimp only [unbindBay]
  have h := (does_setLamp s b { s.guide.lamps.nth b with sent := none, waiting := false }).bayOf rfl c
  split
  · rw [loseSensed, bayOf_rederive_of_ge hb, setBay_of_ge hb, setBay_of_ge hb, h]
  · rw [setBay_of_ge hb, h]

theorem bayOf_unbindAddress_of_ge {b : Nat} (hb : 512 ≤ b) (a way : Nat) (s : State) (c : Nat) :
    bayOf (unbindAddress a b way s) c = bayOf s c := by
  obtain ⟨t, ht, -, h⟩ := does_unbindAddress a b way s
  rw [h.bayOf rfl, bayOf_unbindBay_of_ge hb, ht.bayOf rfl]

/-- R24: the removal of the binding of an address. -/
theorem keeps_unbindAddress {a way : Nat} {e : MapEntry} {s : State} (hway : mapWay s.cfg.map a = some way)
    (he : (s.cfg.map.nth (a % 128)).nth way = some e) : KeepsBays s (unbindAddress a e.bay way s) := by
  obtain ⟨t, ht, hc, h⟩ := does_unbindAddress a e.bay way s
  have hr : running t = running s := by rw [running, hc]; rfl
  have hr' : running (unbindAddress a e.bay way s) = running s := by rw [running, unbindAddress_cfg]; rfl
  refine ⟨?_, fun l => ?_, mapLaw_unbind hway he (by rw [unbindAddress_cfg]) fun c hc => ?_⟩
  · by_cases hb : e.bay < 512
    · exact (unbindAddress_becomes hb a way s).bayLaw hr' (unbound_state _)
    · exact bayLaw_congr hr' fun c _ => by rw [bayOf_unbindAddress_of_ge (by omega)]; exact ⟨rfl, rfl⟩
  · exact (KeepsBays.of_does h rfl rfl).free
      (freeLaw_unbindBay e.bay ((keeps_mapPut hr (by rw [hc]) (ht.occ rfl)).2.2 l))
  · split
    · rename_i hce
      subst hce
      rw [(unbindAddress_becomes hc a way s).self, unbound_detector]
    · rename_i hce
      by_cases hb : e.bay < 512
      · rw [(unbindAddress_becomes hb a way s).others c hce]
      · rw [bayOf_unbindAddress_of_ge (by omega)]

end Sys2Proof.Machine
end

section
/-! SUPPORT. Every command keeps the laws of the bays (R4, R14, R15, R21). -/

namespace Sys2Proof.Machine

namespace KeepsBays

variable {s t : State}

/-- R165. -/
theorem fill (h : KeepsBays s t) : KeepsBays s (fillSlots t) := h.after (does_fillSlots t) rfl rfl

theorem answered (h : KeepsBays s t) (kind : Nat) (r : Result) (fields : List Byte) :
    KeepsBays s (answer kind r fields t) := h.after (does_answer t _ _ _) rfl rfl

end KeepsBays

theorem keeps_answer (kind : Nat) (r : Result) (fields : List Byte) (s : State) :
    KeepsBays s (answer kind r fields s) := (KeepsBays.refl s).answered _ _ _

/-! ## Frames, attempts and taps -/

theorem keeps_deliver {a : Addr} {effect : State → State} {s : State} (h : KeepsBays s (effect s)) :
    KeepsBays s (deliver a effect s) := .ite (fun _ => h.fill) (fun _ => .refl s)

theorem keeps_addUnknown (a : Addr) (type : DeviceType) (s : State) : KeepsBays s (addUnknown a type s) :=
  .of_does (does_addUnknown a type s) rfl rfl

theorem keeps_takeBayState (a : Addr) (d : Det) (h : Health) (s : State) : KeepsBays s (takeBayState a d h s) := by
  dsimp only [takeBayState]
  split
  · exact keeps_addUnknown a _ s
  · exact .ite (fun _ => keeps_bayReport _ d h s) (fun _ => .refl s)

theorem keeps_takeGasValue (a : Addr) (g : GasReport) (s : State) : KeepsBays s (takeGasValue a g s) := by
  dsimp only [takeGasValue]
  split
  · exact keeps_addUnknown a _ s
  · exact .ite (fun _ => .of_does (does_takeSensorState _ _ s) rfl rfl) (fun _ => .refl s)

theorem keeps_takePed (a : Addr) (p : Ped) (s : State) : KeepsBays s (takePed a p s) := by
  dsimp only [takePed]
  split
  · exact keeps_addUnknown a _ s
  · cases p with
    | detected => exact .of_does (does_trigger _ s) rfl rfl
    | clear => exact .refl s

theorem keeps_takeLumState (a : Addr) (h : Health) (s : State) : KeepsBays s (takeLumState a h s) := by
  dsimp only [takeLumState]
  split
  · exact keeps_addUnknown a _ s
  · exact .ite (fun _ => .of_does (does_setGroupState _ _ s) rfl rfl) (fun _ => .refl s)

theorem keeps_takeSignState (a : Addr) (h : Health) (s : State) : KeepsBays s (takeSignState a h s) := by
  dsimp only [takeSignState]
  split
  · exact keeps_addUnknown a _ s
  · exact .ite (fun _ => .of_does (does_setSignState _ _ s) rfl rfl) (fun _ => .refl s)

theorem keeps_announceBay (b : Nat) (s : State) : KeepsBays s (announceBay b s) := by
  dsimp only [announceBay]
  refine .ite (fun _ => ?_) (fun _ => .of_does (does_markFallbackGuidance s) rfl rfl)
  exact .after keeps_setBay_fields (does_markLamp b _) rfl rfl

theorem keeps_takeAnnounce (a : Addr) (type : DeviceType) (s : State) : KeepsBays s (takeAnnounce a type s) := by
  dsimp only [takeAnnounce]
  split
  · exact keeps_announceBay _ s
  · exact .of_does (does_announceSensor _ s) rfl rfl
  · exact .of_does (does_announceGroup _ s) rfl rfl
  · exact .refl s
  · exact .of_does (does_announceSign _ s) rfl rfl
  · exact keeps_addUnknown a type s

theorem keeps_lampSent (b : Nat) (c : Colour) (s : State) : KeepsBays s (lampSent b c s) := by
  dsimp only [lampSent]
  have h : KeepsBays s (lampReached b (setLamp b { s.guide.lamps.nth b with sent := some c } s)) :=
    .trans (.of_does (does_setLamp s b _) rfl rfl) (keeps_lampReached b _)
  exact .ite (fun _ => h.after (does_markLamp b _) rfl rfl) (fun _ => h)

theorem keeps_reportSuccess (x : Slot) (s : State) : KeepsBays s (reportSuccess x s) := by
  dsimp only [reportSuccess]
  split
  · split
    · exact .of_does (does_faceSent _ _ _ s) rfl rfl
    · exact .refl s
  · split
    · exact .of_does (does_groupSent _ _ s) rfl rfl
    · exact .refl s
  · split
    · exact keeps_lampSent _ _ s
    · exact .refl s
  · exact .refl s

theorem keeps_reportGiveUp (x : Slot) (s : State) : KeepsBays s (reportGiveUp x s) := by
  dsimp only [reportGiveUp]
  split
  · split
    · exact .of_does (does_setSignState _ _ s) rfl rfl
    · exact .refl s
  · split
    · exact .of_does (does_setGroupState _ _ s) rfl rfl
    · exact .refl s
  · split
    · exact keeps_lampLost _ s
    · exact .refl s
  all_goals exact .refl s

theorem keeps_putSlot (i : Nat) (x : Option Slot) (s : State) : KeepsBays s (putSlot i x s) :=
  .of_does (does_putSlot s i x) rfl rfl

theorem keeps_attemptSucceeds (i : Nat) (x : Slot) (s : State) : KeepsBays s (attemptSucceeds i x s) := by
  dsimp only [attemptSucceeds]
  have h : KeepsBays s (putSlot i none (setErrors (s.bus.errors - 1) s)) :=
    .trans (.of_does (does_setErrors _ s) rfl rfl) (keeps_putSlot i none _)
  exact .ite (fun _ => h) (fun _ => h.trans (keeps_reportSuccess x _))

theorem keeps_giveUp (i : Nat) (x : Slot) (s : State) : KeepsBays s (giveUp i x s) := by
  dsimp only [giveUp]
  have h : KeepsBays s (putSlot i none { s with bus := { s.bus with givenUp := min (s.bus.givenUp + 1) 65535 } }) :=
    .of_fields
  exact .ite (fun _ => h) (fun _ => h.trans (keeps_reportGiveUp x _))

theorem keeps_attemptFails (i : Nat) (x : Slot) (s : State) : KeepsBays s (attemptFails i x s) := by
  dsimp only [attemptFails]
  refine .after ?_ (does_setErrors _ _) rfl rfl
  refine .ite (fun _ => keeps_giveUp i x s) (fun _ => ?_)
  exact .ite (fun _ => keeps_putSlot i none s) (fun _ => keeps_putSlot i _ s)

theorem keeps_endAttempt {effect : Nat → Slot → State → State} (h : ∀ i x s, KeepsBays s (effect i x s)) (s : State) :
    KeepsBays s (endAttempt effect s) := by
  dsimp only [endAttempt]
  split
  · exact .ite (fun _ => (h _ _ s).fill) (fun _ => .refl s)
  · exact .refl s

theorem keeps_runT4 (rdy : BitVec 12) (s : State) (p : T4Part) : KeepsBays s (runT4 rdy s p) := by
  dsimp only [runT4]
  refine .ite (fun _ => .refl s) (fun _ => ?_)
  cases p with
  | bays => exact keeps_bayT4 s
  | fans => exact .of_does (does_fansT4 rdy s) rfl rfl
  | bus => exact .of_does (does_busT4 s) rfl rfl

theorem keeps_tapT4 (rdy : BitVec 12) (order : List T4Part) (s : State) : KeepsBays s (tapT4 rdy order s) :=
  (KeepsBays.foldl _ (fun t p => keeps_runT4 rdy t p) _ s).fill

theorem keeps_runT1 (ain : Tab (BitVec 10) 8) (s : State) (p : T1Part) : KeepsBays s (runT1 ain s p) := by
  cases p with
  | clock => exact .of_fields
  | sounder => exact .ite (fun _ => .refl s) (fun _ => .of_does (does_sounderTap s) rfl rfl)
  | air => exact .of_does (does_airTap ain s) rfl rfl
  | bays => exact keeps_bayT1 s
  | fans => exact .ite (fun _ => .refl s) (fun _ => .of_fields)
  | lights => exact .ite (fun _ => .refl s) (fun _ => .of_does (does_lightsT1 s) rfl rfl)
  | loops => exact .of_does (does_loopT1 s) rfl rfl
  | guide => exact .ite (fun _ => .refl s) (fun _ => .of_does (does_guideT1 s) rfl rfl)
  | stack => exact .ite (fun _ => .refl s) (fun _ => .of_does (does_stackT1 s) rfl rfl)

theorem keeps_tapT1 (ain : Tab (BitVec 10) 8) (order : List T1Part) (s : State) : KeepsBays s (tapT1 ain order s) :=
  (KeepsBays.foldl _ (fun t p => keeps_runT1 ain t p) _ s).fill

/-! ## Requests -/

theorem keeps_arrive (s : State) : KeepsBays s (arrive s) := by
  dsimp only [arrive]
  refine .trans (t := if s.link.resetDue = true then resetCommanded s.link.pins s else s) ?_ .of_fields
  exact .ite (fun _ => keeps_resetCommanded _ s) (fun _ => .refl s)

/-- R195: a request keeps the laws when its rule does. -/
theorem keeps_request {α : Type} {kind : Nat} {always : Bool} {r : Req α} {rule : α → State → State} {s : State}
    (h : ∀ x t, KeepsBays t (rule x t)) : KeepsBays s (request kind always r rule s) := by
  dsimp only [request]
  refine .ite (fun _ => .refl s) (fun _ => .ite (fun _ => (keeps_arrive s).answered _ _ _) (fun _ => ?_))
  cases r with
  | misfit => exact (keeps_arrive s).answered _ _ _
  | fits x => exact (keeps_arrive s).trans (h x _)

theorem keeps_broadcastIn {α : Type} {r : Req α} {rule : α → State → State} {s : State}
    (h : ∀ x t, KeepsBays t (rule x t)) : KeepsBays s (broadcastIn r rule s) := by
  dsimp only [broadcastIn]
  have k : KeepsBays s { s with link := { s.link with receiver := .hunting } } := .of_fields
  refine .ite (fun _ => .refl s) (fun _ => .ite (fun _ => k) (fun _ => ?_))
  cases r with
  | misfit => exact k
  | fits x => exact k.trans (h x _)

theorem keeps_thenFill {α : Type} {rule : α → State → State} (h : ∀ x t, KeepsBays t (rule x t)) (x : α) (s : State) :
    KeepsBays s (thenFill rule x s) := (h x s).fill

theorem keeps_unlessStoring {kind : Nat} {rule : State → State} {s : State} (h : KeepsBays s (rule s)) :
    KeepsBays s (unlessStoring kind rule s) := .ite (fun _ => keeps_answer _ _ _ s) (fun _ => h)

theorem keeps_inRunning {kind : Nat} {rule : State → State} {s : State} (h : KeepsBays s (rule s)) :
    KeepsBays s (inRunning kind rule s) := .ite (fun _ => h) (fun _ => keeps_answer _ _ _ s)

theorem keeps_notInFallback {kind : Nat} {rule : State → State} {s : State} (h : KeepsBays s (rule s)) :
    KeepsBays s (notInFallback kind rule s) := .ite (fun _ => keeps_answer _ _ _ s) (fun _ => h)

theorem keeps_openConfig (s : State) : KeepsBays s (openConfig s) := by
  dsimp only [openConfig]
  refine .ite (fun _ => keeps_answer _ _ _ s) (fun _ => ?_)
  split
  · exact (keeps_enterEditing s).answered _ _ _
  · exact (keeps_enterEditing s).answered _ _ _
  · exact keeps_answer _ _ _ s
  · exact keeps_answer _ _ _ s

theorem keeps_closeConfig (s : State) : KeepsBays s (closeConfig s) := by
  dsimp only [closeConfig]
  refine .ite (fun _ => ?_) (fun _ => keeps_answer _ _ _ s)
  split
  · exact keeps_answer _ _ _ s
  · exact .answered (.trans .of_fields (keeps_enterRunning _)) _ _ _

theorem keeps_storeConfig (id : BitVec 16) (s : State) : KeepsBays s (storeConfig id s) :=
  keeps_unlessStoring (keeps_inRunning (.answered .of_fields _ _ _))

theorem keeps_writeConfig (q : Req CfgWrite) (s : State) : KeepsBays s (writeConfig q s) := by
  dsimp only [writeConfig]
  refine .ite (fun _ => ?_) (fun _ => keeps_answer _ _ _ s)
  split
  · exact keeps_answer _ _ _ s
  · split
    · exact .answered .of_fields _ _ _
    · exact keeps_answer _ _ _ s

theorem keeps_readConfig (q : CfgRead) (s : State) : KeepsBays s (readConfig q s) := by
  dsimp only [readConfig]
  split
  · exact .ite (fun _ => keeps_answer _ _ _ s) (fun _ => keeps_answer _ _ _ s)
  · exact keeps_answer _ _ _ s
  · exact .ite (fun _ => keeps_answer _ _ _ s) (fun _ => keeps_answer _ _ _ s)

theorem does_rewantGroup (g : Nat) (s : State) : Does [.light, .slots] s (rewantGroup g s) :=
  ((does_setGroup s g _).mono rfl).trans (does_note_light (.group g) _ _ rfl)

theorem keeps_takeCurve (block : Nat) (outputs : List Nat) (s : State) : KeepsBays s (takeCurve block outputs s) := by
  dsimp only [takeCurve]
  refine .after (t := { s with cfg := { s.cfg with
    dimming := writeOutputs block outputs s.cfg.dimming, imageCurrent := false } }) .of_fields
    (Does.foldl (fun u g => rewantGroup g u) (fun u g => does_rewantGroup g u) _ _) rfl rfl

theorem keeps_writeCurve (q : Req (Nat × Option (List Nat))) (s : State) : KeepsBays s (writeCurve q s) := by
  refine keeps_unlessStoring (keeps_inRunning ?_)
  split
  · exact keeps_answer _ _ _ s
  · refine .ite (fun _ => keeps_answer _ _ _ s) (fun _ => ?_)
    split
    · exact keeps_answer _ _ _ s
    · exact .ite (fun _ => keeps_answer _ _ _ s) (fun _ => (keeps_takeCurve _ _ s).answered _ _ _)

theorem keeps_mapChecks (a b : Nat) (s : State) : KeepsBays s (mapChecks a b s) := by
  dsimp only [mapChecks]
  split
  · exact keeps_answer _ _ _ s
  · rename_i hab
    split
    · exact .ite (fun _ => keeps_answer _ _ _ s) (fun _ => keeps_answer _ _ _ s)
    · rename_i hway
      split
      · exact keeps_answer _ _ _ s
      · rename_i hdet
        refine .ite (fun _ => keeps_answer _ _ _ s) (fun _ => ?_)
        split
        · exact keeps_answer _ _ _ s
        · rename_i way hw
          exact (keeps_bindAddress hway (by omega) hdet hw).answered _ _ _

theorem keeps_removeMapping (a : Addr) (s : State) : KeepsBays s (removeMapping a s) := by
  dsimp only [removeMapping]
  split
  · rename_i way hway
    refine .ite (fun _ => .answered ?_ _ _ _) (fun _ => keeps_answer _ _ _ s)
    obtain ⟨-, e, he, -⟩ := mapWay_some hway
    rw [mapBay_of_way hway he]
    exact keeps_unbindAddress hway he
  · exact keeps_answer _ _ _ s

theorem keeps_reserveRequest (b time : Nat) (s : State) : KeepsBays s (reserveRequest b time s) := by
  dsimp only [reserveRequest]
  refine .ite (fun _ => keeps_answer _ _ _ s) (fun _ => ?_)
  split
  · exact (keeps_reserveBay b _ s).answered _ _ _
  · exact (keeps_reserveBay b _ s).answered _ _ _
  all_goals exact keeps_answer _ _ _ s

theorem keeps_releaseRequest (b : Nat) (s : State) : KeepsBays s (releaseRequest b s) := by
  dsimp only [releaseRequest]
  refine .ite (fun _ => keeps_answer _ _ _ s) (fun _ => ?_)
  exact .ite (fun _ => (keeps_cancelReservation b s).answered _ _ _) (fun _ => keeps_answer _ _ _ s)

theorem keeps_closeRequest (b : Nat) (s : State) : KeepsBays s (closeRequest b s) := by
  dsimp only [closeRequest]
  refine .ite (fun _ => keeps_answer _ _ _ s) (fun _ => ?_)
  exact .ite (fun _ => keeps_answer _ _ _ s) (fun _ => (keeps_closeBay b s).answered _ _ _)

theorem keeps_openRequest (b : Nat) (s : State) : KeepsBays s (openRequest b s) := by
  dsimp only [openRequest]
  refine .ite (fun _ => keeps_answer _ _ _ s) (fun _ => ?_)
  exact .ite (fun _ => (keeps_openBay b s).answered _ _ _) (fun _ => keeps_answer _ _ _ s)

theorem keeps_clearFan (n : Nat) (s : State) : KeepsBays s (clearFan n s) := by
  dsimp only [clearFan]
  refine .ite (fun _ => keeps_answer _ _ _ s) (fun _ => ?_)
  exact .ite (fun _ => .answered (.of_does (does_takeChannel n _ s) rfl rfl) _ _ _) (fun _ => keeps_answer _ _ _ s)

theorem does_writeLevel (s : State) (x : Nat × Nat) : Does [.guide, .notices] s (writeLevel s x) := by
  dsimp only [writeLevel]
  exact .ite (fun _ => ((does_setLevel s _ _).mono rfl).trans ((does_post _ _).mono rfl))
    (fun _ => (does_setLevel s _ _).mono rfl)

theorem does_writeLevels (items : List (Nat × Nat)) (s : State) :
    Does [.guide, .slots, .notices] s (writeLevels items s) :=
  ((Does.foldl _ does_writeLevel items s).mono rfl).trans ((does_guideLevels _ _).mono rfl)

theorem keeps_levelCountsRule (q : Req (List (Nat × Nat))) (s : State) : KeepsBays s (levelCountsRule q s) := by
  refine keeps_inRunning ?_
  split
  · exact keeps_answer _ _ _ s
  · refine .ite (fun _ => keeps_answer _ _ _ s) (fun _ => ?_)
    exact .ite (fun _ => .answered (.of_does (does_writeLevels _ s) rfl rfl) _ _ _) (fun _ => keeps_answer _ _ _ s)

theorem keeps_levelCountsBroadcast (items : List (Nat × Nat)) (s : State) :
    KeepsBays s (levelCountsBroadcast items s) :=
  .ite (fun _ => .of_does (does_writeLevels items s) rfl rfl) (fun _ => .refl s)

theorem keeps_removeEntries (p : Entry → Bool) (s : State) : KeepsBays s (removeEntries p s) :=
  .of_does (does_removeEntries p s) rfl rfl

theorem keeps_pushRule (q : PushReq) (s : State) : KeepsBays s (pushRule q s) := by
  dsimp only [pushRule]
  split
  · exact keeps_answer _ _ _ s
  · refine .ite (fun _ => keeps_answer _ _ _ s) (fun _ => .ite (fun _ => keeps_answer _ _ _ s) (fun _ => ?_))
    exact .answered (.of_does (does_pushEntry _ s) rfl rfl) _ _ _

theorem keeps_popRule (s : State) : KeepsBays s (popRule s) := by
  dsimp only [popRule]
  split
  · exact keeps_answer _ _ _ s
  · exact (keeps_removeEntries _ s).answered _ _ _

theorem keeps_removeRule (id : Nat) (s : State) : KeepsBays s (removeRule id s) := by
  dsimp only [removeRule]
  split
  · exact keeps_answer _ _ _ s
  · exact .ite (fun _ => (keeps_removeEntries _ s).answered _ _ _) (fun _ => keeps_answer _ _ _ s)

theorem keeps_readZoneRule (z : Nat) (s : State) : KeepsBays s (readZoneRule z s) :=
  .ite (fun _ => keeps_answer _ _ _ s) (fun _ => keeps_inRunning (keeps_answer _ _ _ s))

theorem keeps_lookupMapping (a : Addr) (s : State) : KeepsBays s (lookupMapping a s) := by
  dsimp only [lookupMapping]
  split <;> exact keeps_answer _ _ _ s

theorem keeps_endWarmup (n : Nat) (raw : BitVec 10) (s : State) : KeepsBays s (endWarmup n raw s) := by
  refine .ite (fun _ => .ite (fun _ => ?_) (fun _ => ?_)) (fun _ => .refl s)
  · exact .of_does (does_takeSensorState n _ s) rfl rfl
  · exact .of_does (does_setSensor s n _) rfl rfl

theorem keeps_receiverTo (r : Receiver) (s : State) : KeepsBays s (receiverTo r s) :=
  .ite (fun _ => .refl s) (fun _ => .of_fields)

/-! ## Every command -/

/-- A command that answers a next state keeps the laws of the bays. -/
def OutKeepsBays (s : State) (o : Out) : Prop := ∀ t, o = .next t → KeepsBays s t

namespace OutKeepsBays

variable {s u : State}

theorem next (k : KeepsBays s u) : OutKeepsBays s (.next u) := fun t h => by
  rw [← Host.Outcome.next.inj h]
  exact k

theorem within {i n : Nat} (k : KeepsBays s u) : OutKeepsBays s (Machine.within i n u) := by
  unfold Machine.within
  split
  · exact next k
  · exact fun t h => absurd h (by simp)

end OutKeepsBays

/-- An event whose effect, when it is due, changes neither the bays nor the configuration. -/
theorem keeps_event {bs : List Block} {c : Prop} [Decidable c] {s u : State} (h : Does bs s u)
    (o : bs.contains .occ = false) (k : bs.contains .cfg = false) : KeepsBays s (if c then u else s) :=
  .ite (fun _ => .of_does h o k) (fun _ => .refl s)

theorem keeps_eventFill {bs : List Block} {c : Prop} [Decidable c] {s u : State} (h : Does bs s u)
    (o : bs.contains .occ = false) (k : bs.contains .cfg = false) : KeepsBays s (if c then fillSlots u else s) :=
  .ite (fun _ => (KeepsBays.of_does h o k).fill) (fun _ => .refl s)

theorem keeps_exec (i : Instr) (s : State) : OutKeepsBays s (exec i s) := by
  cases i with
  | powerOnReset straps => exact .next (keeps_resetPowerOn straps s)
  | commandedReset straps =>
    exact .next (.ite (fun _ => keeps_resetCommanded straps s) (fun _ => .refl s))
  | loadEnd source =>
    refine .next (.ite (fun hl => (keeps_endLoad source ?_).fill) (fun _ => .refl s))
    simp only [loading, beq_iff_eq] at hl
    simp [running, hl]
  | t32Tap loops keys order => exact .next (.of_does (does_tapT32 loops keys order s) rfl rfl)
  | t4Tap rdy order => exact .next (keeps_tapT4 rdy order s)
  | t1Tap ain order => exact .next (keeps_tapT1 ain order s)
  | correctionWindow => exact .next (keeps_event (does_time s _) rfl rfl)
  | warmupEnd slot raw => exact .within (keeps_endWarmup slot raw s)
  | sensorSilent slot => exact .within (keeps_event (does_takeSensorState _ _ s) rfl rfl)
  | doseRingAdvance zone => exact .within (keeps_event (does_setZoneAir s _ _) rfl rfl)
  | creditDecay zone => exact .within (keeps_event (does_setZoneAir s _ _) rfl rfl)
  | alarmHoldEnd zone => exact .within (keeps_event (does_setZoneAir s _ _) rfl rfl)
  | bayState a d x => exact .next (keeps_deliver (keeps_takeBayState a d x s))
  | gasValue a g => exact .next (keeps_deliver (keeps_takeGasValue a g s))
  | pedPresence a p => exact .next (keeps_deliver (keeps_takePed a p s))
  | lumState a x => exact .next (keeps_deliver (keeps_takeLumState a x s))
  | signState a x => exact .next (keeps_deliver (keeps_takeSignState a x s))
  | announce a type => exact .next (keeps_deliver (keeps_takeAnnounce a type s))
  | fieldFrameDiscarded why =>
    cases why with
    | malformed => exact .next (keeps_event (does_busOnly s _ _ _ _ _ _ _ _) rfl rfl)
    | sentKind => exact .next (.refl s)
    | unknownKind => exact .next (.refl s)
    | notDevice => exact .next (.refl s)
  | settleExpiry bay =>
    exact .within (.ite (fun _ => (keeps_settleTap bay s).fill) (fun _ => .refl s))
  | silenceScan => exact .next (.ite (fun _ => (keeps_scanTap s).fill) (fun _ => .refl s))
  | reservationExpiry bay =>
    exact .within (.ite (fun _ => (keeps_reservationTap bay s).fill) (fun _ => .refl s))
  | stayLitEnd g => exact .within (keeps_eventFill (does_stayTap g s) rfl rfl)
  | pathStep p => exact .within (keeps_eventFill (does_pathTap p s) rfl rfl)
  | lightResend => exact .next (keeps_eventFill (does_lightResendTap s) rfl rfl)
  | readyTimeout n => exact .within (keeps_eventFill (does_fanTap n false s) rfl rfl)
  | readyLoss n => exact .within (keeps_eventFill (does_fanTap n false s) rfl rfl)
  | coastEnd n => exact .within (keeps_event (does_setChannel s n _) rfl rfl)
  | loopOccupied i => exact .within (keeps_eventFill (does_loopTapActive i s) rfl rfl)
  | loopRelease i =>
    exact .within (.ite (fun _ => .refl s)
      (fun _ => (KeepsBays.of_does (does_releaseLoop i s) rfl rfl).fill))
  | loopStuck i => exact .within (keeps_eventFill (does_occupiedTap i s) rfl rfl)
  | sequenceTimeout p => exact .within (keeps_event (does_timeoutSequence p s) rfl rfl)
  | rotationAdvance => exact .next (keeps_eventFill (does_rotationTap s) rfl rfl)
  | guidanceResend => exact .next (keeps_eventFill (does_guideResendTap s) rfl rfl)
  | levelStale v => exact .within (keeps_eventFill (does_levelTap v s) rfl rfl)
  | overrideExpiry =>
    refine .next (.ite (fun _ => .refl s) (fun _ => .fill ?_))
    exact (KeepsBays.of_does (does_setStack s _) rfl rfl).after (does_expireEntries _) rfl rfl
  | inputActive k => exact .within (keeps_eventFill (does_keyTapActive k s) rfl rfl)
  | inputRelease k =>
    exact .within (.ite (fun _ => .refl s)
      (fun _ => (KeepsBays.of_does (does_keyRelease k s) rfl rfl).fill))
  | frameOffer =>
    refine .next (.ite (fun _ => ?_) (fun _ => .refl s))
    split
    · exact keeps_putSlot _ _ s
    · exact .refl s
  | arbitrationLost => exact .next (keeps_endAttempt (fun i x s => keeps_putSlot i _ s) s)
  | attemptSuccess => exact .next (keeps_endAttempt keeps_attemptSucceeds s)
  | attemptFailed => exact .next (keeps_endAttempt keeps_attemptFails s)
  | busOffRecovery => exact .next (keeps_eventFill (does_recoverBus s) rfl rfl)
  | storePageDone =>
    refine .next ?_
    split
    · exact .ite (fun _ => .of_fields) (fun _ => .refl s)
    · exact .refl s
  | storeReadbackDone agrees =>
    refine .next ?_
    split
    · refine .ite (fun _ => .ite (fun _ => ?_) (fun _ => ?_)) (fun _ => .refl s) <;>
        exact .post .of_fields _
    · exact .refl s
  | storePageTimeout =>
    refine .next ?_
    split
    · exact .ite (fun _ => .post .of_fields _) (fun _ => .refl s)
    · exact .refl s
  | frameGapTimeout => exact .next (keeps_receiverTo _ s)
  | frameCrcMismatch => exact .next (keeps_receiverTo _ s)
  | frameIgnored a k => exact .next (.ite (fun _ => keeps_receiverTo _ s) (fun _ => .refl s))
  | unknownKind k => exact .next (.ite (fun _ => .refl s) (fun _ => (keeps_arrive s).answered _ _ _))
  | replyStart =>
    refine .next (.ite (fun _ => .refl s) (fun _ => ?_))
    split
    · exact .of_fields
    · exact .refl s
  | replyEnd => exact .next (.ite (fun _ => .of_fields) (fun _ => .refl s))
  | identify r => exact .next (keeps_request fun _ t => keeps_answer _ _ _ t)
  | getStatus r => exact .next (keeps_request fun _ t => keeps_answer _ _ _ t)
  | reset r => exact .next (keeps_request fun _ t => .of_fields)
  | setClock broadcast r =>
    refine .next (.ite (fun _ => ?_) (fun _ => ?_))
    · exact keeps_broadcastIn fun _ t => .of_fields
    · exact keeps_request fun _ t => .of_fields
  | getClock r => exact .next (keeps_request fun _ t => keeps_answer _ _ _ t)
  | configOpen r => exact .next (keeps_request (keeps_thenFill fun _ t => keeps_openConfig t))
  | configWrite r => exact .next (keeps_request keeps_writeConfig)
  | configRead r => exact .next (keeps_request keeps_readConfig)
  | configClose r => exact .next (keeps_request (keeps_thenFill fun _ t => keeps_closeConfig t))
  | configStore r => exact .next (keeps_request keeps_storeConfig)
  | curveWrite r => exact .next (keeps_request (keeps_thenFill keeps_writeCurve))
  | curveRead r =>
    exact .next (keeps_request fun _ t => .ite (fun _ => keeps_answer _ _ _ t) (fun _ => keeps_answer _ _ _ t))
  | mapWrite r =>
    exact .next (keeps_request (keeps_thenFill fun x t =>
      keeps_unlessStoring (keeps_notInFallback (keeps_mapChecks x.1 x.2 t))))
  | mapRemove r =>
    exact .next (keeps_request (keeps_thenFill fun a t =>
      keeps_unlessStoring (keeps_notInFallback (keeps_removeMapping a t))))
  | mapLookup r => exact .next (keeps_request keeps_lookupMapping)
  | mapReadSet r =>
    exact .next (keeps_request fun _ t => .ite (fun _ => keeps_answer _ _ _ t) (fun _ => keeps_answer _ _ _ t))
  | listUnknown r => exact .next (keeps_request fun _ t => keeps_answer _ _ _ t)
  | clearUnknown r => exact .next (keeps_request fun _ t => .of_fields)
  | readZone r => exact .next (keeps_request keeps_readZoneRule)
  | readBays r =>
    exact .next (keeps_request fun _ t => .ite (fun _ => keeps_answer _ _ _ t) (fun _ => keeps_answer _ _ _ t))
  | readSensor r =>
    exact .next (keeps_request fun _ t => .ite (fun _ => keeps_answer _ _ _ t) (fun _ => keeps_answer _ _ _ t))
  | readFan r =>
    exact .next (keeps_request fun _ t => .ite (fun _ => keeps_answer _ _ _ t) (fun _ => keeps_answer _ _ _ t))
  | readGroup r =>
    exact .next (keeps_request fun _ t => .ite (fun _ => keeps_answer _ _ _ t) (fun _ => keeps_answer _ _ _ t))
  | readSign r =>
    exact .next (keeps_request fun _ t => .ite (fun _ => keeps_answer _ _ _ t) (fun _ => keeps_answer _ _ _ t))
  | readLoops r => exact .next (keeps_request fun _ t => keeps_answer _ _ _ t)
  | bayReserve r =>
    exact .next (keeps_request (keeps_thenFill fun x t => keeps_inRunning (keeps_reserveRequest x.1 x.2 t)))
  | bayRelease r => exact .next (keeps_request (keeps_thenFill fun b t => keeps_inRunning (keeps_releaseRequest b t)))
  | bayClose r =>
    exact .next (keeps_request (keeps_thenFill fun b t =>
      keeps_unlessStoring (keeps_inRunning (keeps_closeRequest b t))))
  | bayOpen r =>
    exact .next (keeps_request (keeps_thenFill fun b t =>
      keeps_unlessStoring (keeps_inRunning (keeps_openRequest b t))))
  | fanClear r => exact .next (keeps_request (keeps_thenFill keeps_clearFan))
  | levelCounts broadcast r =>
    refine .next (.ite (fun _ => ?_) (fun _ => ?_))
    · exact keeps_broadcastIn (keeps_thenFill keeps_levelCountsBroadcast)
    · exact keeps_request (keeps_thenFill keeps_levelCountsRule)
  | overridePush r => exact .next (keeps_request (keeps_thenFill keeps_pushRule))
  | overridePop r => exact .next (keeps_request (keeps_thenFill fun _ t => keeps_popRule t))
  | overrideRemove r => exact .next (keeps_request (keeps_thenFill keeps_removeRule))
  | overrideList r => exact .next (keeps_request fun _ t => keeps_answer _ _ _ t)
  | fetchNotices r => exact .next (keeps_request fun _ t => .of_fields)
  | noticeClasses r => exact .next (keeps_request fun _ t => .of_fields)
  | frameSync => exact .next (keeps_receiverTo _ s)
  | frameLenAbandoned len => exact .next (.ite (fun _ => keeps_receiverTo _ s) (fun _ => .refl s))
  | pwmPeriodStart => exact .next (.of_does (does_fan s _) rfl rfl)

theorem keeps_crystalCycle (s : State) : KeepsBays s (crystalCycle s) := .of_fields

theorem keeps_step {s t : State} (h : step s = .next t) : KeepsBays s t := by
  unfold step at h
  split at h
  · rw [← Host.Outcome.next.inj h]
    exact keeps_crystalCycle s
  · rename_i c rest _
    exact .trans (.of_fields (t := { s with pending := rest })) (keeps_exec c _ t h)

/-- Settles O52: every command keeps the three laws, each by the operations it runs on the bays and the map. -/
theorem baysCountsAndMapKeepTheirLaws : Obligations.BaysCountsAndMapKeepTheirLaws := by
  intro s t h
  obtain ⟨hb, hf, hm⟩ := keeps_step h
  exact ⟨hb, hf, hm⟩

end Sys2Proof.Machine
end

section
/-! SUPPORT. What the change of a bay's sensed value does to the lighting controller and the air monitor (R12): the
triggers of the groups whose bay range holds it, and the emission credit of its zone. -/

namespace Sys2Proof.Machine

/-! ## Presence triggers (R89, R90) -/

theorem mem_presentGroups {s : State} {g : Nat} :
    g ∈ presentGroups s ↔ g < 48 ∧ (s.cfg.inForce.groups.nth g).present = true := by simp [presentGroups]

theorem presentGroups_congr {s t : State} (h : t.cfg = s.cfg) : presentGroups t = presentGroups s := by
  simp only [presentGroups, h]

theorem setGroup_stay (g h : Nat) (x : Group) (s : State) : ((setGroup g x s).light.groups.nth h).stay
    = if h = g ∧ g < 48 then x.stay else (s.light.groups.nth h).stay := by
  rw [setGroup_light, Tab.nth_put]
  split <;> rfl

@[simp] theorem formGroup_stay (g h : Nat) (s : State) :
    ((formGroup g s).light.groups.nth h).stay = (s.light.groups.nth h).stay := by
  rw [formGroup, (marks_note _ _ _).stay, setGroup_stay]
  split
  · rename_i k
    rw [k.1]
    rfl
  · rfl

/-- R89: a trigger gives a present group its stay-lit time. -/
theorem trigger_stay {s : State} (hr : running s = true) {g : Nat} (hg : g ∈ presentGroups s) (h : Nat) :
    ((trigger g s).light.groups.nth h).stay
      = if h = g then (s.cfg.inForce.groups.nth g).stayLit else (s.light.groups.nth h).stay := by
  obtain ⟨hlt, hp⟩ := mem_presentGroups.mp hg
  simp only [trigger, hr, hp, Bool.and_self, if_true]
  split <;> simp only [formGroup_stay, setGroup_stay, hlt, and_true]

theorem triggers_stay {s : State} (hr : running s = true) {gs : List Nat} (hg : ∀ g ∈ gs, g ∈ presentGroups s)
    (h : Nat) : ((gs.foldl (fun t g => trigger g t) s).light.groups.nth h).stay
      = if h ∈ gs then (s.cfg.inForce.groups.nth h).stayLit else (s.light.groups.nth h).stay := by
  induction gs generalizing s with
  | nil => simp
  | cons g gs ih =>
    have hd := does_trigger g s
    have hc : (trigger g s).cfg = s.cfg := hd.cfg rfl
    have hp : ∀ k ∈ gs, k ∈ presentGroups (trigger g s) := fun k hk => by
      rw [presentGroups_congr hc]
      exact hg k (by simp [hk])
    rw [List.foldl_cons, ih ((hd.running rfl).trans hr) hp, hc, trigger_stay hr (hg g (by simp))]
    by_cases h1 : h ∈ gs
    · simp [h1]
    · by_cases h2 : h = g <;> simp [h1, h2]

/-- R90: a sensed change of a bay triggers the present groups whose bay range holds it. -/
theorem lightSensed_stay {s : State} (hr : running s = true) (b g : Nat) :
    ((lightSensed b s).light.groups.nth g).stay
      = if g ∈ presentGroups s ∧ rangeHas (s.cfg.inForce.groups.nth g) b = true
        then (s.cfg.inForce.groups.nth g).stayLit else (s.light.groups.nth g).stay := by
  rw [lightSensed, triggers_stay hr (fun g hg => (List.mem_filter.mp hg).1)]
  simp only [List.mem_filter]

/-! ## The emission credit (R42) -/

/-- R42: an emission credit goes to a present zone, and no further than 1000. -/
theorem credit_zones {s : State} (hr : running s = true) (zone w z : Nat) :
    (credit zone w s).air.zones.nth z = if z = zone ∧ zonePresent s.cfg.inForce z = true
      then { s.air.zones.nth z with e := min 1000 ((s.air.zones.nth z).e + w) } else s.air.zones.nth z := by
  simp only [credit, hr, Bool.true_and]
  split
  · rename_i hp
    rw [setZoneAir_air, Tab.nth_put]
    by_cases hz : z = zone
    · subst hz
      simp [hp, zonePresent_lt hp]
    · simp [hz]
  · rename_i hp
    rw [if_neg]
    rintro ⟨rfl, h⟩
    exact hp h

@[simp] theorem credit_sensors (z w : Nat) (s : State) : (credit z w s).air.sensors = s.air.sensors := by
  dsimp only [credit]
  split <;> rfl

/-! ## A sensed change (R12) -/

theorem weightOf_eq (p : Params) (d : Det) : weightOf p d = if d = .present then p.arrival else p.departure := by
  cases d <;> rfl

section SensedChange

variable {s : State} (hr : running s = true) (b : Nat) (d : Det)
include hr

theorem sensedChange_stay (g : Nat) : ((sensedChange b d s).light.groups.nth g).stay
    = if g ∈ presentGroups s ∧ rangeHas (s.cfg.inForce.groups.nth g) b = true
      then (s.cfg.inForce.groups.nth g).stayLit else (s.light.groups.nth g).stay := by
  have hd := does_credit (bayOf s b).zone (weightOf (params s) d) s
  rw [sensedChange, (does_guideSensed b _).light rfl, lightSensed_stay ((hd.running rfl).trans hr),
    presentGroups_congr (hd.cfg rfl), hd.cfg rfl, hd.light rfl]

theorem sensedChange_zones (z : Nat) : (sensedChange b d s).air.zones.nth z
    = if z = (bayOf s b).zone ∧ zonePresent s.cfg.inForce z = true
      then { s.air.zones.nth z with e := min 1000 ((s.air.zones.nth z).e + weightOf (params s) d) }
      else s.air.zones.nth z := by
  rw [sensedChange, (does_guideSensed b _).air rfl, (does_lightSensed b _).air rfl, credit_zones hr]

end SensedChange

@[simp] theorem sensedChange_sensors (b : Nat) (d : Det) (s : State) :
    (sensedChange b d s).air.sensors = s.air.sensors := by
  rw [sensedChange, (does_guideSensed b _).air rfl, (does_lightSensed b _).air rfl, credit_sensors]

section SettleBay

variable {s : State} (hr : running s = true) {b : Nat} (d : Det)

@[simp] theorem takeSensed_zone (hb : b < 512) : (bayOf (takeSensed b d s) b).zone = (bayOf s b).zone := by
  rw [(takeSensed_becomes hb d s).self]
  rfl

include hr

theorem settleBay_stay (g : Nat) : ((settleBay b d s).light.groups.nth g).stay
    = if g ∈ presentGroups s ∧ rangeHas (s.cfg.inForce.groups.nth g) b = true
      then (s.cfg.inForce.groups.nth g).stayLit else (s.light.groups.nth g).stay := by
  have hd := does_takeSensed b d s
  rw [settleBay, sensedChange_stay ((hd.running rfl).trans hr), presentGroups_congr (hd.cfg rfl), hd.cfg rfl,
    hd.light rfl]

theorem settleBay_zones (hb : b < 512) (z : Nat) : (settleBay b d s).air.zones.nth z
    = if z = (bayOf s b).zone ∧ zonePresent s.cfg.inForce z = true
      then { s.air.zones.nth z with e := min 1000 ((s.air.zones.nth z).e + weightOf (params s) d) }
      else s.air.zones.nth z := by
  have hd := does_takeSensed b d s
  rw [settleBay, sensedChange_zones ((hd.running rfl).trans hr), takeSensed_zone d hb, hd.air rfl]
  simp only [params, hd.cfg rfl]

end SettleBay

theorem settleBay_sensors (b : Nat) (d : Det) (s : State) : (settleBay b d s).air.sensors = s.air.sensors := by
  rw [settleBay, sensedChange_sensors, (does_takeSensed b d s).air rfl]

/-- R17: a bay that takes a vehicle gives up its reservation with a notice. -/
theorem announced_takeSensed {b : Nat} {d : Det} {s : State} (h : d = .present)
    (k : isReserved (bayOf s b).admin = true) : announced s (takeSensed b d s) (.reservationEnd b .taken) := by
  simp only [takeSensed, h, k, and_self, if_true]
  exact (((does_setBay s b _).mono rfl).trans (does_rederive b _)).announced_post _ rfl rfl

theorem announced_settleBay {b : Nat} {d : Det} {s : State} (h : d = .present)
    (k : isReserved (bayOf s b).admin = true) : announced s (settleBay b d s) (.reservationEnd b .taken) :=
  (announced_takeSensed h k).kept (does_sensedChange b d _) rfl

theorem sensedOf_eq (d : Det) (now : BitVec 32) : sensedOf d now = (match d with
    | .present => .present now
    | .vacant => .vacant) := by cases d <;> rfl

end Sys2Proof.Machine
end

section
/-! SUPPORT. Detector reports (section 1.3): the part of a report that does not depend on what the bay has sensed, and the
comparison with it. -/

namespace Sys2Proof.Machine

/-- R8, R9: bay `b` has been heard, and its detector is healthy. -/
def heard (b : Nat) (s : State) : State := setBay b { bayOf s b with health := .ok, lastHeard := 0 } s

/-- R7, R8: after a healthy report that found `s`, a detector that was faulty is announced as healthy. -/
def recovered (b : Nat) (s t : State) : State :=
  if (bayOf s b).health = .fault then post (.bayDetector b .ok) t else t

theorem okReport_eq (b : Nat) (d : Det) (s : State) : okReport b d s = recovered b s
    (if (bayOf s b).sensed = .nothing then takeSensed b d (heard b s) else compareReport b d (heard b s)) := rfl

theorem does_heard (b : Nat) (s : State) : Does [.occ] s (heard b s) := does_setBay s b _

theorem heard_becomes {b : Nat} (hb : b < 512) (s : State) :
    BayBecomes b { bayOf s b with health := .ok, lastHeard := 0 } s (heard b s) := setBay_becomes hb _ s

theorem does_recovered (b : Nat) (s t : State) : Does [.notices] t (recovered b s t) :=
  Does.ite (fun _ => does_post _ t) (fun _ => .refl t)

theorem announced_recovered {bs : List Block} {b : Nat} {s t : State} (h : Does bs s t)
    (k : bs.contains .link = false) (l : bs.contains .time = false) (f : (bayOf s b).health = .fault) :
    announced s (recovered b s t) (.bayDetector b .ok) := by
  rw [recovered, if_pos f]
  exact h.announced_post _ k l

theorem announced.recovered {s t : State} {b : Nat} {n : Notice} (h : announced s t n)
    (k : sameNotice n (.bayDetector b .ok) = false) : announced s (Machine.recovered b s t) n := by
  dsimp only [Machine.recovered]
  split
  · exact h.post_other k
  · exact h

/-- An operation leaves what it announces relative to a state that differs only in what the notices do not read. -/
theorem announced.of_does {bs : List Block} {s t u : State} {n : Notice} (h : announced t u n) (k : Does bs s t)
    (l : bs.contains .link = false) (m : bs.contains .time = false) : announced s u n := by
  rw [announced, ← k.classes l, ← k.time m]
  exact h

/-- R9: the pending value of a bay whose healthy report is compared. -/
def Bay.compared (d : Det) (settle : Nat) (x : Bay) : Bay :=
  { x with
    pending := if agrees d x.sensed = true then none else if x.pending = none then some (d, settle) else x.pending }

/-- R9: a report that agrees, or whose settle takes time, changes at most the pending value. -/
theorem compareReport_pending {b : Nat} (hb : b < 512) {d : Det} {s : State}
    (h : agrees d (bayOf s b).sensed = true ∨ 0 < (params s).settle) :
    BayBecomes b ((bayOf s b).compared d (params s).settle) s (compareReport b d s) ∧
      Does [.occ] s (compareReport b d s) ∧ (compareReport b d s).occ.free = s.occ.free := by
  dsimp only [compareReport]
  split
  · rename_i ha
    refine ⟨?_, does_setBay s b _, rfl⟩
    simpa only [Bay.compared, ha, if_true] using setBay_becomes hb _ s
  · rename_i ha
    split
    · rename_i hp
      refine ⟨?_, .refl s, rfl⟩
      have hn : (bayOf s b).pending ≠ none := Option.isSome_iff_ne_none.mp hp
      simpa only [Bay.compared, ha, hn, Bool.false_eq_true, if_false] using BayBecomes.refl b s
    · rename_i hp
      rw [if_neg (by have := h.resolve_left ha; omega)]
      refine ⟨?_, does_setBay s b _, rfl⟩
      have hn : (bayOf s b).pending = none := by simpa using hp
      simpa only [Bay.compared, ha, hn, Bool.false_eq_true, if_false, if_true] using setBay_becomes hb _ s

/-- R9: under a settle count of 0 a report that differs takes effect at once. -/
theorem compareReport_settles {b : Nat} {d : Det} {s : State} (ha : agrees d (bayOf s b).sensed = false)
    (hs : (params s).settle = 0) (hp : (bayOf s b).pending = none) : compareReport b d s = settleBay b d s := by
  simp [compareReport, ha, hs, hp]

theorem faultReport_becomes {b : Nat} (hb : b < 512) (s : State) : BayBecomes b
    (Bay.derived (running s) { bayOf s b with sensed := .nothing, pending := none, health := .fault, lastHeard := 0 }) s
    (faultReport b s) := by
  have h := setBay_becomes hb { bayOf s b with health := .fault, lastHeard := 0 } s
  have k := h.trans (loseSensed_becomes hb _)
  rw [h.self] at k
  dsimp only [faultReport]
  split
  · exact k.kept (does_post _ _) rfl
  · exact k

theorem announced_faultReport {b : Nat} {s : State} (h : (bayOf s b).health = .ok) :
    announced s (faultReport b s) (.bayDetector b .fault) := by
  simp only [faultReport, h, if_true]
  exact (((does_setBay s b _).mono rfl).trans (does_loseSensed b _)).announced_post _ rfl rfl

/-- R6: a report that reaches its bay. -/
theorem exec_bayState {a : Addr} {d : Det} {h : Health} {b : Nat} {s : State} (hr : running s = true)
    (hd : delivered s a = true) (hm : mapBay s.cfg.map a = some b) :
    exec (.bayState a d h) s = .next (fillSlots (bayReport b d h s)) := by
  have he : exec (.bayState a d h) s = .next (deliver a (takeBayState a d h) s) := rfl
  simp only [he, deliver, hd, takeBayState, hm, hr, if_true]

/-- Settles O17: the bay is heard and takes the detection; only a recovered detector's notice and the filling of slots
follow. -/
theorem firstHealthyReportIsTakenAtOnce : Obligations.FirstHealthyReportIsTakenAtOnce := by
  intro a d b s hr hd hm hb hn
  have hheard := heard_becomes hb s
  have hdoes : Does [.occ, .guide, .slots, .notices] s (takeSensed b d (heard b s)) :=
    ((does_heard b s).mono rfl).trans (does_takeSensed b d _)
  have hrec := does_recovered b s (takeSensed b d (heard b s))
  have hbay : BayBecomes b ((Bay.taking d s.time.clock { bayOf s b with health := .ok, lastHeard := 0 }).derived true) s
      (fillSlots (recovered b s (takeSensed b d (heard b s)))) := by
    have k := hheard.trans (takeSensed_becomes hb d _)
    rw [hheard.self, (does_heard b s).running rfl, hr, (does_heard b s).time rfl] at k
    exact (k.kept hrec rfl).kept (does_fillSlots _) rfl
  refine ⟨_, exec_bayState hr hd hm, ?_⟩
  rw [bayReport, okReport_eq, if_pos hn]
  refine ⟨?_, ?_, ?_, ?_, ?_, ?_, ?_, ?_, ?_, ?_, hbay.others, ?_, ?_, ?_⟩
  · exact ((hdoes.mono rfl).trans ((hrec.mono rfl).trans ((does_fillSlots _).mono rfl))).frame
  · rw [hbay.self]
    exact sensedOf_eq d _
  iterate 8
    rw [hbay.self]
    rfl
  · intro g
    rw [(marks_fillSlots _).stay, hrec.light rfl, hdoes.light rfl]
  · intro hp hres
    have hres' : isReserved (bayOf (heard b s) b).admin = true := by
      rw [hheard.self]
      exact hres
    have hann := (announced_takeSensed hp hres').of_does (does_heard b s) rfl rfl
    exact (hann.recovered rfl).kept (does_fillSlots _) rfl
  · intro hf
    exact (announced_recovered hdoes rfl rfl hf).kept (does_fillSlots _) rfl

end Sys2Proof.Machine
end

section
/-! SUPPORT. Later detector reports, the end of a settle, the silence scan and the end of a reservation (R7, R9 to R12,
R17). -/

namespace Sys2Proof.Machine

/-- R9: a report that agrees, or whose settle takes time, leaves the bay compared, and nothing else but a notice. -/
theorem okReport_waits {b : Nat} (hb : b < 512) {d : Det} {s : State} (hn : (bayOf s b).sensed ≠ .nothing)
    (h : agrees d (bayOf s b).sensed = true ∨ 0 < (params s).settle) :
    BayBecomes b (Bay.compared d (params s).settle { bayOf s b with health := .ok, lastHeard := 0 }) s (okReport b d s) ∧
      Does [.occ, .notices] s (okReport b d s) ∧ (okReport b d s).occ.free = s.occ.free ∧
      ((bayOf s b).health = .fault → announced s (okReport b d s) (.bayDetector b .ok)) := by
  have hheard := heard_becomes hb s
  have hag : agrees d (bayOf (heard b s) b).sensed = true ∨ 0 < (params (heard b s)).settle := by
    rw [hheard.self]
    exact h
  obtain ⟨hcmp, hdoes, hfree⟩ := compareReport_pending hb hag
  have hd : Does [.occ] s (compareReport b d (heard b s)) := (does_heard b s).trans hdoes
  have hrec := does_recovered b s (compareReport b d (heard b s))
  have hbay := (hheard.trans hcmp).kept hrec rfl
  rw [hheard.self] at hbay
  rw [okReport_eq, if_neg hn]
  refine ⟨hbay, (hd.mono rfl).trans (hrec.mono rfl), ?_, announced_recovered hd rfl rfl⟩
  rw [hrec.occ rfl]
  exact hfree

/-- R9, R12: a report that differs under a settle count of 0 does what the end of a settle does. -/
theorem okReport_settles {b : Nat} (hb : b < 512) {d : Det} {s : State} (hn : (bayOf s b).sensed ≠ .nothing)
    (ha : agrees d (bayOf s b).sensed = false) (hs : (params s).settle = 0) (hp : (bayOf s b).pending = none) :
    okReport b d s = recovered b s (settleBay b d (heard b s)) := by
  have hheard := heard_becomes hb s
  have hcmp : compareReport b d (heard b s) = settleBay b d (heard b s) :=
    compareReport_settles (by rw [hheard.self]; exact ha) hs (by rw [hheard.self]; exact hp)
  rw [okReport_eq, if_neg hn, hcmp]

/-- Settles O18: by the three cases of a report for a bay that has sensed: it agrees or waits, it takes effect at once,
or it is a fault. -/
theorem laterReportsSettleOrFault : Obligations.LaterReportsSettleOrFault := by
  intro a d b s hr hd hm hb
  refine ⟨fun hn h => ?_, fun hn ha hs hp => ?_, ?_⟩
  · obtain ⟨hcmp, hdoes, hfree, hann⟩ := okReport_waits hb hn h
    have hbay := hcmp.kept (does_fillSlots _) rfl
    refine ⟨_, exec_bayState hr hd hm, ?_, hbay.self, hbay.others, ?_, fun hf => (hann hf).kept (does_fillSlots _) rfl⟩
    · exact ((hdoes.mono rfl).trans ((does_fillSlots _).mono rfl)).frame
    · rw [(does_fillSlots _).occ rfl]
      exact hfree
  · have hheard := heard_becomes hb s
    have hrh : running (heard b s) = true := hr
    have hdoes : Does bayBlocks s (settleBay b d (heard b s)) :=
      ((does_heard b s).mono rfl).trans (does_settleBay b d _)
    have hrec := does_recovered b s (settleBay b d (heard b s))
    have hbay : BayBecomes b ((Bay.taking d s.time.clock { bayOf s b with health := .ok, lastHeard := 0 }).derived true) s
        (fillSlots (recovered b s (settleBay b d (heard b s)))) := by
      have k := hheard.trans (settleBay_becomes hb d _)
      rw [hheard.self, hrh, (does_heard b s).time rfl] at k
      exact (k.kept hrec rfl).kept (does_fillSlots _) rfl
    have hair : (fillSlots (recovered b s (settleBay b d (heard b s)))).air = (settleBay b d (heard b s)).air := by
      rw [(does_fillSlots _).air rfl, hrec.air rfl]
    intro w
    refine ⟨_, exec_bayState hr hd hm, ?_⟩
    rw [bayReport, okReport_settles hb hn ha hs hp]
    refine ⟨?_, ?_, ?_, hbay.others, ?_, fun z => ?_, fun g => ?_, fun hpr hres => ?_, fun hf => ?_⟩
    · exact (hdoes.trans ((hrec.mono rfl).trans ((does_fillSlots _).mono rfl))).frame
    · rw [hbay.self]
      cases d <;> rfl
    · rw [hbay.self]
      rfl
    · rw [hair, settleBay_sensors]
      rfl
    · rw [hair, settleBay_zones hrh d hb, hheard.self, weightOf_eq]
      rfl
    · rw [(marks_fillSlots _).stay, hrec.light rfl, settleBay_stay hrh]
      rfl
    · have hres' : isReserved (bayOf (heard b s) b).admin = true := by
        rw [hheard.self]
        exact hres
      have hann := (announced_settleBay hpr hres').of_does (does_heard b s) rfl rfl
      exact (hann.recovered rfl).kept (does_fillSlots _) rfl
    · exact (announced_recovered hdoes rfl rfl hf).kept (does_fillSlots _) rfl
  · have hdoes := does_faultReport b s
    have hbay := (faultReport_becomes hb s).kept (does_fillSlots _) rfl
    rw [hr] at hbay
    refine ⟨_, exec_bayState hr hd hm, ?_, ?_, ?_, hbay.others, fun g => ?_, fun hok => ?_⟩
    · exact ((hdoes.mono rfl).trans ((does_fillSlots _).mono rfl)).frame
    · rw [bayReport, hbay.self]
      rfl
    · rw [bayReport, hbay.self]
      rfl
    · rw [(marks_fillSlots _).stay, bayReport, hdoes.light rfl]
    · exact (announced_faultReport hok).kept (does_fillSlots _) rfl

/-- Settles O23: the settle's last tap is `settleBay`, whose change of the bay, credit and triggers are known. -/
theorem settleExpiryMovesAVehicle : Obligations.SettleExpiryMovesAVehicle := by
  intro b d s hb hr hp
  have he : exec (.settleExpiry b) s = .next (fillSlots (settleBay b d s)) := by
    have hx : exec (.settleExpiry b) s = within b 512 (if settleDue s b then fillSlots (settleTap b s) else s) := rfl
    simp [hx, within, hb, settleDue, hr, hp, settleTap]
  have hdoes := does_settleBay b d s
  have hbay := (settleBay_becomes hb d s).kept (does_fillSlots _) rfl
  refine ⟨_, he, ?_, ?_, ?_, ?_, hbay.others, ?_, fun z => ?_, fun g => ?_, fun hpr hres => ?_⟩
  · exact (hdoes.trans ((does_fillSlots _).mono rfl)).frame
  · rw [hbay.self]
    exact sensedOf_eq d _
  · rw [hbay.self]
    rfl
  · rw [hbay.self]
    rfl
  · rw [(does_fillSlots _).air rfl, settleBay_sensors]
  · rw [(does_fillSlots _).air rfl, settleBay_zones hr d hb, weightOf_eq]
  · rw [(marks_fillSlots _).stay, settleBay_stay hr]
  · exact (announced_settleBay hpr hres).kept (does_fillSlots _) rfl

/-! ## The silence scan (R11) -/

theorem fallsSilent_iff {x : Bay} :
    fallsSilent x = true ↔ x.detector ≠ none ∧ 180 < x.lastHeard ∧ x.sensed ≠ .nothing := by
  simp [fallsSilent, Option.isSome_iff_ne_none, and_assoc]

/-- R11: a bay after the scan has passed it. -/
def Bay.scanned (tracking : Bool) (x : Bay) : Bay :=
  if fallsSilent x = true then Bay.derived tracking { x with sensed := .nothing, pending := none } else x

theorem scanBay_becomes {b : Nat} (hb : b < 512) (s : State) :
    BayBecomes b ((bayOf s b).scanned (running s)) s (scanBay b s) := by
  dsimp only [scanBay, Bay.scanned]
  split
  · exact (loseSensed_becomes hb s).kept (does_post _ _) rfl
  · exact .refl b s

@[simp] theorem scanBay_scan (b : Nat) (s : State) : (scanBay b s).occ.scan = s.occ.scan := by
  dsimp only [scanBay]
  split
  · rw [post_occ, loseSensed, rederive_scan]
    rfl
  · rfl

@[simp] theorem scanBays_scan (bs : List Nat) (s : State) :
    (bs.foldl (fun u b => scanBay b u) s).occ.scan = s.occ.scan := by
  induction bs generalizing s with
  | nil => rfl
  | cons b bs ih => rw [List.foldl_cons, ih, scanBay_scan]

/-- The scan of a list of bays changes a bay by its own scan only. -/
theorem bayOf_scanBays {bs : List Nat} (h : ∀ b ∈ bs, b < 512) (nodup : bs.Nodup) (s : State) (c : Nat) :
    bayOf (bs.foldl (fun u b => scanBay b u) s) c
      = if c ∈ bs then (bayOf s c).scanned (running s) else bayOf s c := by
  induction bs generalizing s with
  | nil => simp
  | cons b bs ih =>
    obtain ⟨hnot, hnodup⟩ := List.nodup_cons.mp nodup
    have hbecomes := scanBay_becomes (h b (by simp)) s
    rw [List.foldl_cons, ih (fun c hc => h c (by simp [hc])) hnodup, (does_scanBay b s).running rfl]
    by_cases hcb : c = b
    · subst hcb
      rw [if_neg hnot, if_pos (by simp), hbecomes.self]
    · rw [hbecomes.others c hcb]
      by_cases hc : c ∈ bs <;> simp [hc, hcb]

/-- Settles O24: the scan changes each bay by its own scan, and a reservation that has one second left is expired. -/
theorem silenceAndReservationsEnd : Obligations.SilenceAndReservationsEnd := by
  intro s hr
  refine ⟨fun hscan => ?_, fun b hb hres => ?_⟩
  · have he : exec .silenceScan s = .next (fillSlots (scanTap s)) := by
      have hx : exec .silenceScan s = .next (if running s ∧ s.occ.scan = 15 then fillSlots (scanTap s) else s) := rfl
      rw [hx, if_pos ⟨hr, hscan⟩]
    have htap : scanTap s = allBays.foldl (fun u b => scanBay b u) { s with occ := { s.occ with scan := 0 } } := by
      simp [scanTap, hscan]
    refine ⟨_, he, ?_, ?_, ?_⟩
    · exact (((does_scanTap s).mono rfl).trans ((does_fillSlots _).mono rfl)).frame
    · rw [(does_fillSlots _).occ rfl, htap, scanBays_scan]
    · intro b hb x silent
      have hbay : bayOf (fillSlots (scanTap s)) b = x.scanned true := by
        rw [(does_fillSlots _).bayOf rfl, htap, allBays, bayOf_scanBays (fun c hc => List.mem_range.mp hc) List.nodup_range,
          if_pos (List.mem_range.mpr hb), ← hr]
        rfl
      rw [hbay]
      refine ⟨fun hs => ?_, fun hs => ?_⟩
      · rw [Bay.scanned, if_pos (fallsSilent_iff.mpr hs)]
        exact ⟨rfl, rfl, rfl, rfl, rfl⟩
      · rw [Bay.scanned, if_neg (fun h => hs (fallsSilent_iff.mp h))]
  · have he : exec (.reservationExpiry b) s = .next (fillSlots (expireReservation b s)) := by
      have hx : exec (.reservationExpiry b) s
          = within b 512 (if reservationDue s b then fillSlots (reservationTap b s) else s) := rfl
      simp [hx, within, hb, reservationDue, hr, hres, reservationTap]
    have hdoes := does_expireReservation b s
    have hbay := (expireReservation_becomes hb s).kept (does_fillSlots _) rfl
    refine ⟨_, he, ?_, ?_, hbay.others, ?_⟩
    · exact ((hdoes.mono rfl).trans ((does_fillSlots _).mono rfl)).frame
    · rw [hbay.self, hr]
      rfl
    · have hd := ((does_setBay s b { bayOf s b with admin := .inService }).mono rfl).trans (does_rederive b _)
      exact (hd.announced_post (.reservationEnd b .expired) rfl rfl).kept (does_fillSlots _) rfl

end Sys2Proof.Machine
end

section
/-! SUPPORT. Delivery of the received frames (R157, R158), the unknown-device list (R161) and ANNOUNCE (R160). -/

namespace Sys2Proof.Machine

/-! ## What is delivered (R157, R158) -/

theorem any_list_iff {α : Type} [Inhabited α] {n : Nat} (t : Tab α n) (p : α → Bool) :
    t.list.any p = true ↔ ∃ i, i < n ∧ p (t.nth i) = true := by
  rw [List.any_eq_true]
  constructor
  · rintro ⟨x, hx, hp⟩
    obtain ⟨i, hi, rfl⟩ := List.getElem_of_mem hx
    rw [Tab.list_length] at hi
    exact ⟨i, hi, by rw [Tab.nth_of_lt t hi]; exact hp⟩
  · rintro ⟨i, hi, hp⟩
    exact ⟨t.nth i, by rw [Tab.nth_of_lt t hi]; exact List.getElem_mem _, hp⟩

/-- R158: an address accepted by one filter. -/
def filterTakes (r : FilterRec) (a : Addr) : Prop :=
  let x := BitVec.ofNat 20 a
  match r.mode with
  | .exact => x = r.code
  | .mask => x &&& r.mask = r.code &&& r.mask
  | .range => r.low ≤ x ∧ x ≤ r.high

theorem filterAccepts_iff {r : FilterRec} {a : Addr} (h : a ≤ 0xFFFFE) :
    filterAccepts r a = true ↔ filterTakes r a := by
  have hx : (BitVec.ofNat 20 a).toNat = a := Nat.mod_eq_of_lt (Nat.lt_of_le_of_lt h (by decide))
  cases hm : r.mode with
  | exact => simp only [filterAccepts, filterTakes, hm, beq_iff_eq]
  | mask => simp only [filterAccepts, filterTakes, hm, beq_iff_eq]
  | range => simp only [filterAccepts, filterTakes, hm, BitVec.le_def, hx, Bool.and_eq_true, decide_eq_true_iff]

/-- R158: no filter is enabled, or an enabled one accepts the address. -/
theorem accepts_iff {c : Cfg} {a : Addr} (h : a ≤ 0xFFFFE) : accepts c a = true ↔
    (∀ i, i < 8 → (c.filters.nth i).enabled = false) ∨
      ∃ i, i < 8 ∧ (c.filters.nth i).enabled = true ∧ filterTakes (c.filters.nth i) a := by
  have hany : (c.filters.list.filter (·.enabled)).any (fun r => filterAccepts r a) = true ↔
      ∃ i, i < 8 ∧ (c.filters.nth i).enabled = true ∧ filterTakes (c.filters.nth i) a := by
    rw [List.any_filter, any_list_iff]
    simp only [Bool.and_eq_true, filterAccepts_iff h]
  have hnone : (c.filters.list.filter (·.enabled)).isEmpty = true ↔
      ∀ i, i < 8 → (c.filters.nth i).enabled = false := by
    have hno : c.filters.list.any (·.enabled) = false ↔ ∀ i, i < 8 → (c.filters.nth i).enabled = false := by
      rw [← Bool.not_eq_true, any_list_iff]
      simp
    rw [List.isEmpty_iff, List.filter_eq_nil_iff, ← hno, List.any_eq_false]
  rw [accepts, Bool.or_eq_true, hnone, hany]

theorem receives_iff {s : State} : receives s = true ↔ s.cfg.state ≠ .loading ∧ s.bus.state ≠ .off := by
  simp [receives, loading]

theorem isDevice_iff {a : Addr} : isDevice a = true ↔ 1 ≤ a ∧ a ≤ 0xFFFFE := by simp [isDevice]

theorem delivered_iff {s : State} {a : Addr} :
    delivered s a = true ↔ s.cfg.state ≠ .loading ∧ s.bus.state ≠ .off ∧ 0x00001 ≤ a ∧ a ≤ 0xFFFFE ∧
      ((∀ i, i < 8 → (s.cfg.inForce.filters.nth i).enabled = false) ∨
        ∃ i, i < 8 ∧ (s.cfg.inForce.filters.nth i).enabled = true ∧ filterTakes (s.cfg.inForce.filters.nth i) a) := by
  rw [delivered, Bool.and_eq_true, Bool.and_eq_true, receives_iff, isDevice_iff]
  constructor
  · rintro ⟨⟨⟨h1, h2⟩, h3, h4⟩, h5⟩
    exact ⟨h1, h2, h3, h4, (accepts_iff h4).mp h5⟩
  · rintro ⟨h1, h2, h3, h4, h5⟩
    exact ⟨⟨⟨h1, h2⟩, h3, h4⟩, (accepts_iff h4).mpr h5⟩

theorem deliver_of_delivered {s : State} {a : Addr} (h : delivered s a = true) (f : State → State) :
    deliver a f s = fillSlots (f s) := by rw [deliver, if_pos h]

theorem deliver_of_not {s : State} {a : Addr} (h : delivered s a = false) (f : State → State) : deliver a f s = s := by
  rw [deliver, if_neg (by simp [h])]

/-! ## The unknown-device list (R161) -/

section AddUnknown

variable {a : Addr} {type : DeviceType} {s : State}

theorem addUnknown_listed (h : s.bus.unknown.any (fun e => e.addr == a) = true) : addUnknown a type s = s := by
  rw [addUnknown, if_pos h]

theorem addUnknown_room (h : s.bus.unknown.any (fun e => e.addr == a) = false) (hl : s.bus.unknown.length < 8) :
    addUnknown a type s = post (.unknownDevice s.bus.unknown.length a type)
      { s with bus := { s.bus with unknown := s.bus.unknown ++ [⟨a, type, s.time.clock⟩] } } := by
  rw [addUnknown, if_neg (by simp [h]), if_pos hl]

theorem addUnknown_full (h : s.bus.unknown.any (fun e => e.addr == a) = false) (hl : 8 ≤ s.bus.unknown.length) :
    addUnknown a type s = if s.bus.overflow then s
      else post .unknownOverflow { s with bus := { s.bus with overflow := true } } := by
  rw [addUnknown, if_neg (by simp [h]), if_neg (by omega)]

/-- R161: the unknown-device list is all of the field bus controller that an unknown address can change. -/
theorem addUnknown_bus (a : Addr) (type : DeviceType) (s : State) : (addUnknown a type s).bus.errors = s.bus.errors ∧
    (addUnknown a type s).bus.state = s.bus.state ∧ (addUnknown a type s).bus.malformed = s.bus.malformed := by
  dsimp only [addUnknown]
  split
  · exact ⟨rfl, rfl, rfl⟩
  · split
    · exact ⟨rfl, rfl, rfl⟩
    · split <;> exact ⟨rfl, rfl, rfl⟩

theorem exec_unknownReport {c : Instr} (h : UnknownReport s a c type) (hd : delivered s a = true) :
    exec c s = .next (fillSlots (addUnknown a type s)) := by
  cases h with
  | bay d h hm =>
    have he : exec (.bayState a d h) s = .next (deliver a (takeBayState a d h) s) := rfl
    simp only [he, deliver_of_delivered hd, takeBayState, hm]
  | gas g hm =>
    have he : exec (.gasValue a g) s = .next (deliver a (takeGasValue a g) s) := rfl
    simp only [he, deliver_of_delivered hd, takeGasValue, hm]
  | ped p hm =>
    have he : exec (.pedPresence a p) s = .next (deliver a (takePed a p) s) := rfl
    simp only [he, deliver_of_delivered hd, takePed, hm]
  | lum h hm =>
    have he : exec (.lumState a h) s = .next (deliver a (takeLumState a h) s) := rfl
    simp only [he, deliver_of_delivered hd, takeLumState, hm]
  | sign h hm =>
    have he : exec (.signState a h) s = .next (deliver a (takeSignState a h) s) := rfl
    simp only [he, deliver_of_delivered hd, takeSignState, hm]
  | announce type hb hs hg hp hi =>
    have he : exec (.announce a type) s = .next (deliver a (takeAnnounce a type) s) := rfl
    simp only [he, deliver_of_delivered hd, takeAnnounce, hb, hs, hg, hp, hi]

end AddUnknown

/-- Filling the slots leaves the rest of the field bus controller. -/
theorem fillSlots_bus (s : State) :
    (fillSlots s).bus = { s.bus with slots := (fillSlots s).bus.slots, calls := (fillSlots s).bus.calls } :=
  (does_fillSlots s).bus rfl

/-- Settles O19: an unknown report is `addUnknown` by its three cases, and the other frames are not delivered. -/
theorem unknownAndDiscardedFrames : Obligations.UnknownAndDiscardedFrames := by
  intro s
  refine ⟨?_, ?_, fun a => delivered_iff, ?_, ?_⟩
  · intro a c type hu hd listed
    obtain ⟨herr, hstate, hmal⟩ := addUnknown_bus a type s
    have hbus := fillSlots_bus (addUnknown a type s)
    have hdoes := does_addUnknown a type s
    refine ⟨_, exec_unknownReport hu hd, ?_, ?_, ?_, ?_, fun g => ?_, fun hl => ?_, fun hl hroom => ?_,
      fun hl hfull => ?_⟩
    · exact ((hdoes.mono rfl).trans ((does_fillSlots _).mono rfl)).frame
    · rw [hbus]
      exact herr
    · rw [hbus]
      exact hstate
    · rw [hbus]
      exact hmal
    · have hg := (marks_fillSlots (addUnknown a type s)).group g
      rw [hdoes.light rfl] at hg
      exact hg
    · rw [hbus, addUnknown_listed hl]
      exact ⟨rfl, rfl⟩
    · rw [hbus, addUnknown_room hl hroom]
      refine ⟨rfl, rfl, ?_⟩
      exact ((does_busOnly s _ _ _ _ _ _ _ _).announced_post (.unknownDevice s.bus.unknown.length a type) rfl rfl).kept
        (does_fillSlots _) rfl
    · rw [hbus, addUnknown_full hl hfull]
      split
      · rename_i ho
        exact ⟨rfl, ho, fun hno => absurd (ho.symm.trans hno) (by decide)⟩
      · refine ⟨rfl, rfl, fun _ => ?_⟩
        exact ((does_busOnly s _ _ _ _ _ _ _ _).announced_post .unknownOverflow rfl rfl).kept (does_fillSlots _) rfl
  · rintro a hd c (⟨d, h, rfl⟩ | ⟨g, rfl⟩ | ⟨p, rfl⟩ | ⟨h, rfl⟩ | ⟨h, rfl⟩ | ⟨type, rfl⟩)
    all_goals exact congrArg _ (deliver_of_not hd _)
  · have he : exec (.fieldFrameDiscarded .malformed) s = .next (discardFrame .malformed s) := rfl
    simp only [he, discardFrame, receives_iff]
  · intro why hwhy
    cases why <;> first | rfl | exact absurd rfl hwhy

/-! ## ANNOUNCE (R160) -/

theorem groupAt_lt {c : Cfg} {a : Addr} {g : Nat} (h : groupAt c a = some g) : g < 48 :=
  List.mem_range.mp (List.mem_of_find?_eq_some h)

theorem signAt_lt {c : Cfg} {a : Addr} {i : Nat} (h : signAt c a = some i) : i < 24 :=
  List.mem_range.mp (List.mem_of_find?_eq_some h)

theorem fieldSensorAt_lt {c : Cfg} {a : Addr} {n : Nat} (h : fieldSensorAt c a = some n) : n < 32 := by
  have hm := List.mem_of_find?_eq_some h
  simp only [span, List.mem_map, List.mem_range] at hm
  omega

theorem presentFaces_lt {r : SignRec} {f : Nat} (h : f ∈ presentFaces r) : f < 4 :=
  List.mem_range.mp (List.mem_filter.mp h).1

/-- R160: an ANNOUNCE frame that is delivered. -/
theorem exec_announce {a : Addr} (type : DeviceType) {s : State} (hd : delivered s a = true) :
    exec (.announce a type) s = .next (fillSlots (takeAnnounce a type s)) :=
  congrArg _ (deliver_of_delivered hd _)

theorem markLamp_lamp {b : Nat} (hb : b < 512) {s : State} (h : (bayOf s b).detector ≠ none) :
    onItsWay (markLamp b s) (.lamp b) := by
  refine onItsWay_note (d := .lamp b) hb ?_
  change (bayOf s b).detector.map DestKey.lamp ≠ none
  simpa using h

theorem announceBay_becomes {b : Nat} (hb : b < 512) {s : State} (hr : running s = true) :
    BayBecomes b { bayOf s b with lastHeard := 0 } s (announceBay b s) := by
  rw [announceBay, if_pos hr]
  exact (setBay_becomes hb _ s).kept (does_markLamp b _) rfl

theorem announceBay_lamp {b : Nat} (hb : b < 512) {s : State} (hr : running s = true)
    (h : (bayOf s b).detector ≠ none) : onItsWay (announceBay b s) (.lamp b) := by
  rw [announceBay, if_pos hr]
  refine markLamp_lamp hb ?_
  rw [(setBay_becomes hb _ s).self]
  exact h

theorem takeSensorState_sensors (n m : Nat) (x : Sensor) (s : State) :
    (takeSensorState n x s).air.sensors.nth m = if m = n ∧ n < 32 then x else s.air.sensors.nth m := by
  have h : (takeSensorState n x s).air = (setSensor n x s).air := by
    dsimp only [takeSensorState]
    split <;> rfl
  rw [h, setSensor_air]
  exact Tab.nth_put _ _ _ _

/-- R132: every face of a list that is marked is on its way. -/
theorem markFaces_faces {i : Nat} (hi : i < 24) {fs : List Nat} (h : ∀ f ∈ fs, f < 4) (s : State) :
    ∀ f ∈ fs, onItsWay (fs.foldl (fun t f => markFace i f t) s) (.face i f) := by
  have keep : ∀ (fs : List Nat) (t : State) (d : Dest), onItsWay t d →
      onItsWay (fs.foldl (fun t f => markFace i f t) t) d := by
    intro fs
    induction fs with
    | nil => exact fun _ _ w => w
    | cons f fs ih => exact fun t d w => ih _ d (w.note _ _)
  induction fs generalizing s with
  | nil => simp
  | cons f fs ih =>
    intro g hg
    rcases List.mem_cons.mp hg with rfl | hg
    · exact keep fs _ _ (onItsWay_note (d := .face i g) ⟨hi, h g (by simp)⟩ (Option.some_ne_none _))
    · exact ih (fun k hk => h k (by simp [hk])) _ g hg

/-- Settles O21: ANNOUNCE by the first owner that knows the address: a bay, a sensor, a group or a sign. -/
theorem announceGoesToItsOwner : Obligations.AnnounceGoesToItsOwner := by
  intro a type s hr hd
  refine ⟨fun b hm hb => ?_, fun hm n hs => ?_, fun hm hs g hg => ?_, fun hm hs hg hp i hi => ?_⟩
  · have hbay := (announceBay_becomes hb hr).kept (does_fillSlots _) rfl
    refine ⟨_, exec_announce type hd, ?_⟩
    simp only [takeAnnounce, hm]
    refine ⟨?_, hbay.self, hbay.others, fun h => (announceBay_lamp hb hr h).fillSlots⟩
    exact (((does_announceBay b s).mono rfl).trans ((does_fillSlots _).mono rfl)).frame
  · refine ⟨_, exec_announce type hd, ?_⟩
    simp only [takeAnnounce, hm, hs]
    have hsensor : ∀ m, (fillSlots (announceSensor n s)).air.sensors.nth m =
        if m = n ∧ n < 32 then rederived { s.air.sensors.nth n with silence := 0 } else s.air.sensors.nth m := by
      intro m
      rw [(does_fillSlots _).air rfl, announceSensor, if_pos hr, takeSensorState_sensors]
    refine ⟨?_, ?_, fun m hne => ?_⟩
    · exact (((does_announceSensor n s).mono rfl).trans ((does_fillSlots _).mono rfl)).frame
    · rw [hsensor, if_pos ⟨rfl, fieldSensorAt_lt hs⟩]
      rfl
    · rw [hsensor, if_neg (fun h => hne h.1)]
  · refine ⟨_, exec_announce type hd, ?_⟩
    simp only [takeAnnounce, hm, hs, hg]
    refine ⟨(((does_announceGroup g s).mono rfl).trans ((does_fillSlots _).mono rfl)).frame, ?_⟩
    refine onItsWay.fillSlots ?_
    rw [announceGroup, if_pos hr]
    exact onItsWay_note (d := .group g) (groupAt_lt hg) (Option.some_ne_none _)
  · refine ⟨_, exec_announce type hd, ?_⟩
    simp only [takeAnnounce, hm, hs, hg, hp, hi]
    refine ⟨(((does_announceSign i s).mono rfl).trans ((does_fillSlots _).mono rfl)).frame, fun f hf => ?_⟩
    refine onItsWay.fillSlots ?_
    rw [announceSign, if_pos hr]
    exact markFaces_faces (signAt_lt hi) (fun _ => presentFaces_lt) s f hf

end Sys2Proof.Machine
end

section
/-! SUPPORT. The requests that read (R27, R56, R82, R95, R104, R117, R137, R145, R162, R185) and the reads of the detector
map (R25). -/

namespace Sys2Proof.Machine

section Taken

variable {α : Type} {kind : Nat} {rule : α → State → State} {x : α} {s t : State}

/-- R195: the outcome of a request that is taken, from what its rule makes of the part as the request finds it. -/
theorem taken (h : takesRequests s) (k : rule x (received s) = t) :
    (.next (request kind false (.fits x) rule s) : Out) = .next t := by rw [request_taken h, k]

/-- R196: IDENTIFY and GET_STATUS are taken in LOADING too. -/
theorem taken_always (hde : s.link.de = false) (hdue : s.link.resetDue = false) (k : rule x (received s) = t) :
    (.next (request kind true (.fits x) rule s) : Out) = .next t := by
  simp [request, hde, arrive_received hdue, k]

end Taken

/-! ## READ_BAYS (R27) -/

/-- R27: as many entries as fit whole, and no fewer. -/
theorem fitEntries_take (room : Nat) (es : List (List Byte)) : ∃ m, m ≤ es.length ∧
    fitEntries room es = es.take m ∧ (es.take m).flatten.length ≤ room ∧
    (m < es.length → room < (es.take (m + 1)).flatten.length) := by
  induction es generalizing room with
  | nil => exact ⟨0, by simp [fitEntries]⟩
  | cons e es ih =>
    by_cases he : e.length ≤ room
    · obtain ⟨m, hm, heq, hfit, hmore⟩ := ih (room - e.length)
      refine ⟨m + 1, by simpa using hm, by simp [fitEntries, he, heq], ?_, fun hlt => ?_⟩
      · rw [List.take_succ_cons, List.flatten_cons, List.length_append]
        omega
      · have := hmore (by simpa using hlt)
        rw [List.take_succ_cons, List.flatten_cons, List.length_append]
        omega
    · exact ⟨0, by simp, by simp [fitEntries, he], by simp, fun _ => by simpa using he⟩

theorem span_length (a n : Nat) : (span a (a + n)).length = n := by simp [span]

theorem span_take {m n : Nat} (h : m ≤ n) (a : Nat) : (span a (a + n)).take m = span a (a + m) := by
  simp [span, ← List.map_take, List.take_range, Nat.min_eq_left h]

/-- R27: the entries of READ_BAYS are those of the first bays, as many as fit. -/
theorem fitEntries_span (room first n : Nat) (f : Nat → List Byte) : ∃ m, m ≤ n ∧
    ((span first (first + m)).flatMap f).length ≤ room ∧
    (m < n → room < ((span first (first + (m + 1))).flatMap f).length) ∧
    fitEntries room ((span first (first + n)).map f) = (span first (first + m)).map f := by
  obtain ⟨m, hm, heq, hfit, hmore⟩ := fitEntries_take room ((span first (first + n)).map f)
  rw [List.length_map, span_length] at hm hmore
  rw [← List.map_take, span_take hm, ← List.flatMap_def] at hfit
  refine ⟨m, hm, hfit, fun hlt => ?_, ?_⟩
  · have := hmore hlt
    rwa [← List.map_take, span_take hlt, ← List.flatMap_def] at this
  · rw [heq, ← List.map_take, span_take hm]

theorem readBaysRule_eq {first : Nat} (h : first < 512) (n : Nat) (s : State) : readBaysRule first n s =
    answer 0x31 .ok
      (u8 (fitEntries 248 ((span first (first + min (max 1 (min 32 n)) (512 - first))).map (bayBytes s))).length
        ++ (fitEntries 248 ((span first (first + min (max 1 (min 32 n)) (512 - first))).map (bayBytes s))).flatten) s :=
  if_neg (by omega)

/-! ## CONFIG_READ (R185) -/

theorem indexFits_iff {kind : RecKind} {i sub : Nat} : indexFits kind i sub = true ↔ inRange kind i sub := by
  unfold indexFits
  rw [Bool.and_eq_true, decide_eq_true_iff]
  cases kind <;> simp [inRange, kindSize] <;> omega

/-- Settles O38: each read's rule answers with its bytes, and only the reply of the part changes. -/
theorem readsAnswerAndChangeNothing : Obligations.ReadsAnswerAndChangeNothing := by
  intro s
  refine ⟨fun hde hdue => ⟨taken_always hde hdue rfl, taken_always hde hdue rfl⟩, fun h => ?_, fun h => ?_⟩
  · refine ⟨fun kind i sub hk => taken h (if_pos (indexFits_iff.mpr hk)), fun block hb => taken h (if_neg (by omega)),
      taken h rfl, fun z h1 h2 hr => ?_, fun first n hf => ?_, fun n hn => taken h (if_neg (by omega)),
      fun n hn => taken h (if_neg (by omega)), fun g hg => taken h (if_neg (by omega)),
      fun i hi => taken h (if_neg (by omega)), taken h rfl, taken h rfl⟩
    · have hrun : running (received s) = true := hr
      exact taken h ((if_neg (by omega)).trans (if_pos hrun))
    · obtain ⟨m, hm, hfit, hmore, heq⟩ :=
        fitEntries_span 248 first (min (max 1 (min 32 n)) (512 - first)) (bayBytes s)
      refine ⟨m, hm, hfit, hmore, taken h ?_⟩
      have hbytes : bayBytes (received s) = bayBytes s := rfl
      rw [readBaysRule_eq hf, hbytes, heq, List.length_map, span_length, ← List.flatMap_def]
      rfl
  · intro refused
    refine ⟨fun z hz => taken h (if_pos (by omega)), fun z h1 h2 hr => ?_, fun first n hf => taken h (if_pos hf),
      fun n hn => taken h (if_pos hn), fun n hn => taken h (if_pos hn), fun g hg => taken h (if_pos hg),
      fun i hi => taken h (if_pos hi), fun block hb => taken h (if_pos hb), taken h rfl, fun kind i sub hk => ?_,
      fun kind i sub hk => taken h (if_pos (indexFits_iff.mpr hk))⟩
    · have hrun : ¬ running (received s) = true := by
        rw [Bool.not_eq_true]
        exact hr
      exact taken h ((if_neg (by omega)).trans (if_neg hrun))
    · have hno := mt indexFits_iff.mp hk
      exact ⟨taken h (if_neg hno), taken h (if_neg hno)⟩

/-! ## The reads of the detector map (R25) -/

/-- R195: in LOADING a request of the other kinds is BUSY. -/
theorem busy_loading {α : Type} {kind : Nat} {rule : α → State → State} {r : Req α} {s : State}
    (hl : loading s = true) (hde : s.link.de = false) (hdue : s.link.resetDue = false) :
    (.next (request kind false r rule s) : Out) = .next (repliedOnly s kind .busy []) := by
  have hl' : loading (received s) = true := hl
  simp only [request, hde, arrive_received hdue, hl']
  rfl

/-- R25: the way of an address is the first of its set that holds it. -/
theorem mapWay_eq {m : DetMap} {a : Addr} {set way : Nat} {e : MapEntry} (hs : set < 128) (hw : way < 4)
    (he : (m.nth set).nth way = some e) (ha : entryAddr set e = a)
    (hfirst : ∀ w, w < way → ∀ x, (m.nth set).nth w = some x → entryAddr set x ≠ a) : mapWay m a = some way := by
  obtain ⟨rfl, htag⟩ := (entryAddr_eq_iff hs e a).mp ha
  rw [mapWay, List.find?_range_eq_some]
  refine ⟨?_, List.mem_range.mpr hw, fun w hlt => ?_⟩
  · rw [he]
    exact beq_iff_eq.mpr htag
  · cases hx : (m.nth (a % 128)).nth w with
    | none => rfl
    | some x =>
      have hne : x.tag ≠ a / 128 := fun h => hfirst w hlt x hx ((entryAddr_eq_iff hs x a).mpr ⟨rfl, h⟩)
      simpa using hne

theorem list_eq_map_nth {α : Type} [Inhabited α] {n : Nat} (t : Tab α n) : t.list = (List.range n).map t.nth := by
  refine List.ext_getElem (by simp) (fun i hi _ => ?_)
  rw [Tab.list_length] at hi
  simp [Tab.nth_of_lt t hi]

/-- Settles O39: by the first way that holds the address, and the ways of a set one after the other. -/
theorem mapReadsFindTheirEntries : Obligations.MapReadsFindTheirEntries := by
  intro s
  refine ⟨fun h => ⟨fun a set way e hs hw he ha hfirst => ?_, fun a hno => ?_, fun set hset => taken h (if_pos hset),
    fun set hset => ?_⟩, fun hl hde hdue => ⟨fun a => busy_loading hl hde hdue, fun set => busy_loading hl hde hdue⟩⟩
  · have hway := mapWay_eq hs hw he ha hfirst
    obtain ⟨rfl, -⟩ := (entryAddr_eq_iff hs e a).mp ha
    refine taken h ?_
    simp only [lookupMapping, received_cfg, hway, mapBay_of_way hway he]
    rfl
  · have hway : mapWay s.cfg.map a = none := mapWay_none.mpr fun x hx => by
      obtain ⟨hs, hw, he⟩ := mem_mapEntries.mp hx
      exact hno x.1 x.2.1 x.2.2 hs hw he
    refine taken h ?_
    simp only [lookupMapping, received_cfg, hway]
    rfl
  · refine taken h ?_
    rw [readSet, if_neg (by omega), received_cfg, list_eq_map_nth, List.flatMap_map]
    have hbytes : (fun way => wayBytes set ((s.cfg.map.nth set).nth way)) = fun way =>
        match (s.cfg.map.nth set).nth way with
        | none => u8 0
        | some e => u8 1 ++ u16 e.tag ++ u24 (e.tag * 128 + set) ++ u16 e.bay := by
      funext way
      cases (s.cfg.map.nth set).nth way <;> rfl
    rw [hbytes]
    rfl

end Sys2Proof.Machine
end

section
/-! SUPPORT. The requests that act and then fill the transmit slots (R165, R195): what a refusal leaves, and how the reply
follows what the rule does; then the requests on the bays (R16, R18 to R20). -/

namespace Sys2Proof.Machine

/-! ## Refusals -/

section Refusals

variable {α : Type} {kind : Nat} {rule : α → State → State} {x : α} {s : State} {r : Result} {fs : List Byte}

/-- R165: a rule that only answers fills no slot, where no destination waits beside a free one. -/
theorem taken_answer (h : takesRequests s) (hf : FillLaw s) (k : rule x (received s) = answer kind r fs (received s)) :
    (.next (request kind false (.fits x) (thenFill rule) s) : Out) = .next (repliedOnly s kind r fs) := by
  refine taken h ?_
  have hfill : FillLaw (answer kind r fs (received s)) := hf
  rw [thenFill, k, fillSlots_eq_self hfill]
  rfl

theorem inRunning_refused {rule : State → State} (h : running s = false) :
    inRunning kind rule s = answer kind .badState [] s := by rw [inRunning, if_neg (by simp [h])]

theorem inRunning_taken {rule : State → State} (h : running s = true) : inRunning kind rule s = rule s := by
  rw [inRunning, if_pos h]

theorem unlessStoring_refused {rule : State → State} (h : storing s = true) :
    unlessStoring kind rule s = answer kind .busy [] s := by rw [unlessStoring, if_pos h]

theorem unlessStoring_taken {rule : State → State} (h : storing s = false) : unlessStoring kind rule s = rule s := by
  rw [unlessStoring, if_neg (by simp [h])]

end Refusals

/-! ## Requests that are carried out -/

/-- R165, R195: what a rule has done is answered, and then the slots are filled. -/
def finished (kind : Nat) (r : Result) (fs : List Byte) (u : State) : State := fillSlots (answer kind r fs u)

section Finished

variable {kind : Nat} {r : Result} {fs : List Byte} {s u : State} {bs : List Block}

theorem taken_finished {α : Type} {rule : α → State → State} {x : α} (h : takesRequests s)
    (k : rule x (received s) = answer kind r fs u) :
    (.next (request kind false (.fits x) (thenFill rule) s) : Out) = .next (finished kind r fs u) :=
  taken h (by rw [thenFill, k, finished])

theorem does_finished (kind : Nat) (r : Result) (fs : List Byte) (u : State) :
    Does [.light, .guide, .slots, .link] u (finished kind r fs u) :=
  ((does_answer u kind r fs).mono rfl).trans ((does_fillSlots _).mono rfl)

theorem fillSlots_link (s : State) : (fillSlots s).link = s.link := by
  have hd := does_fillSlots s
  obtain ⟨hn, hl, ha⟩ := hd.notices rfl
  rw [hd.link rfl, hn, hl, ha]

/-- R195: a rule that leaves the service link but for the notices. -/
theorem answers_finished (h : Does bs (received s) u) (n : bs.contains .link = false) :
    answers s (finished kind r fs u) kind r fs := by
  rw [answers, finished, fillSlots_link, answer_link, h.link n]
  rfl

theorem finished_frame (h : Does bs (received s) u) :
    changesOnly (bs ++ [.light, .guide, .slots, .link]) s (finished kind r fs u) := by
  have h1 : Does (bs ++ [.light, .guide, .slots, .link]) (received s) u := h.mono (by simp +contextual)
  have h2 : Does (bs ++ [.light, .guide, .slots, .link]) u (finished kind r fs u) :=
    (does_finished kind r fs u).mono (by simp)
  have h0 : Does (bs ++ [.light, .guide, .slots, .link]) s (received s) := (does_received s).mono (by simp)
  exact (h0.trans (h1.trans h2)).frame

theorem finished_cfg (kind : Nat) (r : Result) (fs : List Byte) (u : State) : (finished kind r fs u).cfg = u.cfg :=
  (does_finished kind r fs u).cfg rfl

theorem BayBecomes.finished {b : Nat} {y : Bay} (h : BayBecomes b y (received s) u) :
    BayBecomes b y s (finished kind r fs u) := by
  have k := h.kept (does_finished kind r fs u) rfl
  exact ⟨k.self, k.others⟩

theorem announced.finished {n : Notice} (h : announced (received s) u n) : announced s (finished kind r fs u) n :=
  h.kept (does_finished kind r fs u) rfl

theorem onItsWay.finished {d : Dest} (h : onItsWay u d) : onItsWay (finished kind r fs u) d := by
  refine onItsWay.fillSlots ?_
  cases d <;> exact h

end Finished

/-! ## Reservations and closures -/

/-- R18: the notice of a cancelled reservation stays as the bay's state is derived again. -/
theorem announced_cancelReservation (b : Nat) (s : State) :
    announced s (cancelReservation b s) (.reservationEnd b .cancelled) :=
  ((does_setBay s b _).announced_post _ rfl rfl).rederive (fun _ _ => rfl) b

theorem announced_closeBay {b : Nat} {s : State} (h : isReserved (bayOf s b).admin = true) :
    announced s (closeBay b s) (.reservationEnd b .cancelled) := by
  simp only [closeBay, h, if_true]
  have h0 := (Does.refl (bs := []) s).announced_post (.reservationEnd b .cancelled) rfl rfl
  have h1 := (h0.kept (does_setBay _ b { bayOf s b with admin := .closed }) rfl).kept (does_setClosure _ b true) rfl
  exact h1.rederive (fun _ _ => rfl) b

theorem closeBay_cfg (b : Nat) (s : State) :
    (closeBay b s).cfg = { s.cfg with closed := s.cfg.closed.put b true, imageCurrent := false } := by
  dsimp only [closeBay]
  rw [(does_rederive b _).cfg rfl]
  split <;> rfl

theorem openBay_cfg (b : Nat) (s : State) :
    (openBay b s).cfg = { s.cfg with closed := s.cfg.closed.put b false, imageCurrent := false } := by
  dsimp only [openBay]
  rw [(does_rederive b _).cfg rfl]
  rfl

section BayRequests

variable {b : Nat} {s : State}

theorem reserveRequest_taken (hb : b < 512) (time : Nat) (h : (bayOf s b).state = .free ∨ (bayOf s b).state = .reserved) :
    reserveRequest b time s
      = answer 0x40 .ok (u16 (clamp 1 65535 time)) (reserveBay b (clamp 1 65535 time) s) := by
  rw [reserveRequest, if_neg (by omega)]
  rcases h with h | h <;> simp only [h]

theorem reserveRequest_refused (hb : b < 512) (time : Nat)
    (h : (bayOf s b).state = .occupied ∨ (bayOf s b).state = .closed ∨ (bayOf s b).state = .unknown) :
    reserveRequest b time s = answer 0x40 .badState [] s := by
  rw [reserveRequest, if_neg (by omega)]
  rcases h with h | h | h <;> simp only [h]

theorem releaseRequest_eq (hb : b < 512) : releaseRequest b s =
    if isReserved (bayOf s b).admin then answer 0x41 .ok [] (cancelReservation b s) else answer 0x41 .badState [] s := by
  rw [releaseRequest, if_neg (by omega)]

theorem closeRequest_eq (hb : b < 512) : closeRequest b s =
    if (bayOf s b).admin = .closed then answer 0x42 .ok [] s else answer 0x42 .ok [] (closeBay b s) := by
  rw [closeRequest, if_neg (by omega)]

theorem openRequest_eq (hb : b < 512) : openRequest b s =
    if (bayOf s b).admin = .closed then answer 0x43 .ok [] (openBay b s) else answer 0x43 .badState [] s := by
  rw [openRequest, if_neg (by omega)]

end BayRequests

/-- R188, then the rule of RUNNING: the order of the two refusals of BAY_CLOSE and BAY_OPEN. -/
theorem closures_taken {kind : Nat} {rule : State → State} {s : State} (hs : storing s = false)
    (hr : running s = true) : unlessStoring kind (inRunning kind rule) s = rule s := by
  rw [unlessStoring_taken hs, inRunning_taken hr]

/-- Settles O44: the refusals in the order of the rules, then the four requests as they are carried out. -/
theorem baysAreReservedClosedAndOpened : Obligations.BaysAreReservedClosedAndOpened := by
  intro b s h x becomes
  have hrun : ∀ {v}, running s = v → running (received s) = v := fun hr => hr
  have hsto : ∀ {v}, storing s = v → storing (received s) = v := fun hs => hs
  refine ⟨fun hf time => ?_, fun hr hb => ⟨fun time hst => ?_, fun hres => ?_, fun hs hadm => ?_, fun hs hadm => ?_⟩⟩
  · intro reserve release close opens
    refine ⟨fun hr => ⟨taken_answer h hf (inRunning_refused (hrun hr)), taken_answer h hf (inRunning_refused (hrun hr))⟩,
      fun hs => ⟨taken_answer h hf (unlessStoring_refused (hsto hs)), taken_answer h hf (unlessStoring_refused (hsto hs))⟩,
      fun hs hr => ?_, fun hr hb => ⟨?_, ?_, fun hs => ⟨?_, ?_⟩⟩, fun hr hb => ⟨fun hst => ?_, fun hno => ?_, fun hs hno => ?_,
      fun hs hadm => ?_⟩⟩
    · have hno : ∀ kind rule,
          unlessStoring kind (inRunning kind rule) (received s) = answer kind .badState [] (received s) := fun kind rule =>
        (unlessStoring_taken (hsto hs)).trans (inRunning_refused (hrun hr))
      exact ⟨taken_answer h hf (hno _ _), taken_answer h hf (hno _ _)⟩
    · exact taken_answer h hf ((inRunning_taken (hrun hr)).trans (if_pos hb))
    · exact taken_answer h hf ((inRunning_taken (hrun hr)).trans (if_pos hb))
    · exact taken_answer h hf ((closures_taken (hsto hs) (hrun hr)).trans (if_pos hb))
    · exact taken_answer h hf ((closures_taken (hsto hs) (hrun hr)).trans (if_pos hb))
    · exact taken_answer h hf ((inRunning_taken (hrun hr)).trans (reserveRequest_refused hb time hst))
    · have hno' : ¬ isReserved (bayOf (received s) b).admin = true := by
        rw [Bool.not_eq_true]
        exact hno
      exact taken_answer h hf ((inRunning_taken (hrun hr)).trans ((releaseRequest_eq hb).trans (if_neg hno')))
    · exact taken_answer h hf ((closures_taken (hsto hs) (hrun hr)).trans ((openRequest_eq hb).trans (if_neg hno)))
    · exact taken_answer h hf ((closures_taken (hsto hs) (hrun hr)).trans ((closeRequest_eq hb).trans (if_pos hadm)))
  · have hdoes := does_reserveBay b (clamp 1 65535 time) (received s)
    have hbay := (reserveBay_becomes hb (clamp 1 65535 time) (received s)).finished
      (kind := 0x40) (r := .ok) (fs := u16 (clamp 1 65535 time))
    rw [hrun hr] at hbay
    refine ⟨_, taken_finished h ((inRunning_taken (hrun hr)).trans (reserveRequest_taken hb time hst)), ?_,
      answers_finished hdoes rfl, hbay.self, hbay.others⟩
    exact (finished_frame hdoes).mono rfl
  · have hdoes := does_cancelReservation b (received s)
    have hbay := (cancelReservation_becomes hb (received s)).finished (kind := 0x41) (r := .ok) (fs := [])
    rw [hrun hr] at hbay
    refine ⟨_, taken_finished h ((inRunning_taken (hrun hr)).trans ((releaseRequest_eq hb).trans (if_pos hres))), ?_,
      answers_finished hdoes rfl, ⟨hbay.self, hbay.others⟩, (announced_cancelReservation b (received s)).finished⟩
    exact (finished_frame hdoes).mono rfl
  · have hdoes := does_closeBay b (received s)
    have hbay := (closeBay_becomes hb (received s)).finished (kind := 0x42) (r := .ok) (fs := [])
    rw [hrun hr] at hbay
    refine ⟨_, taken_finished h ((closures_taken (hsto hs) (hrun hr)).trans ((closeRequest_eq hb).trans (if_neg hadm))), ?_,
      answers_finished hdoes rfl, ⟨hbay.self, hbay.others⟩, ?_,
      fun hres => (announced_closeBay (s := received s) hres).finished⟩
    · exact (finished_frame hdoes).mono rfl
    · rw [finished_cfg, closeBay_cfg]
      rfl
  · have hdoes := does_openBay b (received s)
    have hbay := (openBay_becomes hb (received s)).finished (kind := 0x43) (r := .ok) (fs := [])
    rw [hrun hr] at hbay
    refine ⟨_, taken_finished h ((closures_taken (hsto hs) (hrun hr)).trans ((openRequest_eq hb).trans (if_pos hadm))), ?_,
      answers_finished hdoes rfl, ⟨hbay.self, hbay.others⟩, ?_⟩
    · exact (finished_frame hdoes).mono rfl
    · rw [finished_cfg, openBay_cfg]
      rfl

end Sys2Proof.Machine
end

section
/-! SUPPORT. The requests on the detector map (R22 to R24, R162, R163): the checks of MAP_WRITE in their order, and what is
on its way after a binding. -/

namespace Sys2Proof.Machine

/-! ## The checks of MAP_WRITE (R22) -/

theorem notInFallback_refused {kind : Nat} {rule : State → State} {s : State} (h : s.cfg.state = .fallback) :
    notInFallback kind rule s = answer kind .badState [] s := by rw [notInFallback, if_pos h]

theorem notInFallback_taken {kind : Nat} {rule : State → State} {s : State} (h : s.cfg.state ≠ .fallback) :
    notInFallback kind rule s = rule s := by rw [notInFallback, if_neg h]

/-- R188, then R22 and R24: the order of the first two refusals of MAP_WRITE and MAP_REMOVE. -/
theorem mapping_taken {kind : Nat} {rule : State → State} {s : State} (hs : storing s = false)
    (hc : s.cfg.state ≠ .fallback) : unlessStoring kind (notInFallback kind rule) s = rule s := by
  rw [unlessStoring_taken hs, notInFallback_taken hc]

section MapChecks

variable {a : Addr} {b : Nat} {s : State}

theorem mapChecks_badIndex (h : isDevice a = false ∨ 511 < b) : mapChecks a b s = answer 0x20 .badIndex [] s := by
  rw [mapChecks, if_pos h]

variable (ha : isDevice a = true) (hb : b < 512)
include ha hb

theorem not_badIndex : ¬ (isDevice a = false ∨ b > 511) := by
  rw [ha]
  simp; omega

theorem mapChecks_bound {way bound : Nat} (hw : mapWay s.cfg.map a = some way)
    (hm : mapBay s.cfg.map a = some bound) : mapChecks a b s =
      if bound = b then answer 0x20 .ok (u8 (a % 128) ++ u8 way) s
      else answer 0x20 .conflict (conflictBytes (some bound) none) s := by
  simp only [mapChecks, not_badIndex ha hb, if_false, hw, hm, Option.getD_some]

variable (hw : mapWay s.cfg.map a = none)
include hw

theorem mapChecks_detector {other : Addr} (hd : (bayOf s b).detector = some other) :
    mapChecks a b s = answer 0x20 .conflict (conflictBytes none (some other)) s := by
  simp only [mapChecks, not_badIndex ha hb, if_false, hw, hd]

variable (hd : (bayOf s b).detector = none)
include hd

theorem mapChecks_used (hu : addressUsed s.cfg.working a = true) :
    mapChecks a b s = answer 0x20 .conflict (conflictBytes none none) s := by
  simp only [mapChecks, not_badIndex ha hb, if_false, hw, hd, hu, if_true]

variable (hu : addressUsed s.cfg.working a = false)
include hu

theorem mapChecks_full (hf : freeWay s.cfg.map (a % 128) = none) :
    mapChecks a b s = answer 0x20 .full (u8 (a % 128)) s := by
  simp only [mapChecks, not_badIndex ha hb, if_false, hw, hd, hu, hf, Bool.false_eq_true]

theorem mapChecks_binds {way : Nat} (hf : freeWay s.cfg.map (a % 128) = some way) :
    mapChecks a b s = answer 0x20 .ok (u8 (a % 128) ++ u8 way) (bindAddress a b way s) := by
  simp only [mapChecks, not_badIndex ha hb, if_false, hw, hd, hu, hf, Bool.false_eq_true]

end MapChecks

/-! ## What a binding sets on its way (R23, R163) -/

theorem callDetector_call (a : Addr) (s : State) :
    onItsWay (callDetector a s) (.call a) ∨ onItsWay (callDetector a s) (.call allDevices) := by
  dsimp only [callDetector]
  split
  · rename_i h
    simp only [called, Bool.or_eq_true, List.contains_iff_mem] at h
    exact h.imp (fun h => .inl (mem_waitingDests.mpr h)) (fun h => .inl (mem_waitingDests.mpr h))
  · by_cases hl : s.bus.calls.length ≥ 16
    · have hm : (Dest.call allDevices).waits { s with bus := queueCall a s.bus } := by simp [Dest.waits, queueCall, hl]
      exact .inr (onItsWay.note (.inl (mem_waitingDests.mpr hm)) _ _)
    · have hm : (Dest.call a).waits { s with bus := queueCall a s.bus } := by simp [Dest.waits, queueCall, hl]
      exact .inl (onItsWay.note (.inl (mem_waitingDests.mpr hm)) _ _)

theorem callDetector_lamp {b : Nat} {s : State} (h : onItsWay s (.lamp b)) (a : Addr) :
    onItsWay (callDetector a s) (.lamp b) := by
  dsimp only [callDetector]
  split
  · exact h
  · refine onItsWay.note ?_ _ _
    rw [onItsWay_iff] at h ⊢
    refine h.imp (fun hw => hw) ?_
    rintro ⟨k, hk, hs⟩
    refine ⟨k, hk, ?_⟩
    rw [slotWith_ne_none] at hs ⊢
    exact hs

theorem bindBay_lamp {b : Nat} (hb : b < 512) (a : Addr) {s : State} (hr : running s = true) :
    onItsWay (bindBay b a s) (.lamp b) := by
  simp only [bindBay, hr, if_true]
  refine markLamp_lamp hb ?_
  rw [(loseSensed_becomes hb _).self, Bay.derived, (does_forgetLamp b _).bayOf rfl, (setBay_becomes hb _ s).self]
  exact Option.some_ne_none a

section BindAddress

variable {a : Addr} {b way : Nat} {s : State}

/-- R23: the part in which a binding's detector is called. -/
theorem bindAddress_calls (hr : running s = true) : ∃ t, running t = true ∧
    bindAddress a b way s = callDetector a (bindBay b a t) := by
  refine ⟨{ s with
    cfg := { s.cfg with map := mapPut s.cfg.map (a % 128) way (some ⟨a / 128, b⟩), imageCurrent := false }
    bus := { s.bus with unknown := s.bus.unknown.filter (fun e => e.addr != a) } }, hr, ?_⟩
  dsimp only [bindAddress]
  rw [if_pos]
  exact ((does_bindBay b a _).running rfl).trans hr

theorem bindAddress_call (hr : running s = true) :
    onItsWay (bindAddress a b way s) (.call a) ∨ onItsWay (bindAddress a b way s) (.call allDevices) := by
  obtain ⟨t, -, h⟩ := bindAddress_calls (a := a) (b := b) (way := way) hr
  rw [h]
  exact callDetector_call a _

theorem bindAddress_lamp (hr : running s = true) (hb : b < 512) : onItsWay (bindAddress a b way s) (.lamp b) := by
  obtain ⟨t, ht, h⟩ := bindAddress_calls (a := a) (b := b) (way := way) hr
  rw [h]
  exact callDetector_lamp (bindBay_lamp hb a ht) a

theorem bindAddress_frame (a b way : Nat) (s : State) :
    Does [.cfg, .occ, .guide, .slots, .bus, .notices] s (bindAddress a b way s) := by
  obtain ⟨t, ht, -, -, h⟩ := does_bindAddress a b way s
  exact (ht.mono rfl).trans (((does_bindBay b a t).mono rfl).trans (h.mono rfl))

theorem bindAddress_unknown (a b way : Nat) (s : State) :
    (bindAddress a b way s).bus.unknown = s.bus.unknown.filter (fun e => e.addr != a) := by
  obtain ⟨t, -, -, hu, h⟩ := does_bindAddress a b way s
  rw [h.bus rfl, (does_bindBay b a t).bus rfl]
  exact hu

theorem unbindAddress_frame (a b way : Nat) (s : State) :
    Does [.cfg, .occ, .guide, .slots, .notices] s (unbindAddress a b way s) := by
  obtain ⟨t, ht, -, h⟩ := does_unbindAddress a b way s
  exact (ht.mono rfl).trans (((does_unbindBay b t).mono rfl).trans (h.mono rfl))

end BindAddress

/-! ## MAP_REMOVE (R24) -/

theorem removeMapping_unbinds {a : Addr} {b way : Nat} {s : State} (ha : isDevice a = true)
    (hw : mapWay s.cfg.map a = some way) (hm : mapBay s.cfg.map a = some b) :
    removeMapping a s = answer 0x21 .ok (u16 b) (unbindAddress a b way s) := by
  simp only [removeMapping, hw, hm, ha, if_true, Option.getD_some]

theorem removeMapping_notFound {a : Addr} {s : State} (h : isDevice a = false ∨ mapWay s.cfg.map a = none) :
    removeMapping a s = answer 0x21 .notFound [] s := by
  dsimp only [removeMapping]
  split
  · rename_i way hw
    rw [if_neg (by simp [h.resolve_right (by simp [hw])])]
  · rfl

/-- Settles O43: the checks of MAP_WRITE one by one, the binding, its removal with its refusals, and CLEAR_UNKNOWN. -/
theorem bindingsAreMadeAndRemoved : Obligations.BindingsAreMadeAndRemoved := by
  intro s h
  refine ⟨fun hf a b => ?_, fun a b way hs hc ha hb hw hd hu hfree => ?_, fun a b way hs hc ha hw hm hb => ?_,
    fun a hf => ?_, taken h rfl⟩
  · intro refused free fits
    refine ⟨fun hs => taken_answer h hf (unlessStoring_refused (s := received s) hs), fun hs hc => ?_, ?_, ?_, ?_⟩
    · exact taken_answer h hf ((unlessStoring_taken (s := received s) hs).trans (notInFallback_refused hc))
    · rintro ⟨hs, hc⟩ hbad
      exact taken_answer h hf ((mapping_taken (s := received s) hs hc).trans (mapChecks_badIndex hbad))
    · rintro ⟨⟨hs, hc⟩, ha, hb⟩ way bound hw hm
      have hcheck := (mapping_taken (kind := 0x20) (rule := mapChecks a b) (s := received s) hs hc).trans
        (mapChecks_bound (s := received s) ha hb hw hm)
      exact ⟨fun e => taken_answer h hf (hcheck.trans (if_pos e)), fun e => taken_answer h hf (hcheck.trans (if_neg e))⟩
    · rintro ⟨⟨hs, hc⟩, ha, hb⟩ hw
      have hrule := mapping_taken (kind := 0x20) (rule := mapChecks a b) (s := received s) hs hc
      exact ⟨fun other hd => taken_answer h hf (hrule.trans (mapChecks_detector (s := received s) ha hb hw hd)),
        fun hd hu => taken_answer h hf (hrule.trans (mapChecks_used (s := received s) ha hb hw hd hu)),
        fun hd hu hfull => taken_answer h hf (hrule.trans (mapChecks_full (s := received s) ha hb hw hd hu hfull))⟩
  · have hdoes := bindAddress_frame a b way (received s)
    have hbay := (bindAddress_becomes hb a way (received s)).finished
      (kind := 0x20) (r := .ok) (fs := u8 (a % 128) ++ u8 way)
    refine ⟨_, taken_finished h ((mapping_taken (s := received s) hs hc).trans
      (mapChecks_binds (s := received s) ha hb hw hd hu hfree)), (finished_frame hdoes).mono rfl, answers_finished hdoes rfl, ?_, ?_,
      hbay.others, ?_, fun hr => ?_⟩
    · rw [finished_cfg, bindAddress_cfg]
      rfl
    · rw [hbay.self, bound_detector]
    · rw [(does_finished _ _ _ _).bus rfl]
      refine (bindAddress_unknown a b way (received s)).trans (List.filter_congr fun e _ => ?_)
      simp [bne, beq_eq_decide]
    · have hrun : running (received s) = true := hr
      rw [hrun] at hbay
      refine ⟨?_, ?_, ?_, ?_, ?_, ?_, (bindAddress_lamp hrun hb).finished⟩
      iterate 5
        rw [hbay.self]
        rfl
      · exact (bindAddress_call hrun).imp onItsWay.finished onItsWay.finished
  · have hdoes := unbindAddress_frame a b way (received s)
    have hbay := (unbindAddress_becomes hb a way (received s)).finished (kind := 0x21) (r := .ok) (fs := u16 b)
    refine ⟨_, taken_finished h ((mapping_taken (s := received s) hs hc).trans (removeMapping_unbinds ha hw hm)),
      (finished_frame hdoes).mono rfl, answers_finished hdoes rfl, ?_, ?_, hbay.others, fun hr => ?_⟩
    · rw [finished_cfg, unbindAddress_cfg]
      rfl
    · rw [hbay.self, unbound_detector]
    · have hrun : running (received s) = true := hr
      rw [hbay.self, hrun]
      exact ⟨rfl, rfl⟩
  · intro refused
    refine ⟨fun hs => taken_answer h hf (unlessStoring_refused (s := received s) hs), fun hs hc => ?_, fun hs hc hno => ?_⟩
    · exact taken_answer h hf ((unlessStoring_taken (s := received s) hs).trans (notInFallback_refused hc))
    · exact taken_answer h hf ((mapping_taken (s := received s) hs hc).trans (removeMapping_notFound hno))

end Sys2Proof.Machine
end

section
/-! SUPPORT. The two resets (R28, R58, R84, R105, R118, R138, R155, R173, R191, R200), and the laws of the part after
them. -/

namespace Sys2Proof.Machine

/-! ## What the resets leave -/

/-- R181, R191, R200: a part set to its reset values, whatever its timebase, its straps and the model's own fields. -/
theorem freshlyReset {t : State} {c : ConfigUnit} {straps : Straps} {commanded : Bool} {second : BitVec 32}
    (h : t = { State.reset with
      cfg := c.afterReset, time := t.time, link := Link.start straps commanded second, free := t.free
      pending := t.pending }) : FreshlyReset t := by
  rw [h]
  exact ⟨⟨rfl, rfl, rfl, rfl, rfl, rfl⟩, rfl, rfl, rfl, rfl, rfl, rfl, rfl, rfl, ⟨rfl, rfl, rfl, rfl, rfl, rfl, rfl, rfl⟩⟩

/-- Settles O4: the power-on reset, and the commanded reset that is due with its reply sent. -/
theorem resetsLeaveTheResetValues : Obligations.ResetsLeaveTheResetValues := by
  intro straps s
  refine ⟨⟨resetPowerOn straps s, rfl, freshlyReset rfl, rfl, rfl, rfl, rfl, rfl, rfl⟩, fun hdue hreply hde => ?_⟩
  have hready : resetReady s = true := by simp [resetReady, hdue, hreply, hde]
  have he : exec (.commandedReset straps) s = .next (if resetReady s then resetCommanded straps s else s) := rfl
  rw [he, if_pos hready]
  exact ⟨resetCommanded straps s, rfl, freshlyReset rfl, rfl, rfl, rfl, rfl, rfl, rfl⟩

/-! ## The laws after a reset -/

@[simp] theorem running_reset : running State.reset = false := rfl

theorem timeLaw_reset : TimeLaw State.reset.time :=
  ⟨by decide, by decide, by decide, fun _ h => absurd h (Option.some_ne_none _).symm⟩

theorem countLaw_reset : CountLaw State.reset.loops := by
  refine ⟨by decide, fun p hp => ?_⟩
  simp only [State.reset, Loops.start, Tab.nth_fill, hp, if_true]
  decide

theorem stackLaw_reset : StackLaw State.reset.ovr.stack :=
  ⟨by decide, by decide, fun _ h => absurd h List.not_mem_nil, fun _ h => absurd h List.not_mem_nil⟩

theorem alarmZones_reset : alarmZones State.reset = [] := by
  refine List.filter_eq_nil_iff.mpr fun z _ => ?_
  simp only [State.reset, Air.start, Tab.nth_fill]
  split <;> decide

theorem sounderLaw_reset : SounderLaw State.reset where
  sounds := by
    rw [alarmZones_reset]
    exact ⟨fun ⟨_, h⟩ => absurd h (by simp [State.reset, Overrides.start]), fun h => absurd rfl h.1⟩
  silent := by
    rw [alarmZones_reset]
    exact ⟨fun _ => rfl, fun _ => rfl⟩

theorem tuned_emptyCfg : Tuned emptyCfg where
  curve := by decide
  minRun := by decide
  fallbackSpeed := by decide
  demands z _ hz := by
    simp only [emptyCfg, Tab.nth_fill, hz, if_true]
    decide
  weights n hn := by
    simp only [emptyCfg, Tab.nth_fill, hn, if_true]
    decide

theorem zoneAirLaw_start : ZoneAirLaw ZoneAir.start where
  e := by decide
  s := by decide
  l := by decide
  twa := by decide
  z := by decide
  lastD := by decide
  floor := by decide
  demand := by decide
  ring := by decide

theorem airLaw_reset : AirLaw State.reset where
  zones z hz := by
    simp only [State.reset, Air.start, Tab.nth_fill, hz, if_true]
    exact zoneAirLaw_start
  sensors n hn := by
    simp only [State.reset, Air.start, Tab.nth_fill, hn, if_true]
    exact fun _ h => absurd h (Option.some_ne_none _).symm

theorem channel_reset {n : Nat} (hn : n < 12) : State.reset.fan.channels.nth n = Channel.start := by
  simp only [State.reset, FanDrive.start, Tab.nth_fill, hn, if_true]

theorem channelLaw_start (p : Params) : ChannelLaw p Channel.start where
  driven := by decide
  reason := by decide
  resting _ := rfl
  turning h := absurd h (by decide)
  outputs := .inl rfl
  force _ h := absurd h (Option.some_ne_none _).symm

theorem fanLaw_reset : FanLaw State.reset where
  channels n hn := by
    rw [channel_reset hn]
    exact channelLaw_start _
  loading _ n hn := by
    rw [channel_reset hn]
    decide

theorem slot_reset (i : Nat) : State.reset.bus.slots.nth i = none := by
  simp only [State.reset, FieldBus.start, Tab.nth_fill]
  split <;> rfl

theorem slotLaw_reset : SlotLaw State.reset.bus := by
  have h : filledSlots State.reset.bus = [] := by simp [filledSlots, slot_reset]
  refine ⟨by simp [h], by simp [h], fun i x _ hx => ?_⟩
  rw [slot_reset] at hx
  exact absurd hx (Option.some_ne_none _).symm

theorem busLaw_reset : BusLaw State.reset.bus := ⟨by decide, by decide, by decide, by decide, by decide⟩

theorem lampLaw_reset : LampLaw State.reset := by
  intro b hb
  rw [lampColour, if_pos running_reset]
  simp [State.reset, Guidance.start, hb, Lamp.start]

/-- Settles O59: the tables of the reset state hold the same value in every entry, and in LOADING nothing is tracked. -/
theorem everyLawHoldsAfterReset : Obligations.EveryLawHoldsAfterReset := by
  obtain ⟨hbay, hfree, hmap⟩ := bayLaws_of_start (s := State.reset) rfl rfl rfl
  have untracked : ¬ running State.reset = true := by simp
  refine ⟨timeLaw_reset, countLaw_reset, queueLaw_start _ _ _, stackLaw_reset, sounderLaw_reset,
    ⟨tuned_emptyCfg, tuned_emptyCfg⟩, airLaw_reset, fanLaw_reset, hbay, hfree, hmap, slotLaw_reset, busLaw_reset, ?_, ?_,
    ?_, ?_, ?_, lampLaw_reset, ?_, ?_⟩
  · exact fun h => absurd h (by decide)
  · exact fun h => absurd h untracked
  · exact fun h => absurd h untracked
  · exact fun h => h.elim (fun hr => absurd hr untracked) (fun he => absurd he (by decide))
  · exact fun h => absurd h untracked
  · exact fun h => absurd h untracked
  · exact fun h => absurd h untracked

end Sys2Proof.Machine
end

section
/-! SUPPORT. What the laws of the zones are formed from (R44, R47, R48, R79, R102, R119), and the operations that leave all
of it: those of lamps, faces, levels, paths, keys, loops, the field bus and the service link. -/

namespace Sys2Proof.Machine

/-- From `s` to `t` everything stands that the laws of the zones look at, but for the guidance status. -/
structure SameInputs (s t : State) : Prop where
  state : t.cfg.state = s.cfg.state := by rfl
  inForce : t.cfg.inForce = s.cfg.inForce := by rfl
  working : t.cfg.working = s.cfg.working := by rfl
  air : t.air = s.air := by rfl
  stack : t.ovr.stack = s.ovr.stack := by rfl
  free : t.occ.free = s.occ.free := by rfl
  ventLost : t.fan.ventLost = s.fan.ventLost := by rfl
  profile : t.fan.profile = s.fan.profile := by rfl
  fanState : ∀ n, (t.fan.channels.nth n).state = (s.fan.channels.nth n).state := by exact fun _ => rfl
  dark : t.light.dark = s.light.dark := by rfl
  darkCount : t.light.darkCount = s.light.darkCount := by rfl
  groupState : ∀ g, (t.light.groups.nth g).state = (s.light.groups.nth g).state := by exact fun _ => rfl

/-- The same, with the guidance status. -/
structure Quiet (s t : State) : Prop extends SameInputs s t where
  status : t.guide.status = s.guide.status := by rfl

/-- The blocks in which the laws of the zones look at nothing. -/
abbrev quietBlocks : List Block := [.time, .loops, .slots, .bus, .notices, .link, .free, .pending]

namespace SameInputs

variable {s t u : State} {bs : List Block}

theorem trans (h : SameInputs s t) (k : SameInputs t u) : SameInputs s u where
  state := k.state.trans h.state
  inForce := k.inForce.trans h.inForce
  working := k.working.trans h.working
  air := k.air.trans h.air
  stack := k.stack.trans h.stack
  free := k.free.trans h.free
  ventLost := k.ventLost.trans h.ventLost
  profile := k.profile.trans h.profile
  fanState n := (k.fanState n).trans (h.fanState n)
  dark := k.dark.trans h.dark
  darkCount := k.darkCount.trans h.darkCount
  groupState g := (k.groupState g).trans (h.groupState g)

theorem of_does (h : Does bs s t) (k : bs.all (fun b => (Block.guide :: quietBlocks).contains b) = true) :
    SameInputs s t := by
  have d := h.mono k
  have hc := d.cfg rfl
  have hf := d.fan rfl
  have hl := d.light rfl
  exact ⟨by rw [hc], by rw [hc], by rw [hc], d.air rfl, by rw [d.ovr rfl], by rw [d.occ rfl], by rw [hf], by rw [hf],
    fun n => by rw [hf], by rw [hl], by rw [hl], fun g => by rw [hl]⟩

theorem running (h : SameInputs s t) : running t = running s := by simp only [Machine.running, h.state]

end SameInputs

namespace Quiet

variable {s t u : State} {bs : List Block}

theorem refl (s : State) : Quiet s s := {}

theorem trans (h : Quiet s t) (k : Quiet t u) : Quiet s u :=
  ⟨h.toSameInputs.trans k.toSameInputs, k.status.trans h.status⟩

/-- What comes after a change that leaves it all; read from the last operation back. -/
theorem after (k : Quiet t u) (h : Quiet s t) : Quiet s u := h.trans k

theorem ite {c : Prop} [Decidable c] (h : c → Quiet s t) (k : ¬c → Quiet s u) : Quiet s (if c then t else u) := by
  split
  · exact h ‹_›
  · exact k ‹_›

theorem foldl {α : Type} (f : State → α → State) (h : ∀ t x, Quiet t (f t x)) (l : List α) (s : State) :
    Quiet s (l.foldl f s) := by
  induction l generalizing s with
  | nil => exact refl s
  | cons x l ih => exact (h s x).trans (ih _)

theorem of_does (h : Does bs s t) (k : bs.all (fun b => quietBlocks.contains b) = true) : Quiet s t := by
  have d := h.mono k
  exact ⟨.of_does d rfl, by rw [d.guide rfl]⟩

/-- What changes only waiting marks in lighting and guidance. -/
theorem of_marks (h : Does bs s t)
    (k : bs.all (fun b => (Block.light :: Block.guide :: quietBlocks).contains b) = true) (m : MarksOnly s t) :
    Quiet s t := by
  have d := h.mono k
  have hc := d.cfg rfl
  have hf := d.fan rfl
  exact ⟨⟨by rw [hc], by rw [hc], by rw [hc], d.air rfl, by rw [d.ovr rfl], by rw [d.occ rfl], by rw [hf], by rw [hf],
    fun n => by rw [hf], m.dark, m.darkCount, m.groupState⟩, m.status⟩

end Quiet

/-! ## Slots and notices -/

theorem quiet_post (n : Notice) (s : State) : Quiet s (post n s) := .of_does (does_post n s) rfl

theorem quiet_postAll (ns : List Notice) (s : State) : Quiet s (postAll ns s) := .of_does (does_postAll ns s) rfl

theorem quiet_note (d : Dest) (mark : Bool) (s : State) : Quiet s (note d mark s) :=
  .of_marks (does_note d mark s) (by cases d <;> rfl) (marks_note d mark s)

theorem quiet_fillSlots (s : State) : Quiet s (fillSlots s) := .of_marks (does_fillSlots s) rfl (marks_fillSlots s)

/-! ## Guidance -/

theorem quiet_formLamp (b : Nat) (s : State) : Quiet s (formLamp b s) :=
  .after (quiet_note _ _ _) {}

theorem quiet_formLamps (bs : List Nat) (s : State) : Quiet s (formLamps bs s) :=
  .foldl _ (fun t b => quiet_formLamp b t) bs s

theorem quiet_putFace (i f : Nat) (x : Face) (s : State) : Quiet s (putFace i f x s) :=
  .after (quiet_note _ _ _) {}

theorem quiet_formFaces (p : FaceRec → Bool) (s : State) : Quiet s (formFaces p s) :=
  .foldl (fun t (x : Nat × Nat) => formFace x.1 x.2 t) (fun t x => quiet_putFace x.1 x.2 _ t) _ s

theorem quiet_advanceFace (i f : Nat) (s : State) : Quiet s (advanceFace i f s) := by
  dsimp only [advanceFace]
  exact .ite (fun _ => quiet_putFace i f _ s) (fun _ => .refl s)

theorem quiet_advanceSign (i : Nat) (s : State) : Quiet s (advanceSign i s) := by
  dsimp only [advanceSign]
  exact .ite (fun _ => .foldl _ (fun t f => quiet_advanceFace i f t) _ s) (fun _ => .refl s)

theorem quiet_advanceUnpaired (s : State) : Quiet s (advanceUnpaired s) :=
  .foldl _ (fun t i => quiet_advanceSign i t) _ s

theorem quiet_guideSensed (b : Nat) (s : State) : Quiet s (guideSensed b s) := by
  dsimp only [guideSensed]
  exact .ite (fun _ => quiet_formLamp b s) (fun _ => .refl s)

theorem quiet_markFaces (xs : List (Nat × Nat)) (s : State) :
    Quiet s (xs.foldl (fun t x => markFace x.1 x.2 t) s) :=
  .foldl (fun t (x : Nat × Nat) => markFace x.1 x.2 t) (fun t _ => quiet_note _ true t) xs s

theorem quiet_markAllGuidance (s : State) : Quiet s (markAllGuidance s) :=
  (quiet_markFaces _ s).trans (.foldl (fun t b => markLamp b t) (fun t _ => quiet_note _ true t) _ _)

theorem quiet_markFallbackGuidance (s : State) : Quiet s (markFallbackGuidance s) :=
  (quiet_note .lampAll true s).trans (quiet_note .faceAll true _)

theorem quiet_setSignState (i : Nat) (st : SignHealth) (s : State) : Quiet s (setSignState i st s) := by
  dsimp only [setSignState]
  exact .ite (fun _ => .refl s) (fun _ => .after (quiet_post _ _) {})

theorem quiet_guideLevels (vs : List Nat) (s : State) : Quiet s (guideLevels vs s) := quiet_formFaces _ s

theorem quiet_levelTap (v : Nat) (s : State) : Quiet s (levelTap v s) := by
  dsimp only [levelTap]
  split
  · refine .ite (fun _ => .refl s) (fun _ => .ite (fun _ => ?_) (fun _ => {}))
    exact .after (quiet_guideLevels _ _) (.after (quiet_post _ _) {})
  · exact .refl s

theorem quiet_writeLevels (items : List (Nat × Nat)) (s : State) : Quiet s (writeLevels items s) := by
  refine .after (quiet_guideLevels _ _) (.foldl writeLevel (fun t x => ?_) items s)
  dsimp only [writeLevel]
  exact .ite (fun _ => .after (quiet_post _ _) {}) (fun _ => {})

/-! ## Lighting -/

/-- A group's record written with the state that it has. -/
theorem quiet_setGroup {g : Nat} {x : Group} {s : State} (h : x.state = (s.light.groups.nth g).state) :
    Quiet s (setGroup g x s) where
  groupState k := by
    rw [setGroup_light, Tab.nth_put]
    split
    · rename_i e
      rw [e.1, h]
    · rfl

theorem quiet_formGroup (g : Nat) (s : State) : Quiet s (formGroup g s) := by
  refine .after (quiet_note (.group g) _ _) ?_
  exact quiet_setGroup rfl

theorem quiet_formGroups (gs : List Nat) (s : State) : Quiet s (formGroups gs s) := by
  dsimp only [formGroups]
  exact .ite (fun _ => .foldl _ (fun t g => quiet_formGroup g t) gs s) (fun _ => .refl s)

theorem quiet_rewantGroup (g : Nat) (s : State) : Quiet s (rewantGroup g s) := by
  refine .after (quiet_note (.group g) _ _) ?_
  exact quiet_setGroup rfl

theorem quiet_trigger (g : Nat) (s : State) : Quiet s (trigger g s) := by
  dsimp only [trigger]
  refine .ite (fun _ => .ite (fun _ => ?_) (fun _ => quiet_setGroup rfl)) (fun _ => .refl s)
  exact .after (quiet_formGroup g _) (quiet_setGroup rfl)

theorem quiet_lightSensed (b : Nat) (s : State) : Quiet s (lightSensed b s) :=
  .foldl _ (fun t g => quiet_trigger g t) _ s

theorem quiet_setPath (p : Nat) (x : PathRun) (s : State) : Quiet s (setPath p x s) := {}

theorem quiet_pathFire (p : Nat) (s : State) : Quiet s (pathFire p s) := by
  dsimp only [pathFire]
  split
  · refine .after (quiet_setPath p _ _) ?_
    split
    · exact quiet_trigger _ s
    · exact .refl s
  · exact .refl s
  · exact .refl s

theorem quiet_pathTap (p : Nat) (s : State) : Quiet s (pathTap p s) := by
  dsimp only [pathTap]
  split
  · exact (quiet_setPath p _ s).trans (quiet_pathFire p _)
  · exact .refl s

theorem quiet_startPaths (pair : Nat) (s : State) : Quiet s (startPaths pair s) :=
  .foldl _ (fun t p => (quiet_setPath p _ t).trans (quiet_pathFire p _)) _ s

theorem quiet_markAllGroups (s : State) : Quiet s (markAllGroups s) :=
  .foldl _ (fun t _ => quiet_note _ true t) _ s

theorem quiet_stayTap (g : Nat) (s : State) : Quiet s (stayTap g s) := by
  dsimp only [stayTap]
  refine .ite (fun _ => .refl s) (fun _ => .ite (fun _ => ?_) (fun _ => quiet_setGroup rfl))
  exact .after (quiet_formGroup g _) (quiet_setGroup rfl)

/-! ## Fan drive -/

/-- The channels written with the states that they have. -/
theorem quiet_channels {cs : Tab Channel 12} {s : State}
    (h : ∀ n, n < 12 → (cs.nth n).state = (s.fan.channels.nth n).state) :
    Quiet s { s with fan := { s.fan with channels := cs } } where
  fanState n := by
    by_cases hn : n < 12
    · exact h n hn
    · exact congrArg Channel.state ((Tab.nth_of_ge _ (by omega)).trans (Tab.nth_of_ge _ (by omega)).symm)

theorem quiet_eachChannel {f : Channel → Channel} (h : ∀ x, (f x).state = x.state) (s : State) :
    Quiet s { s with fan := { s.fan with channels := s.fan.channels.each f } } :=
  quiet_channels fun _ hn => by rw [Tab.nth_each _ _ hn, h]

theorem quiet_setChannel {n : Nat} {x : Channel} {s : State} (h : x.state = (s.fan.channels.nth n).state) :
    Quiet s (setChannel n x s) :=
  quiet_channels fun m _ => by
    rw [Tab.nth_put]
    split
    · rename_i e
      rw [e.1, h]
    · rfl

theorem coastTap_state (x : Channel) : (coastTap x).state = x.state := by
  unfold coastTap
  split <;> rfl

theorem takeReference_state (x : Channel) : (takeReference x).state = x.state := by
  unfold takeReference
  split <;> rfl

theorem quiet_testBelow (n : Nat) (s : State) : Quiet s (testBelow n s) := by
  dsimp only [testBelow]
  exact .ite (fun _ => .after (quiet_post _ _) (quiet_setChannel rfl)) (fun _ => quiet_setChannel rfl)

/-! ## Keys, sounder and taps -/

theorem quiet_spendKey (ids : List Nat) (k : Nat) (s : State) : Quiet s (spendKey ids k s) := by
  dsimp only [spendKey]
  refine .ite (fun _ => ?_) (fun _ => .refl s)
  split
  · exact .ite (fun _ => {}) (fun _ => .refl s)
  · exact .after (quiet_post _ _) {}
  · exact .refl s
  · exact .refl s

theorem quiet_sounderTap (s : State) : Quiet s (sounderTap s) := by
  dsimp only [sounderTap]
  split
  · exact {}
  · exact .refl s
  · exact .refl s

theorem quiet_resendLight (s : State) : Quiet s (resendLight s) :=
  .ite (fun _ => quiet_markAllGroups s) (fun _ => quiet_note .groupAll true s)

theorem quiet_resendGuidance (s : State) : Quiet s (resendGuidance s) :=
  .ite (fun _ => quiet_markAllGuidance s) (fun _ => quiet_markFallbackGuidance s)

theorem quiet_lightResendTap (s : State) : Quiet s (lightResendTap s) := by
  dsimp only [lightResendTap]
  refine .ite (fun _ => .after (quiet_resendLight _) {}) (fun _ => {})

theorem quiet_guideResendTap (s : State) : Quiet s (guideResendTap s) := by
  dsimp only [guideResendTap]
  refine .ite (fun _ => .after (quiet_resendGuidance _) {}) (fun _ => {})

theorem quiet_rotationTap (s : State) : Quiet s (rotationTap s) := by
  dsimp only [rotationTap]
  exact .ite (fun _ => .after (quiet_advanceUnpaired _) {}) (fun _ => {})

theorem quiet_lightsT1 (s : State) : Quiet s (lightsT1 s) := by
  refine .after (quiet_lightResendTap _) ?_
  exact .ite (fun _ => .foldl _ (fun t g => quiet_stayTap g t) _ s) (fun _ => .refl s)

theorem quiet_guideT1 (s : State) : Quiet s (guideT1 s) := by
  refine .after (quiet_guideResendTap _) ?_
  refine .ite (fun _ => ?_) (fun _ => .refl s)
  exact .after (quiet_rotationTap _) (.foldl _ (fun t v => quiet_levelTap v t) _ s)

theorem quiet_pathsT32 (s : State) : Quiet s (pathsT32 s) := by
  dsimp only [pathsT32]
  exact .ite (fun _ => .foldl _ (fun t p => quiet_pathTap p t) _ s) (fun _ => .refl s)

/-! ## Bays and the outcomes of sent frames -/

theorem quiet_lampLost (b : Nat) (s : State) : Quiet s (lampLost b s) := by
  dsimp only [lampLost]
  exact .ite (fun _ => .refl s) (fun _ => .after (quiet_post _ _) {})

theorem quiet_lampSent (b : Nat) (c : Colour) (s : State) : Quiet s (lampSent b c s) := by
  dsimp only [lampSent]
  have h : ∀ x, Quiet s (lampReached b (setLamp b x s)) := fun x =>
    .ite (fun _ => .after (quiet_post _ _) {}) (fun _ => {})
  exact .ite (fun _ => (h _).trans (quiet_note _ true _)) (fun _ => h _)

theorem quiet_faceSent (i f : Nat) (v : FaceValue) (s : State) : Quiet s (faceSent i f v s) := by
  dsimp only [faceSent]
  have h : ∀ x, Quiet s (if (s.guide.signs.nth i).state = .noResponse then setSignState i .ok (setFace i f x s)
      else setFace i f x s) := fun x =>
    .ite (fun _ => .after (quiet_setSignState i _ _) {}) (fun _ => {})
  exact .ite (fun _ => (h _).trans (quiet_note _ true _)) (fun _ => h _)

end Sys2Proof.Machine
end

section
/-! SUPPORT. The laws of the zones, zone by zone: floor and demand (R47, R48), guidance status (R119), VENT_LOST (R79) and
DARK (R102), with the ranges of the air values (R44); and what keeps them all. -/

namespace Sys2Proof.Machine

/-! ## Zones and maxima -/

theorem mem_zoneIndices {z : Nat} : z ∈ zoneIndices ↔ 1 ≤ z ∧ z < 16 := by
  simp only [zoneIndices, span, List.mem_map, List.mem_range]
  exact ⟨fun ⟨k, hk, he⟩ => by omega, fun h => ⟨z - 1, by omega, by omega⟩⟩

theorem zonePresent_pos {c : Cfg} {z : Nat} (h : zonePresent c z = true) : 1 ≤ z := by
  by_contra hz
  obtain rfl : z = 0 := by omega
  simp [zonePresent] at h

theorem mem_zoneIndices_of_present {c : Cfg} {z : Nat} (h : zonePresent c z = true) : z ∈ zoneIndices :=
  mem_zoneIndices.mpr ⟨zonePresent_pos h, zonePresent_lt h⟩

theorem mem_presentZones {s : State} {z : Nat} : z ∈ presentZones s ↔ zonePresent s.cfg.inForce z = true := by
  rw [presentZones, List.mem_filter]
  exact ⟨fun h => h.2, fun h => ⟨mem_zoneIndices_of_present h, h⟩⟩

/-- The largest of a start value and the values of a list: it bounds them all and is one of them. -/
theorem foldl_max_spec {α : Type} (f : α → Nat) (l : List α) (m : Nat) :
    m ≤ l.foldl (fun n x => max n (f x)) m ∧ (∀ x ∈ l, f x ≤ l.foldl (fun n x => max n (f x)) m) ∧
      (l.foldl (fun n x => max n (f x)) m = m ∨ ∃ x ∈ l, f x = l.foldl (fun n x => max n (f x)) m) := by
  induction l generalizing m with
  | nil => exact ⟨Nat.le_refl m, by simp, .inl rfl⟩
  | cons a l ih =>
    obtain ⟨h1, h2, h3⟩ := ih (max m (f a))
    rw [List.foldl_cons]
    refine ⟨by omega, ?_, ?_⟩
    · simp only [List.mem_cons, forall_eq_or_imp]
      exact ⟨by omega, h2⟩
    · rcases h3 with h3 | ⟨x, hx, h3⟩
      · rcases Nat.le_total m (f a) with hm | hm
        · exact .inr ⟨a, by simp, by omega⟩
        · exact .inl (by omega)
      · exact .inr ⟨x, by simp [hx], h3⟩

theorem foldl_max_le {α : Type} (f : α → Nat) {l : List α} {m b : Nat} (hm : m ≤ b) (h : ∀ x ∈ l, f x ≤ b) :
    l.foldl (fun n x => max n (f x)) m ≤ b := by
  rcases (foldl_max_spec f l m).2.2 with e | ⟨x, hx, e⟩
  · rw [e]
    exact hm
  · rw [← e]
    exact h x hx

/-! ## Floor and demand (R47, R48) -/

theorem floorIs_iff {stack : List Entry} {z n : Nat} : floorIs stack z n ↔ n = ventFloor stack z := by
  obtain ⟨-, hle, hmem⟩ := foldl_max_spec Entry.value (stack.filter (fun e => e.coversZone .ventBoost z)) 0
  change (∀ e ∈ stack.filter _, e.value ≤ ventFloor stack z) at hle
  change (ventFloor stack z = 0 ∨ ∃ e ∈ stack.filter _, e.value = ventFloor stack z) at hmem
  simp only [List.mem_filter, and_imp] at hle hmem
  constructor
  · rintro ⟨hbound, hn⟩
    refine Nat.le_antisymm ?_ ?_
    · rcases hn with rfl | ⟨e, he, hc, rfl⟩
      · exact Nat.zero_le _
      · exact hle e he hc
    · rcases hmem with h0 | ⟨e, ⟨he, hc⟩, hv⟩
      · omega
      · rw [← hv]
        exact hbound e he hc
  · rintro rfl
    exact ⟨hle, hmem.imp id (fun ⟨e, ⟨he, hc⟩, hv⟩ => ⟨e, he, hc, hv⟩)⟩

theorem ventFloor_le {stack : List Entry} {b : Nat} (h : ∀ e ∈ stack, e.value ≤ b) (z : Nat) : ventFloor stack z ≤ b :=
  foldl_max_le Entry.value (Nat.zero_le b) fun e he => h e (List.mem_filter.mp he).1

theorem demandOf_le {fallback b : Nat} {x : ZoneAir} (hf : fallback ≤ b) (hd : x.lastD ≤ b) (hl : x.floor ≤ b) :
    demandOf fallback x ≤ b := by
  unfold demandOf
  split
  · omega
  · split <;> omega

/-- R47, R48: zone `z` holds its floor and the demand that its values give. -/
def DemandAt (s : State) (z : Nat) : Prop :=
  (s.air.zones.nth z).floor = ventFloor s.ovr.stack z ∧
    (s.air.zones.nth z).demand = demandOf (s.cfg.inForce.zones.nth z).fallbackDemand (s.air.zones.nth z)

theorem demandOf_iff (fallback : Nat) (x : ZoneAir) : x.demand = demandOf fallback x ↔
    (0 < x.contributors → x.demand = max x.lastD x.floor) ∧
    (x.contributors = 0 → x.state ≠ .alarm → x.demand = max fallback x.floor) ∧
    (x.contributors = 0 → x.state = .alarm → x.demand = max x.lastD (max fallback x.floor)) := by
  unfold demandOf
  split
  · have h0 : x.contributors ≠ 0 := by omega
    simp [*]
  · have h0 : x.contributors = 0 := by omega
    split <;> simp [*]

theorem demandLaw_iff {s : State} :
    DemandLaw s ↔ (running s = true → ∀ z, zonePresent s.cfg.inForce z = true → DemandAt s z) := by
  simp only [DemandLaw, DemandAt, floorIs_iff, demandOf_iff]

/-! ## The other conditions (R79, R102, R119) -/

def StatusAt (s : State) (z : Nat) : Prop := s.guide.status.nth z = deriveStatus s z

def VentAt (s : State) (z : Nat) : Prop := s.fan.ventLost.nth z = deriveVentLost s z

def DarkAt (s : State) (z : Nat) : Prop :=
  s.light.darkCount.nth z = deriveDarkCount s z ∧
    (s.light.dark.nth z = true ↔ (s.cfg.inForce.zones.nth z).darkLimit < deriveDarkCount s z)

/-- R119: what the status of a zone is formed from. -/
theorem deriveStatus_congr {s t : State} {z : Nat}
    (hc : t.ovr.stack.any (fun e => e.coversZone .zoneClose z) = s.ovr.stack.any (fun e => e.coversZone .zoneClose z))
    (ha : (t.air.zones.nth z).state = (s.air.zones.nth z).state) (hv : t.fan.ventLost.nth z = s.fan.ventLost.nth z)
    (hd : t.light.dark.nth z = s.light.dark.nth z) (hf : t.occ.free.nth z = s.occ.free.nth z) :
    deriveStatus t z = deriveStatus s z := by
  unfold deriveStatus
  rw [hc, ha, hv, hd, totalFree, totalFree, hf]

/-- R79: what VENT_LOST of a zone is formed from. -/
theorem deriveVentLost_congr {s t : State} {z : Nat} (hs : t.cfg.state = s.cfg.state)
    (hc : t.cfg.inForce = s.cfg.inForce) (hp : t.fan.profile = s.fan.profile)
    (hn : ∀ n, (s.cfg.inForce.fans.nth n).owner = z →
      ((t.fan.channels.nth n).state = .fault ↔ (s.fan.channels.nth n).state = .fault)) :
    deriveVentLost t z = deriveVentLost s z := by
  have hz : zoneFans t z = zoneFans s z := by simp only [zoneFans, hs, hc, hp]
  have hf : faultedFans t (zoneFans s z) = faultedFans s (zoneFans s z) := by
    refine List.filter_congr fun n hm => ?_
    have ho : (s.cfg.inForce.fans.nth n).owner = z := by
      have h := (List.mem_filter.mp hm).2
      simp only [Bool.and_eq_true, beq_iff_eq] at h
      exact h.1.2
    simp only [beq_eq_decide, hn n ho]
  simp only [deriveVentLost, hz, hf]

/-- R102: what the dark count of a zone is formed from. -/
theorem deriveDarkCount_congr {s t : State} {z : Nat} (hc : t.cfg.inForce = s.cfg.inForce)
    (hg : ∀ g, g ∈ presentGroups s → (s.cfg.inForce.groups.nth g).zone = z →
      (t.light.groups.nth g).state = (s.light.groups.nth g).state) :
    deriveDarkCount t z = deriveDarkCount s z := by
  have hp : presentGroups t = presentGroups s := by simp only [presentGroups, hc]
  unfold deriveDarkCount
  rw [hp]
  refine congrArg List.length (List.filter_congr fun g hm => ?_)
  rw [hc]
  by_cases hz : (s.cfg.inForce.groups.nth g).zone = z
  · rw [hg g hm hz]
  · rw [beq_eq_false_iff_ne.mpr hz, Bool.false_and, Bool.false_and]

/-! ## The ranges of the air values (R44) -/

/-- R44: the air values are within their ranges, and so are the values that bound them: the tuning values of both copies
of the records and the values of the override entries. -/
structure AirSound (s : State) : Prop where
  cfg : CfgLaw s
  values : ∀ e ∈ s.ovr.stack, e.value ≤ 1000
  air : AirLaw s

theorem airSound_congr {s t : State} (hc : t.cfg.inForce = s.cfg.inForce) (hw : t.cfg.working = s.cfg.working)
    (ha : t.air = s.air) (hs : t.ovr.stack = s.ovr.stack) (l : AirSound s) : AirSound t where
  cfg := ⟨by rw [hc]; exact l.cfg.inForce, by rw [hw]; exact l.cfg.working⟩
  values := by
    rw [hs]
    exact l.values
  air := ⟨by rw [ha]; exact l.air.zones, by rw [ha]; exact l.air.sensors⟩

/-! ## The laws under changes of other things -/

section Frames

variable {s t : State} {bs : List Block}

theorem airSound_of_does (h : Does bs s t)
    (k : bs.all (fun b => b != .cfg && b != .air && b != .ovr) = true) : AirSound s → AirSound t := by
  have hn : ∀ b, (b = .cfg ∨ b = .air ∨ b = .ovr) → bs.contains b = false := by
    intro b hb
    rw [← Bool.not_eq_true, List.contains_iff_mem]
    intro hm
    have := List.all_eq_true.mp k b hm
    rcases hb with rfl | rfl | rfl <;> simp at this
  have hc := h.cfg (hn _ (by simp))
  exact airSound_congr (by rw [hc]) (by rw [hc]) (h.air (hn _ (by simp))) (by rw [h.ovr (hn _ (by simp))])

theorem demandLaw_congr (hr : running t = running s) (hc : t.cfg.inForce = s.cfg.inForce)
    (h : ∀ z, zonePresent s.cfg.inForce z = true → DemandAt s z → DemandAt t z) : DemandLaw s → DemandLaw t := by
  rw [demandLaw_iff, demandLaw_iff, hr, hc]
  exact fun l k z hz => h z hz (l k z hz)

theorem statusLaw_congr (hr : running t = running s) (hc : t.cfg.inForce = s.cfg.inForce)
    (h : ∀ z, zonePresent s.cfg.inForce z = true → StatusAt s z → StatusAt t z) : StatusLaw s → StatusLaw t := by
  unfold StatusLaw
  rw [hr, hc]
  exact fun l k z hz => h z hz (l k z hz)

theorem ventLaw_congr (hr : t.cfg.state = s.cfg.state) (hc : t.cfg.inForce = s.cfg.inForce)
    (h : ∀ z, zonePresent s.cfg.inForce z = true → VentAt s z → VentAt t z) : VentLaw s → VentLaw t := by
  unfold VentLaw running
  rw [hr, hc]
  exact fun l k z hz => h z hz (l k z hz)

theorem darkLaw_iff {s : State} :
    DarkLaw s ↔ (running s = true → ∀ z, zonePresent s.cfg.inForce z = true → DarkAt s z) := Iff.rfl

theorem darkLaw_congr (hr : running t = running s) (hc : t.cfg.inForce = s.cfg.inForce)
    (h : ∀ z, zonePresent s.cfg.inForce z = true → DarkAt s z → DarkAt t z) : DarkLaw s → DarkLaw t := by
  rw [darkLaw_iff, darkLaw_iff, hr, hc]
  exact fun l k z hz => h z hz (l k z hz)

theorem demandAt_congr {z : Nat} (hc : t.cfg.inForce = s.cfg.inForce)
    (hs : ventFloor t.ovr.stack z = ventFloor s.ovr.stack z)
    (hn : (t.air.zones.nth z).contributors = (s.air.zones.nth z).contributors)
    (hx : (t.air.zones.nth z).state = (s.air.zones.nth z).state)
    (hd : (t.air.zones.nth z).lastD = (s.air.zones.nth z).lastD)
    (hf : (t.air.zones.nth z).floor = (s.air.zones.nth z).floor)
    (hm : (t.air.zones.nth z).demand = (s.air.zones.nth z).demand) : DemandAt s z → DemandAt t z := by
  simp only [DemandAt, demandOf, hc, hs, hn, hx, hd, hf, hm]
  exact id

theorem ventAt_congr {z : Nat} (hs : t.cfg.state = s.cfg.state) (hc : t.cfg.inForce = s.cfg.inForce)
    (hf : t.fan = s.fan) : VentAt s z → VentAt t z := by
  intro h
  rw [VentAt, deriveVentLost_congr hs hc (by rw [hf]) (fun _ _ => by rw [hf]), hf]
  exact h

theorem darkAt_congr {z : Nat} (hc : t.cfg.inForce = s.cfg.inForce) (hl : t.light = s.light) : DarkAt s z → DarkAt t z := by
  intro h
  rw [DarkAt, deriveDarkCount_congr hc (fun _ _ _ => by rw [hl]), hl, hc]
  exact h

end Frames

/-! ## What keeps the laws -/

/-- From `s` to `t` the ranges of the air values and the laws of the zones are kept. -/
structure KeepsZones (s t : State) : Prop where
  air : AirSound s → AirSound t
  demand : DemandLaw s → DemandLaw t
  status : StatusLaw s → StatusLaw t
  vent : VentLaw s → VentLaw t
  dark : DarkLaw s → DarkLaw t

namespace SameInputs

variable {s t : State} (h : SameInputs s t) {z : Nat}
include h

theorem airSound : AirSound s → AirSound t := airSound_congr h.inForce h.working h.air h.stack

theorem deriveStatus (z : Nat) : deriveStatus t z = Machine.deriveStatus s z :=
  deriveStatus_congr (by rw [h.stack]) (by rw [h.air]) (by rw [h.ventLost]) (by rw [h.dark]) (by rw [h.free])

theorem demandLaw : DemandLaw s → DemandLaw t :=
  demandLaw_congr h.running h.inForce fun z _ => demandAt_congr h.inForce (by rw [h.stack]) (by rw [h.air])
    (by rw [h.air]) (by rw [h.air]) (by rw [h.air]) (by rw [h.air])

theorem ventLaw : VentLaw s → VentLaw t :=
  ventLaw_congr h.state h.inForce fun z _ k => by
    rw [VentAt, deriveVentLost_congr h.state h.inForce h.profile (fun n _ => by rw [h.fanState]), h.ventLost]
    exact k

theorem darkLaw : DarkLaw s → DarkLaw t :=
  darkLaw_congr h.running h.inForce fun z _ k => by
    rw [DarkAt, deriveDarkCount_congr h.inForce (fun g _ _ => h.groupState g), h.darkCount, h.dark, h.inForce]
    exact k

end SameInputs

theorem Quiet.statusLaw {s t : State} (h : Quiet s t) : StatusLaw s → StatusLaw t :=
  statusLaw_congr h.running h.inForce fun z _ k => by
    rw [StatusAt, h.toSameInputs.deriveStatus, h.status]
    exact k

theorem Quiet.keeps {s t : State} (h : Quiet s t) : KeepsZones s t :=
  ⟨h.airSound, h.demandLaw, h.statusLaw, h.ventLaw, h.darkLaw⟩

namespace KeepsZones

variable {s t u : State} {bs : List Block}

theorem refl (s : State) : KeepsZones s s := ⟨id, id, id, id, id⟩

theorem trans (h : KeepsZones s t) (k : KeepsZones t u) : KeepsZones s u :=
  ⟨k.air ∘ h.air, k.demand ∘ h.demand, k.status ∘ h.status, k.vent ∘ h.vent, k.dark ∘ h.dark⟩

/-- What leaves everything the laws look at, after what keeps them. -/
theorem quiet (h : KeepsZones s t) (k : Quiet t u) : KeepsZones s u := h.trans k.keeps

theorem ite {c : Prop} [Decidable c] (h : c → KeepsZones s t) (k : ¬c → KeepsZones s u) :
    KeepsZones s (if c then t else u) := by
  split
  · exact h ‹_›
  · exact k ‹_›

theorem foldl {α : Type} (f : State → α → State) (h : ∀ t x, KeepsZones t (f t x)) (l : List α) (s : State) :
    KeepsZones s (l.foldl f s) := by
  induction l generalizing s with
  | nil => exact refl s
  | cons x l ih => exact (h s x).trans (ih _)

theorem of_does (h : Does bs s t) (k : bs.all (fun b => quietBlocks.contains b) = true) : KeepsZones s t :=
  (Quiet.of_does h k).keeps

/-- In a state in which nothing is tracked the laws of the zones ask nothing. -/
theorem of_untracked (h : AirSound s → AirSound t) (hr : running t = false) (he : t.cfg.state ≠ .editing) :
    KeepsZones s t where
  air := h
  demand _ := fun k => absurd k (by simp [hr])
  status _ := fun k => absurd k (by simp [hr])
  vent _ := fun k => k.elim (fun k => absurd k (by simp [hr])) (fun k => absurd k he)
  dark _ := fun k => absurd k (by simp [hr])

end KeepsZones

/-! ## Arrivals at guidance (R120) -/

theorem sameInputs_guideArrival (zs : List Nat) (also : FaceRec → Bool) (s : State) :
    SameInputs s (guideArrival zs also s) := .of_does (does_guideArrival zs also s) rfl

theorem nth_foldl_put {α : Type} [Inhabited α] {n : Nat} (f : Nat → α) (zs : List Nat) (t : Tab α n) {z : Nat}
    (hz : z < n) : (zs.foldl (fun t y => t.put y (f y)) t).nth z = if z ∈ zs then f z else t.nth z := by
  induction zs generalizing t with
  | nil => simp
  | cons y zs ih =>
    rw [List.foldl_cons, ih, Tab.nth_put]
    by_cases h1 : z ∈ zs
    · simp [h1]
    · by_cases h2 : z = y
      · subst h2
        simp [h1, hz]
      · simp [h1, h2]

/-- R120: an arrival takes the statuses of its changed zones afresh. -/
theorem guideArrival_status {zs : List Nat} {also : FaceRec → Bool} {s : State} (hr : running s = true) {z : Nat}
    (hz : z < 16) : (guideArrival zs also s).guide.status.nth z =
      if z ∈ changedZones zs s then deriveStatus s z else s.guide.status.nth z := by
  have h : Quiet (takeStatuses (changedZones zs s) s) (guideArrival zs also s) := by
    dsimp only [guideArrival]
    rw [if_pos hr]
    refine .after (quiet_postAll _ _) (.after (quiet_formFaces _ _) ?_)
    exact .foldl (fun t z => formLamps (zoneBays t z) t) (fun t z => quiet_formLamps _ t) _ _
  rw [h.status, takeStatuses_guide, nth_foldl_put _ _ _ hz]

/-- R120: after an arrival the zones that it names have the status their inputs give, and the others that they had. -/
theorem statusLaw_guideArrival {zs : List Nat} {also : FaceRec → Bool} {s : State}
    (h : running s = true → ∀ z, zonePresent s.cfg.inForce z = true → z ∉ zs → StatusAt s z) :
    StatusLaw (guideArrival zs also s) := by
  have k := sameInputs_guideArrival zs also s
  unfold StatusLaw
  rw [k.running, k.inForce]
  intro hr z hz
  rw [guideArrival_status hr (zonePresent_lt hz), k.deriveStatus]
  split
  · rfl
  · rename_i hn
    by_cases hm : z ∈ zs
    · simp only [changedZones, List.mem_filter, hm, hz, Bool.true_and, true_and, bne_iff_ne, not_not] at hn
      exact hn.symm
    · exact h hr z hz hm

/-- R120: an arrival keeps the laws. -/
theorem keepsZones_guideArrival (zs : List Nat) (also : FaceRec → Bool) (s : State) :
    KeepsZones s (guideArrival zs also s) := by
  have h := sameInputs_guideArrival zs also s
  exact ⟨h.airSound, h.demandLaw, fun l => statusLaw_guideArrival fun hr z hz _ => l hr z hz, h.ventLaw, h.darkLaw⟩

/-- R120: a change of the inputs of one zone, then its arrival: the statuses of the others stand. -/
theorem statusLaw_arrival {z : Nat} {also : FaceRec → Bool} {s t : State} (hr : running t = running s)
    (hc : t.cfg.inForce = s.cfg.inForce) (h : ∀ y, y ≠ z → StatusAt s y → StatusAt t y) (l : StatusLaw s) :
    StatusLaw (guideArrival [z] also t) :=
  statusLaw_guideArrival fun k y hy hn => h y (by simpa using hn) (l (by rw [← hr]; exact k) y (by rw [← hc]; exact hy))

end Sys2Proof.Machine
end

section
/-! SUPPORT. VENT_LOST and DARK formed again (R79, R80, R102), and the steps of the fan drive and of the lighting controller
that form them: each keeps the laws of the zones. -/

namespace Sys2Proof.Machine

/-! ## The laws under a frame -/

section Frames

variable {s t : State} {bs : List Block}

theorem demandLaw_of_does (h : Does bs s t) (hc : bs.contains .cfg = false) (ha : bs.contains .air = false)
    (ho : bs.contains .ovr = false) : DemandLaw s → DemandLaw t :=
  demandLaw_congr (h.running hc) (by rw [h.cfg hc]) fun z _ => demandAt_congr (by rw [h.cfg hc]) (by rw [h.ovr ho])
    (by rw [h.air ha]) (by rw [h.air ha]) (by rw [h.air ha]) (by rw [h.air ha]) (by rw [h.air ha])

theorem ventLaw_of_does (h : Does bs s t) (hc : bs.contains .cfg = false) (hf : bs.contains .fan = false) :
    VentLaw s → VentLaw t :=
  ventLaw_congr (by rw [h.cfg hc]) (by rw [h.cfg hc]) fun _ _ =>
    ventAt_congr (by rw [h.cfg hc]) (by rw [h.cfg hc]) (h.fan hf)

theorem darkLaw_of_does (h : Does bs s t) (hc : bs.contains .cfg = false) (hl : bs.contains .light = false) :
    DarkLaw s → DarkLaw t :=
  darkLaw_congr (h.running hc) (by rw [h.cfg hc]) fun _ _ => darkAt_congr (by rw [h.cfg hc]) (h.light hl)

/-- The blocks that a change of the fan drive can change. -/
abbrev fanBlocks : List Block := .fan :: .guide :: quietBlocks

/-- The blocks that a change of the lighting controller can change. -/
abbrev lightBlocks : List Block := .light :: .guide :: quietBlocks

theorem KeepsZones.of_fan (h : Does bs s t) (k : bs.all (fun b => fanBlocks.contains b) = true)
    (hs : StatusLaw s → StatusLaw t) (hv : VentLaw s → VentLaw t) : KeepsZones s t :=
  have d := h.mono k
  ⟨airSound_of_does d rfl, demandLaw_of_does d rfl rfl rfl, hs, hv, darkLaw_of_does d rfl rfl⟩

theorem KeepsZones.of_light (h : Does bs s t) (k : bs.all (fun b => lightBlocks.contains b) = true)
    (hs : StatusLaw s → StatusLaw t) (hd : DarkLaw s → DarkLaw t) : KeepsZones s t :=
  have d := h.mono k
  ⟨airSound_of_does d rfl, demandLaw_of_does d rfl rfl rfl, hs, ventLaw_of_does d rfl rfl, hd⟩

end Frames

/-! ## VENT_LOST formed again (R79, R80) -/

/-- R79: is VENT_LOST formed, in RUNNING and EDITING? -/
def ventTracked (s : State) : Prop := running s = true ∨ s.cfg.state = .editing

theorem ventTracked_congr {s t : State} (h : t.cfg = s.cfg) : ventTracked t ↔ ventTracked s := by
  rw [ventTracked, ventTracked, running, running, h]

/-- VENT_LOST of zone `z` takes its value, and the arrival at guidance follows. -/
def putVentLost (z : Nat) (s : State) : State :=
  { s with fan := { s.fan with ventLost := s.fan.ventLost.put z (deriveVentLost s z) } }

/-- R79: VENT_LOST of a zone that is not tracked stands, and one that already has its value stands. -/
theorem formVentLost_cases (z : Nat) (s : State) :
    (formVentLost z s = s ∧ (ventTracked s → zonePresent s.cfg.inForce z = true → VentAt s z)) ∨
    formVentLost z s = guideZone z (post (.ventLost z (deriveVentLost s z)) (putVentLost z s)) := by
  dsimp only [formVentLost]
  split
  · split
    · rename_i hv
      exact .inl ⟨rfl, fun _ _ => hv⟩
    · exact .inr rfl
  · rename_i hn
    refine .inl ⟨rfl, fun ht hz => absurd ?_ hn⟩
    rcases ht with ht | ht <;> simp [ht, hz]

/-- R79: what VENT_LOST is formed from does not look at VENT_LOST. -/
theorem deriveVentLost_putVentLost (z y : Nat) (s : State) : deriveVentLost (putVentLost z s) y = deriveVentLost s y :=
  deriveVentLost_congr rfl rfl rfl fun _ _ => Iff.rfl

theorem ventAt_putVentLost {z y : Nat} {s : State} (hy : y < 16) (h : y = z ∨ VentAt s y) : VentAt (putVentLost z s) y := by
  rw [VentAt, deriveVentLost_putVentLost]
  change (s.fan.ventLost.put z (deriveVentLost s z)).nth y = _
  rw [Tab.nth_put]
  split
  · rename_i e
    rw [e.1]
  · rename_i hn
    exact h.resolve_left fun e => hn ⟨e, e ▸ hy⟩

/-- R79: after it, zone `z` has its VENT_LOST, and every other zone that had it keeps it. -/
theorem ventAt_formVentLost {z y : Nat} {s : State} (ht : ventTracked s) (hy : zonePresent s.cfg.inForce y = true)
    (h : y = z ∨ VentAt s y) : VentAt (formVentLost z s) y := by
  rcases formVentLost_cases z s with ⟨e, hz⟩ | e <;> rw [e]
  · rcases h with rfl | h
    · exact hz ht hy
    · exact h
  · have hd : Does [.guide, .slots, .notices] (putVentLost z s)
        (guideZone z (post (.ventLost z (deriveVentLost s z)) (putVentLost z s))) :=
      ((does_post _ _).mono rfl).trans (does_guideZone z _)
    have hc := hd.cfg rfl
    exact ventAt_congr (by rw [hc]) (by rw [hc]) (hd.fan rfl) (ventAt_putVentLost (zonePresent_lt hy) h)

theorem statusLaw_formVentLost (z : Nat) {s : State} (l : StatusLaw s) : StatusLaw (formVentLost z s) := by
  rcases formVentLost_cases z s with ⟨e, -⟩ | e <;> rw [e]
  · exact l
  · refine statusLaw_arrival (s := s) rfl rfl (fun y hy k => ?_) l
    have hq := quiet_post (.ventLost z (deriveVentLost s z)) (putVentLost z s)
    rw [StatusAt, hq.status, hq.toSameInputs.deriveStatus]
    refine k.trans (deriveStatus_congr (s := putVentLost z s) rfl rfl ?_ rfl rfl)
    change _ = (s.fan.ventLost.put z _).nth y
    rw [Tab.nth_put, if_neg (fun e => hy e.1)]

theorem formVentLost_cfg (z : Nat) (s : State) : (formVentLost z s).cfg = s.cfg := (does_formVentLost z s).cfg rfl

theorem keepsZones_formVentLost (z : Nat) (s : State) : KeepsZones s (formVentLost z s) :=
  .of_fan (does_formVentLost z s) rfl (statusLaw_formVentLost z) fun l ht y hy => by
    have hc := formVentLost_cfg z s
    have ht' : ventTracked s := (ventTracked_congr hc).mp ht
    rw [hc] at hy
    exact ventAt_formVentLost ht' hy (.inr (l ht' y hy))

/-- R79: after VENT_LOST of some zones is formed, they all have it. -/
theorem ventAt_foldl_formVentLost {zs : List Nat} {y : Nat} {s : State} (ht : ventTracked s)
    (hy : zonePresent s.cfg.inForce y = true) (h : y ∈ zs ∨ VentAt s y) :
    VentAt (zs.foldl (fun t z => formVentLost z t) s) y := by
  induction zs generalizing s with
  | nil => simpa using h
  | cons z zs ih =>
    have hc := formVentLost_cfg z s
    refine ih ((ventTracked_congr hc).mpr ht) (by rw [hc]; exact hy) ?_
    rw [List.mem_cons] at h
    by_cases hm : y ∈ zs
    · exact .inl hm
    · exact .inr (ventAt_formVentLost ht hy (h.elim (fun e => e.imp id fun k => absurd k hm) .inr))

theorem formVentLosts_cfg (s : State) : (formVentLosts s).cfg = s.cfg := (does_formVentLosts s).cfg rfl

/-- R64, R79: after VENT_LOST of every present zone is formed, every one of them has it. -/
theorem ventLaw_formVentLosts (s : State) : VentLaw (formVentLosts s) := by
  intro ht y hy
  have hc := formVentLosts_cfg s
  rw [hc] at hy
  exact ventAt_foldl_formVentLost ((ventTracked_congr hc).mp ht) hy (.inl (mem_presentZones.mpr hy))

theorem keepsZones_formVentLosts (s : State) : KeepsZones s (formVentLosts s) :=
  .foldl _ (fun t z => keepsZones_formVentLost z t) _ s

/-! ## Channels (R67, R77, R79) -/

/-- A channel whose new state is FAULT exactly when its old one is leaves VENT_LOST; it leaves it in any case to the zones
that do not own the fan. -/
theorem ventAt_setChannel {n z : Nat} {x : Channel} {s : State}
    (h : (s.cfg.inForce.fans.nth n).owner = z → (x.state = .fault ↔ (s.fan.channels.nth n).state = .fault))
    (k : VentAt s z) : VentAt (setChannel n x s) z := by
  rw [VentAt, deriveVentLost_congr (s := s) (t := setChannel n x s) rfl rfl rfl fun m hm => ?_]
  · exact k
  · change (Channel.state ((s.fan.channels.put n x).nth m) = _ ↔ _)
    rw [Tab.nth_put]
    split
    · rename_i e
      rw [e.1] at hm ⊢
      exact h hm
    · rfl

theorem statusLaw_setChannel {n : Nat} {x : Channel} {s : State} : StatusLaw s → StatusLaw (setChannel n x s) :=
  statusLaw_congr rfl rfl fun _ _ k => k

theorem keepsZones_setChannel {n : Nat} {x : Channel} {s : State}
    (h : x.state = .fault ↔ (s.fan.channels.nth n).state = .fault) : KeepsZones s (setChannel n x s) :=
  .of_fan (does_setChannel s n x) rfl statusLaw_setChannel
    (ventLaw_congr rfl rfl fun _ _ => ventAt_setChannel fun _ => h)

/-- R77, R79: a channel takes its new record. -/
theorem keepsZones_takeChannel (n : Nat) (x : Channel) (s : State) : KeepsZones s (takeChannel n x s) := by
  have hn := quiet_post (fanNotice n x) (setChannel n x s)
  dsimp only [takeChannel]
  refine .ite (fun e => keepsZones_setChannel (by rw [e])) (fun _ => .ite (fun hf => ?_) (fun hf => ?_))
  · have hd : Does fanBlocks s (formVentLost (s.cfg.inForce.fans.nth n).owner (post (fanNotice n x) (setChannel n x s))) :=
      ((does_setChannel s n x).mono rfl).trans (((does_post _ _).mono rfl).trans ((does_formVentLost _ _).mono rfl))
    refine .of_fan hd rfl (fun l => statusLaw_formVentLost _ (hn.statusLaw (statusLaw_setChannel l))) fun l ht y hy => ?_
    have hc : (post (fanNotice n x) (setChannel n x s)).cfg = s.cfg := (does_post _ _).cfg rfl
    have ht' : ventTracked s := (ventTracked_congr (hd.cfg rfl)).mp ht
    rw [hd.cfg rfl] at hy
    refine ventAt_formVentLost ((ventTracked_congr hc).mpr ht') (by rw [hc]; exact hy) ?_
    by_cases e : y = (s.cfg.inForce.fans.nth n).owner
    · exact .inl e
    · refine .inr (ventAt_congr (s := setChannel n x s) ?_ ?_ ((does_post _ _).fan rfl)
        (ventAt_setChannel (fun h => absurd h.symm e) (l ht' y hy)))
      · rw [hc]
        rfl
      · rw [hc]
        rfl
  · exact (keepsZones_setChannel (by tauto)).quiet hn

theorem keepsZones_fanTap (n : Nat) (rdy : Bool) (s : State) : KeepsZones s (fanTap n rdy s) := by
  dsimp only [fanTap]
  exact .ite (fun _ => keepsZones_takeChannel n _ s) (fun _ => Quiet.keeps (quiet_setChannel rfl))

theorem keepsZones_fansT4 (rdy : BitVec 12) (s : State) : KeepsZones s (fansT4 rdy s) := by
  have h : KeepsZones s ((List.range 12).foldl (fun u n => fanTap n (rdy.getLsbD n) u) s) :=
    .foldl _ (fun t n => keepsZones_fanTap n _ t) _ s
  exact .ite (fun _ => h.quiet (.foldl _ (fun t n => quiet_testBelow n t) _ _)) (fun _ => h)

/-- R64, R147: a change of the override stack reaches the fan drive. -/
theorem keepsZones_fanStack (s : State) : KeepsZones s (fanStack s) := by
  dsimp only [fanStack]
  refine .ite (fun hp => ?_) (fun _ => ?_)
  · have hs : Quiet s { s with fan := { s.fan with channels := Tab.build 12 (fun n =>
        { s.fan.channels.nth n with force := effectiveForce s.ovr.stack n }) } } :=
      quiet_channels fun n hn => by rw [Tab.nth_build, if_pos hn]
    exact (hs.trans { profile := hp }).keeps
  · exact .of_fan (((does_fan s _).mono rfl).trans ((does_formVentLosts _).mono (bs := [.fan, .guide, .slots, .notices]) rfl)) rfl
      (fun l => (keepsZones_formVentLosts _).status (statusLaw_congr (s := s) rfl rfl (fun _ _ k => k) l))
      (fun _ => ventLaw_formVentLosts _)

/-! ## DARK formed again (R102) -/

/-- The dark count and DARK of zone `z` take their values. -/
def putDark (z : Nat) (s : State) : State :=
  { s with light := { s.light with
    darkCount := s.light.darkCount.put z (deriveDarkCount s z)
    dark := s.light.dark.put z (deriveDarkCount s z > (s.cfg.inForce.zones.nth z).darkLimit) } }

theorem formDark_cases (z : Nat) (s : State) :
    (formDark z s = s ∧ ¬(running s = true ∧ zonePresent s.cfg.inForce z = true)) ∨
    (formDark z s = putDark z s ∧ s.light.dark.nth z = decide (deriveDarkCount s z > (s.cfg.inForce.zones.nth z).darkLimit)) ∨
    ∃ d, formDark z s = guideZone z (post (.zoneDark z d) (putDark z s)) := by
  dsimp only [formDark]
  split
  · split
    · rename_i h
      exact .inr (.inl ⟨rfl, h⟩)
    · exact .inr (.inr ⟨_, rfl⟩)
  · rename_i h
    exact .inl ⟨rfl, by rw [← Bool.and_eq_true]; exact h⟩

theorem darkAt_putDark {z y : Nat} {s : State} (hy : y < 16) (h : y = z ∨ DarkAt s y) : DarkAt (putDark z s) y := by
  have hd : deriveDarkCount (putDark z s) y = deriveDarkCount s y := deriveDarkCount_congr rfl fun _ _ _ => rfl
  rw [DarkAt, hd]
  change (s.light.darkCount.put z _).nth y = _ ∧ ((s.light.dark.put z _).nth y = true ↔ _)
  rw [Tab.nth_put, Tab.nth_put]
  by_cases e : y = z
  · rw [if_pos ⟨e, e ▸ hy⟩, if_pos ⟨e, e ▸ hy⟩, e, decide_eq_true_iff]
    exact ⟨rfl, Iff.rfl⟩
  · rw [if_neg (fun k => e k.1), if_neg (fun k => e k.1)]
    exact h.resolve_left e

/-- R102: after it, zone `z` has its dark count and DARK, and every other zone that had them keeps them. -/
theorem darkAt_formDark {z y : Nat} {s : State} (hr : running s = true) (hy : zonePresent s.cfg.inForce y = true)
    (h : y = z ∨ DarkAt s y) : DarkAt (formDark z s) y := by
  rcases formDark_cases z s with ⟨e, hn⟩ | ⟨e, -⟩ | ⟨n, e⟩ <;> rw [e]
  · exact h.resolve_left fun k => hn ⟨hr, by rw [← k]; exact hy⟩
  · exact darkAt_putDark (zonePresent_lt hy) h
  · have hd : Does [.guide, .slots, .notices] (putDark z s) (guideZone z (post (.zoneDark z n) (putDark z s))) :=
      ((does_post _ _).mono rfl).trans (does_guideZone z _)
    exact darkAt_congr (by rw [hd.cfg rfl]) (hd.light rfl) (darkAt_putDark (zonePresent_lt hy) h)

theorem statusLaw_formDark (z : Nat) {s : State} (l : StatusLaw s) : StatusLaw (formDark z s) := by
  rcases formDark_cases z s with ⟨e, -⟩ | ⟨e, hd⟩ | ⟨n, e⟩ <;> rw [e]
  · exact l
  · refine statusLaw_congr (s := s) rfl rfl (fun y _ k => k.trans (deriveStatus_congr (s := putDark z s) rfl rfl rfl ?_ rfl)) l
    change _ = (s.light.dark.put z _).nth y
    rw [Tab.nth_put]
    split
    · rename_i e
      rw [e.1, hd]
    · rfl
  · refine statusLaw_arrival (s := s) rfl rfl (fun y hy k => ?_) l
    have hq := quiet_post (.zoneDark z n) (putDark z s)
    rw [StatusAt, hq.status, hq.toSameInputs.deriveStatus]
    refine k.trans (deriveStatus_congr (s := putDark z s) rfl rfl rfl ?_ rfl)
    change _ = (s.light.dark.put z _).nth y
    rw [Tab.nth_put, if_neg (fun e => hy e.1)]

/-- A group's new state leaves DARK to the zones that do not have the group. -/
theorem darkAt_setGroup {g z : Nat} {x : Group} {s : State} (h : (s.cfg.inForce.groups.nth g).zone ≠ z)
    (k : DarkAt s z) : DarkAt (setGroup g x s) z := by
  rw [DarkAt, deriveDarkCount_congr (s := s) (t := setGroup g x s) rfl fun m _ hm => ?_]
  · exact k
  · rw [setGroup_light, Tab.nth_put, if_neg]
    rintro ⟨rfl, -⟩
    exact h hm

/-- R101, R102: a group takes its state. -/
theorem keepsZones_setGroupState (g : Nat) (st : GroupState) (s : State) : KeepsZones s (setGroupState g st s) := by
  refine .of_light (does_setGroupState g st s) rfl ?_ ?_ <;> dsimp only [setGroupState] <;> split
  · exact id
  · exact fun l => statusLaw_formDark _ ((quiet_post _ _).statusLaw (statusLaw_congr (s := s) rfl rfl (fun _ _ k => k) l))
  · exact id
  · intro l
    rw [darkLaw_iff]
    have hd : Does [.light, .guide, .slots, .notices] s (formDark (s.cfg.inForce.groups.nth g).zone
        (post (.groupState g st) (setGroup g { s.light.groups.nth g with state := st } s))) :=
      ((does_setGroup s g _).mono rfl).trans (((does_post _ _).mono rfl).trans (does_formDark _ _))
    rw [hd.running rfl, hd.cfg rfl]
    intro hr z hz
    have hp := does_post (.groupState g st) (setGroup g { s.light.groups.nth g with state := st } s)
    refine darkAt_formDark ((hp.running rfl).trans hr) (by rw [hp.cfg rfl]; exact hz) ?_
    by_cases e : z = (s.cfg.inForce.groups.nth g).zone
    · exact .inl e
    · refine .inr (darkAt_congr (s := setGroup g _ s) (by rw [hp.cfg rfl]) (hp.light rfl) ?_)
      exact darkAt_setGroup (fun k => e k.symm) (l hr z hz)

theorem keepsZones_groupSent (g : Nat) (v : Drive) (s : State) : KeepsZones s (groupSent g v s) := by
  have h : ∀ x : Group, x.state = (s.light.groups.nth g).state → KeepsZones s (if x.state = .noResponse
      then setGroupState g .ok (setGroup g x s) else setGroup g x s) := fun x hx =>
    .ite (fun _ => (quiet_setGroup hx).keeps.trans (keepsZones_setGroupState g _ _)) (fun _ => (quiet_setGroup hx).keeps)
  have k := h { s.light.groups.nth g with sent := some v } rfl
  dsimp only [groupSent]
  exact .ite (fun _ => k.quiet (quiet_note (.group g) _ _)) (fun _ => k)

end Sys2Proof.Machine
end

section
/-! SUPPORT. The changes of the override stack and their announcement (R141, R147): floors and demands (R47, R48) and the
guidance statuses (R119) are formed afresh, and the other laws of the zones are kept. -/

namespace Sys2Proof.Machine

/-! ## The announcement (R147) -/

/-- R47, R48: what a change of the override stack makes of the air record of a present zone. -/
theorem airStack_zone {s : State} {z : Nat} (hr : running s = true) (hz : zonePresent s.cfg.inForce z = true) :
    (airStack s).air.zones.nth z =
      { s.air.zones.nth z with
        floor := ventFloor s.ovr.stack z
        demand := demandOf (s.cfg.inForce.zones.nth z).fallbackDemand
          { s.air.zones.nth z with floor := ventFloor s.ovr.stack z } } := by
  change (Tab.build 16 _).nth z = _
  rw [Tab.nth_build, if_pos (zonePresent_lt hz), if_pos hz, if_pos hr]

theorem demandLaw_airStack (s : State) : DemandLaw (airStack s) := by
  rw [demandLaw_iff]
  intro hr z hz
  rw [DemandAt, airStack_zone (s := s) hr hz]
  exact ⟨rfl, rfl⟩

/-- R44: a record with a new floor, and perhaps the demand formed with it. -/
theorem zoneAirLaw_floor {x : ZoneAir} {n d : Nat} (l : ZoneAirLaw x) (hn : n ≤ 1000) (hd : d ≤ 1000) :
    ZoneAirLaw { x with floor := n, demand := d } :=
  ⟨l.e, l.s, l.l, l.twa, l.z, l.lastD, hn, hd, l.ring⟩

theorem airSound_airStack {s : State} (l : AirSound s) : AirSound (airStack s) where
  cfg := ⟨l.cfg.inForce, l.cfg.working⟩
  values := l.values
  air := by
    refine ⟨fun z hz => ?_, l.air.sensors⟩
    have hx := l.air.zones z hz
    have hf := ventFloor_le l.values z
    change ZoneAirLaw ((Tab.build 16 _).nth z)
    rw [Tab.nth_build, if_pos hz]
    dsimp only
    split
    · rename_i hp
      split
      · exact zoneAirLaw_floor hx hf (demandOf_le (l.cfg.inForce.demands z (zonePresent_pos hp) hz) hx.lastD hf)
      · exact zoneAirLaw_floor hx hf hx.demand
    · exact hx

theorem statusLaw_guideStack (s : State) : StatusLaw (guideStack s) :=
  statusLaw_guideArrival fun _ _ hz hn => absurd (mem_zoneIndices_of_present hz) hn

theorem quiet_lightStack (s : State) : Quiet s (lightStack s) := quiet_formGroups _ s

theorem quiet_formSounder (s : State) : Quiet s (formSounder s) := {}

/-- R47, R48, R119: after the announcement, floors, demands and statuses are those their inputs give, whatever they were. -/
theorem formed_announceStack (s : State) : DemandLaw (announceStack s) ∧ StatusLaw (announceStack s) := by
  have h := keepsZones_guideArrival zoneIndices (fun _ => false) (lightStack (airStack (fanStack s)))
  have k := (quiet_formSounder (guideStack (lightStack (airStack (fanStack s))))).keeps
  exact ⟨k.demand (h.demand ((quiet_lightStack _).keeps.demand (demandLaw_airStack _))), k.status (statusLaw_guideStack _)⟩

/-- R147: the announcement keeps the ranges of the air values, VENT_LOST and DARK. -/
theorem kept_announceStack (s : State) : (AirSound s → AirSound (announceStack s)) ∧
    (VentLaw s → VentLaw (announceStack s)) ∧ (DarkLaw s → DarkLaw (announceStack s)) := by
  have h : KeepsZones (airStack (fanStack s)) (announceStack s) :=
    (quiet_lightStack _).keeps.trans ((keepsZones_guideArrival zoneIndices (fun _ => false) _).quiet (quiet_formSounder _))
  have k := keepsZones_fanStack s
  have d := does_airStack (fanStack s)
  exact ⟨h.air ∘ airSound_airStack ∘ k.air, h.vent ∘ ventLaw_of_does d rfl rfl ∘ k.vent,
    h.dark ∘ darkLaw_of_does d rfl rfl ∘ k.dark⟩

/-! ## Pushes and removals (R141) -/

/-- R44, R140: a stack whose values are within their range. -/
theorem airSound_setStack {l : List Entry} {s : State} (hl : ∀ e ∈ l, e.value ≤ 1000) (h : AirSound s) :
    AirSound (setStack l s) := ⟨⟨h.cfg.inForce, h.cfg.working⟩, hl, ⟨h.air.zones, h.air.sensors⟩⟩

/-- R147: a new stack, announced. -/
theorem keepsZones_restack {l : List Entry} {s : State}
    (hl : (∀ e ∈ s.ovr.stack, e.value ≤ 1000) → ∀ e ∈ l, e.value ≤ 1000) : KeepsZones s (announceStack (setStack l s)) := by
  have d := does_setStack s l
  obtain ⟨ha, hv, hd⟩ := kept_announceStack (setStack l s)
  obtain ⟨hm, hs⟩ := formed_announceStack (setStack l s)
  exact ⟨fun h => ha (airSound_setStack (hl h.values) h), fun _ => hm, fun _ => hs,
    hv ∘ ventLaw_of_does d rfl rfl, hd ∘ darkLaw_of_does d rfl rfl⟩

theorem values_filter {l : List Entry} {b : Nat} (p : Entry → Bool) (h : ∀ e ∈ l, e.value ≤ b) :
    ∀ e ∈ l.filter p, e.value ≤ b := fun e he => h e (List.mem_filter.mp he).1

theorem values_snoc {l : List Entry} {x : Entry} {b : Nat} (hx : x.value ≤ b) (h : ∀ e ∈ l, e.value ≤ b) :
    ∀ e ∈ l ++ [x], e.value ≤ b := by
  simp only [List.mem_append, List.mem_singleton]
  rintro e (he | rfl)
  · exact h e he
  · exact hx

/-- R140: the value of an entry is at most 1000, whatever its kind. -/
theorem takeValue_le (k : OverrideKind) (v : Nat) : takeValue k v ≤ 1000 := by
  cases k <;> simp only [takeValue, valueLimit, clamp] <;> omega

theorem keepsZones_pushEntry {e : Entry} {s : State} (he : e.value ≤ 1000) : KeepsZones s (pushEntry e s) :=
  keepsZones_restack (values_snoc he)

theorem quiet_setKey (k : Nat) (x : Key) (s : State) : Quiet s (setKey k x s) := {}

theorem keepsZones_keyPush (k : Nat) (s : State) : KeepsZones s (keyPush k s) := by
  dsimp only [keyPush]
  split
  · exact .refl s
  · exact (quiet_setKey k _ s).keeps.trans (keepsZones_restack (values_snoc (takeValue_le _ _)))

theorem keepsZones_pendingPush (k : Nat) (s : State) : KeepsZones s (pendingPush k s) := by
  dsimp only [pendingPush]
  exact .ite (fun _ => (keepsZones_keyPush k s).quiet (quiet_post _ _)) (fun _ => .refl s)

theorem keepsZones_pendingPushes (s : State) : KeepsZones s (pendingPushes s) :=
  (keepsZones_pendingPush 0 s).trans (keepsZones_pendingPush 1 _)

theorem keepsZones_removeEntries (p : Entry → Bool) (s : State) : KeepsZones s (removeEntries p s) :=
  (keepsZones_restack (values_filter _)).trans (keepsZones_pendingPushes _)

/-! ## Key inputs (R149 to R151) -/

theorem keepsZones_keyAct (k : Nat) (s : State) : KeepsZones s (keyAct k s) := by
  dsimp only [keyAct]
  refine .ite (fun _ => (quiet_setKey k _ s).keeps.trans (keepsZones_keyPush k _)) (fun _ => Quiet.keeps ?_)
  exact ((quiet_setKey k _ s).trans (quiet_setKey k _ _)).trans (quiet_post _ _)

theorem keepsZones_keyRelease (k : Nat) (s : State) : KeepsZones s (keyRelease k s) := by
  have h := (quiet_setKey k ⟨false, 0, .released⟩ s).keeps
  dsimp only [keyRelease]
  split
  · exact h.trans (keepsZones_removeEntries _ _)
  · exact h.quiet (quiet_post _ _)
  · exact h
  · exact h

theorem keepsZones_keyTapActive (k : Nat) (s : State) : KeepsZones s (keyTapActive k s) := by
  have h := fun x => (quiet_setKey k x s).keeps
  dsimp only [keyTapActive]
  refine .ite (fun _ => h _) (fun _ => .ite (fun _ => ?_) (fun _ => h _))
  exact .ite (fun _ => (h _).trans (keepsZones_keyAct k _)) (fun _ => (h _).quiet (quiet_setKey k _ _))

theorem keepsZones_keyTap (k : Nat) (active : Bool) (s : State) : KeepsZones s (keyTap k active s) :=
  .ite (fun _ => keepsZones_keyTapActive k s) (fun _ => keepsZones_keyRelease k s)

/-! ## Expiry (R146) and the cancelling of mutes (R153) -/

theorem keepsZones_expireEntries (s : State) : KeepsZones s (expireEntries s) := by
  dsimp only [expireEntries]
  exact .ite (fun _ => .refl s) (fun _ => (quiet_postAll _ s).keeps.trans (keepsZones_removeEntries _ _))

/-- A change of the remaining times only leaves every floor and every scope. -/
theorem ventFloor_map {f : Entry → Entry} (hk : ∀ e, (f e).kind = e.kind) (hs : ∀ e, (f e).scope = e.scope)
    (hv : ∀ e, (f e).value = e.value) (l : List Entry) (z : Nat) : ventFloor (l.map f) z = ventFloor l z := by
  have hc : (fun e => Entry.coversZone e .ventBoost z) ∘ f = fun e => Entry.coversZone e .ventBoost z := by
    funext e
    simp only [Function.comp, Entry.coversZone, hk, hs]
  simp only [ventFloor, List.filter_map, List.foldl_map, hc, hv]

/-- R146: the remaining times move; no kind, scope or value does. -/
theorem keepsZones_mapStack {f : Entry → Entry} (hk : ∀ e, (f e).kind = e.kind) (hs : ∀ e, (f e).scope = e.scope)
    (hv : ∀ e, (f e).value = e.value) (s : State) : KeepsZones s (setStack (s.ovr.stack.map f) s) where
  air h := airSound_setStack (by
    intro e he
    obtain ⟨x, hx, rfl⟩ := List.mem_map.mp he
    rw [hv]
    exact h.values x hx) h
  demand := demandLaw_congr rfl rfl fun z _ => demandAt_congr rfl (ventFloor_map hk hs hv _ z) rfl rfl rfl rfl rfl
  status := statusLaw_congr rfl rfl fun z _ k => k.trans (deriveStatus_congr (by
    change s.ovr.stack.any _ = (s.ovr.stack.map f).any _
    simp only [List.any_map, Function.comp_def, Entry.coversZone, hk, hs]) rfl rfl rfl rfl)
  vent := ventLaw_of_does (does_setStack s _) rfl rfl
  dark := darkLaw_of_does (does_setStack s _) rfl rfl

theorem keepsZones_stackT1 (s : State) : KeepsZones s (stackT1 s) :=
  (keepsZones_mapStack (f := Entry.tick) (fun _ => rfl) (fun _ => rfl) (fun _ => rfl) s).trans (keepsZones_expireEntries _)

theorem keepsZones_cancelMutes (s : State) : KeepsZones s (cancelMutes s) := by
  have h : ∀ ns ids, KeepsZones s (spendKey ids 1 (spendKey ids 0 (postAll ns s))) := fun ns ids =>
    (((quiet_postAll ns s).trans (quiet_spendKey ids 0 _)).trans (quiet_spendKey ids 1 _)).keeps
  dsimp only [cancelMutes]
  exact .ite (fun _ => h _ _) (fun _ => (h _ _).trans (keepsZones_removeEntries _ _))

end Sys2Proof.Machine
end

section
/-! SUPPORT. What the zone stage makes of the values of a zone's air record (R39 to R44, R46, R50 to R53), and the ranges that
it keeps. -/

namespace Sys2Proof.Machine

/-! ## The zone stage, value by value -/

/-- R40 step 1: the advance of the ring changes the ring and its index only. -/
theorem advanceRing_eq (x : ZoneAir) :
    advanceRing x = { x with index := (advanceRing x).index, ring := (advanceRing x).ring } := by
  unfold advanceRing
  split <;> rfl

/-- R43: the credit after a sample numbered `n`. -/
def creditAfter (n e : Nat) : Nat := if n % 4 = 0 then e - (e + 7) / 8 else e

/-- R40: the record after the ring step of a sample with the contributors `fs`. -/
def ringed (fs : List Filtered) (x : ZoneAir) : ZoneAir :=
  { advanceRing x with sample := (x.sample + 1) % 64, contributors := fs.length, e := creditAfter x.sample x.e }

/-- R39: the largest short and long index of the contributors. -/
def largestShort (fs : List Filtered) : Nat := fs.foldl (fun m f => max m f.short) 0
def largestLong (fs : List Filtered) : Nat := fs.foldl (fun m f => max m f.long) 0

/-- R41: the time-weighted average of a sample. -/
def sampleTwa (fs : List Filtered) (x : ZoneAir) : Nat := twaOf (addDose (largestLong fs) (ringed fs x)) (largestLong fs)

/-- R44: Z of a sample. -/
def sampleZ (fs : List Filtered) (x : ZoneAir) : Nat :=
  min 2000 (max (largestShort fs) (sampleTwa fs x) + creditAfter x.sample x.e)

theorem advanceRing_e (x : ZoneAir) : (advanceRing x).e = x.e := by rw [advanceRing_eq]

theorem formIndices_nil (p : Params) (x : ZoneAir) : formIndices p [] x = ringed [] x := by
  by_cases h : x.sample % 4 = 0 <;> simp [formIndices, ringed, creditAfter, decay, h, advanceRing_e]

theorem formIndices_of_ne_nil (p : Params) {fs : List Filtered} (h : fs ≠ []) (x : ZoneAir) :
    formIndices p fs x =
      { addDose (largestLong fs) (ringed fs x) with
        s := largestShort fs
        l := largestLong fs
        twa := sampleTwa fs x
        z := sampleZ fs x
        lastD := curveDemand p (sampleZ fs x) } := by
  have he : fs.isEmpty = false := by simpa using h
  by_cases h4 : x.sample % 4 = 0 <;>
    simp [formIndices, ringed, creditAfter, decay, h4, he, advanceRing_e, addDose, sampleZ, sampleTwa, largestShort,
      largestLong, twaOf, ringSum, ringCount]

section Fields

variable (p : Params) (fallback : Nat) (fs : List Filtered) (x : ZoneAir)

/-- R43: the credit of a zone decays at every sample numbered a multiple of 4, with or without a contributor. -/
theorem zoneStage_e : (zoneStage p fallback fs x).e = creditAfter x.sample x.e := by
  change (formIndices p fs x).e = _
  by_cases h : fs = []
  · rw [h, formIndices_nil]
    rfl
  · rw [formIndices_of_ne_nil p h]
    rfl

/-- R47: the zone stage leaves the floor. -/
theorem zoneStage_floor : (zoneStage p fallback fs x).floor = x.floor := by
  change (formIndices p fs x).floor = _
  by_cases h : fs = []
  · rw [h, formIndices_nil, ringed, advanceRing_eq]
  · rw [formIndices_of_ne_nil p h, addDose, ringed, advanceRing_eq]

theorem formIndices_contributors : (formIndices p fs x).contributors = fs.length := by
  by_cases h : fs = []
  · rw [h, formIndices_nil, ringed]
  · rw [formIndices_of_ne_nil p h, addDose, ringed]

theorem formIndices_state : (formIndices p fs x).state = x.state := by
  by_cases h : fs = []
  · rw [h, formIndices_nil, ringed, advanceRing_eq]
  · rw [formIndices_of_ne_nil p h, addDose, ringed, advanceRing_eq]

theorem formIndices_hold : (formIndices p fs x).hold = x.hold := by
  by_cases h : fs = []
  · rw [h, formIndices_nil, ringed, advanceRing_eq]
  · rw [formIndices_of_ne_nil p h, addDose, ringed, advanceRing_eq]

/-- R41: without a contributor a zone keeps its Z. -/
theorem zoneStage_z_nil : (zoneStage p fallback [] x).z = x.z := by
  change (formIndices p [] x).z = _
  rw [formIndices_nil, ringed, advanceRing_eq]

end Fields

section Contributors

variable (p : Params) (fallback : Nat) {fs : List Filtered} (h : fs ≠ []) (x : ZoneAir)
include h

theorem zoneStage_z : (zoneStage p fallback fs x).z = sampleZ fs x := by
  change (formIndices p fs x).z = _
  rw [formIndices_of_ne_nil p h]

theorem zoneStage_s : (zoneStage p fallback fs x).s = largestShort fs := by
  change (formIndices p fs x).s = _
  rw [formIndices_of_ne_nil p h]

theorem zoneStage_twa : (zoneStage p fallback fs x).twa = sampleTwa fs x := by
  change (formIndices p fs x).twa = _
  rw [formIndices_of_ne_nil p h]

/-- R46: the last D of a zone with a contributor is the demand curve at its Z. -/
theorem zoneStage_lastD : (zoneStage p fallback fs x).lastD = curveDemand p (zoneStage p fallback fs x).z := by
  rw [zoneStage_z p fallback h x]
  change (formIndices p fs x).lastD = _
  rw [formIndices_of_ne_nil p h]

end Contributors

/-! ## The ranges (R38, R41, R44, R46) -/

/-- R41: buckets that hold at most 2000 for each sample sum to at most 2000 for each sample. -/
theorem foldl_buckets_le (l : List Bucket) (h : ∀ b ∈ l, b.sum ≤ 2000 * b.count) {m k : Nat} (hm : m ≤ 2000 * k) :
    l.foldl (fun n b => n + b.sum) m ≤ 2000 * l.foldl (fun n b => n + b.count) k := by
  induction l generalizing m k with
  | nil => exact hm
  | cons b l ih =>
    have hb := h b (by simp)
    exact ih (fun c hc => h c (by simp [hc])) (show m + b.sum ≤ 2000 * (k + b.count) by omega)

theorem ringSum_le {x : ZoneAir} (h : ∀ i, i < 16 → (x.ring.nth i).sum ≤ 2000 * (x.ring.nth i).count) :
    ringSum x ≤ 2000 * ringCount x := by
  refine foldl_buckets_le _ (fun b hb => ?_) (Nat.le_refl _)
  rw [list_eq_map_nth] at hb
  obtain ⟨i, hi, rfl⟩ := List.mem_map.mp hb
  exact h i (List.mem_range.mp hi)

theorem twaOf_le {x : ZoneAir} {l : Nat} (h : ∀ i, i < 16 → (x.ring.nth i).sum ≤ 2000 * (x.ring.nth i).count)
    (hl : l ≤ 2000) : twaOf x l ≤ 2000 := by
  unfold twaOf
  split
  · exact Nat.div_le_of_le_mul (by rw [Nat.mul_comm]; exact ringSum_le h)
  · exact hl

/-- R46: between two points of the curve the demand lies between their values. -/
theorem segment_le (d n : Nat) : d * (n % 125) / 125 ≤ d :=
  Nat.div_le_of_le_mul (by
    rw [Nat.mul_comm]
    exact Nat.mul_le_mul_right d (Nat.mod_lt n (by decide)).le)

theorem sub_mul_div (z : Nat) : z - 125 * (z / 125) = z % 125 := by omega

theorem curveDemand_le {p : Params} {z b : Nat} (hz : z ≤ 2000) (h : ∀ i, i < 17 → p.curve.nth i ≤ b) :
    curveDemand p z ≤ b := by
  have hi : z / 125 ≤ 16 := Nat.div_le_of_le_mul hz
  unfold curveDemand
  simp only [sub_mul_div]
  split
  · exact h 16 (by omega)
  · have h1 := h (z / 125) (by omega)
    have h2 := h (z / 125 + 1) (by omega)
    split
    · have := segment_le (p.curve.nth (z / 125 + 1) - p.curve.nth (z / 125)) z
      omega
    · omega

theorem creditAfter_le (n e : Nat) : creditAfter n e ≤ e := by
  unfold creditAfter
  split <;> omega

theorem ringLaw_advance {x : ZoneAir} (h : ∀ i, i < 16 → (x.ring.nth i).sum ≤ 2000 * (x.ring.nth i).count) :
    ∀ i, i < 16 → ((advanceRing x).ring.nth i).sum ≤ 2000 * ((advanceRing x).ring.nth i).count := by
  unfold advanceRing
  split
  · exact Tab.all_put (p := fun b : Bucket => b.sum ≤ 2000 * b.count) h (by simp)
  · exact h

theorem ringLaw_dose {x : ZoneAir} {l : Nat} (hl : l ≤ 2000)
    (h : ∀ i, i < 16 → (x.ring.nth i).sum ≤ 2000 * (x.ring.nth i).count) :
    ∀ i, i < 16 → ((addDose l x).ring.nth i).sum ≤ 2000 * ((addDose l x).ring.nth i).count := by
  refine Tab.all_put (p := fun b : Bucket => b.sum ≤ 2000 * b.count) h ?_
  have hx : (x.ring.nth x.index).sum ≤ 2000 * (x.ring.nth x.index).count := by
    by_cases hi : x.index < 16
    · exact h x.index hi
    · rw [Tab.nth_of_ge _ (by omega)]
      exact Nat.le_refl 0
  change (x.ring.nth x.index).sum + l ≤ 2000 * ((x.ring.nth x.index).count + 1)
  omega

theorem largest_le {fs : List Filtered} (h : ∀ f ∈ fs, f.short ≤ 2000 ∧ f.long ≤ 2000) :
    largestShort fs ≤ 2000 ∧ largestLong fs ≤ 2000 :=
  ⟨foldl_max_le Filtered.short (Nat.zero_le _) fun f hf => (h f hf).1,
    foldl_max_le Filtered.long (Nat.zero_le _) fun f hf => (h f hf).2⟩

/-- R44: the record after the ring step. -/
theorem zoneAirLaw_ringed {fs : List Filtered} {x : ZoneAir} (l : ZoneAirLaw x) : ZoneAirLaw (ringed fs x) := by
  have hr := ringLaw_advance l.ring
  have he := (creditAfter_le x.sample x.e).trans l.e
  rw [ringed, advanceRing_eq x]
  exact ⟨he, l.s, l.l, l.twa, l.z, l.lastD, l.floor, l.demand, hr⟩

theorem zoneAirLaw_formIndices {p : Params} {fs : List Filtered} {x : ZoneAir}
    (hc : ∀ i, i < 17 → p.curve.nth i ≤ 1000) (hf : ∀ f ∈ fs, f.short ≤ 2000 ∧ f.long ≤ 2000) (l : ZoneAirLaw x) :
    ZoneAirLaw (formIndices p fs x) := by
  have hr := zoneAirLaw_ringed (fs := fs) l
  by_cases h : fs = []
  · subst h
    rw [formIndices_nil]
    exact hr
  · obtain ⟨hs, hl⟩ := largest_le hf
    have hd := ringLaw_dose hl hr.ring
    have hz : sampleZ fs x ≤ 2000 := Nat.min_le_left _ _
    rw [formIndices_of_ne_nil p h]
    exact ⟨hr.e, hs, hl, twaOf_le hd hl, hz, curveDemand_le hz hc, hr.floor, hr.demand, hd⟩

/-- R44: the zone stage keeps the ranges of the air values. -/
theorem zoneAirLaw_zoneStage {p : Params} {fallback : Nat} {fs : List Filtered} {x : ZoneAir}
    (hc : ∀ i, i < 17 → p.curve.nth i ≤ 1000) (hb : fallback ≤ 1000)
    (hf : ∀ f ∈ fs, f.short ≤ 2000 ∧ f.long ≤ 2000) (l : ZoneAirLaw x) : ZoneAirLaw (zoneStage p fallback fs x) := by
  have h := zoneAirLaw_formIndices hc hf l
  exact ⟨h.e, h.s, h.l, h.twa, h.z, h.lastD, h.floor, demandOf_le hb h.lastD h.floor, h.ring⟩

end Sys2Proof.Machine
end

section
/-! SUPPORT. The operations of the occupancy unit, the air monitor and the loop unit keep the laws of the zones: free counts
(R15, R119), sensors and zone stages (R31 to R54), credits and passages (R42, R114, R116). -/

namespace Sys2Proof.Machine

/-! ## Occupancy unit -/

/-- The blocks that a change of the occupancy unit can change. -/
abbrev occBlocks : List Block := .occ :: .guide :: quietBlocks

theorem KeepsZones.of_occ {s t : State} {bs : List Block} (h : Does bs s t)
    (k : bs.all (fun b => occBlocks.contains b) = true) (hs : StatusLaw s → StatusLaw t) : KeepsZones s t :=
  have d := h.mono k
  ⟨airSound_of_does d rfl, demandLaw_of_does d rfl rfl rfl, hs, ventLaw_of_does d rfl rfl, darkLaw_of_does d rfl rfl⟩

theorem quiet_setBay (b : Nat) (x : Bay) (s : State) : Quiet s (setBay b x s) := {}

/-- R15: the count of one zone takes its step; those of the other zones stand. -/
theorem countFree_free_ne {zone kind z : Nat} {o n : BayState} {s : State} (h : z ≠ zone) :
    (countFree zone kind o n s).occ.free.nth z = s.occ.free.nth z := by
  unfold countFree
  split
  · exact (Tab.nth_modify _ _ _ _).trans (if_neg fun e => h e.1)
  · rfl

/-- R4, R14, R120: a bay's new state, its count and the arrival at guidance. -/
theorem keepsZones_rederive (b : Nat) (s : State) : KeepsZones s (rederive b s) := by
  refine .of_occ (does_rederive b s) rfl fun l => ?_
  dsimp only [rederive]
  split
  · exact l
  · dsimp only [guideBay]
    have hc := does_countFree (bayOf s b).zone (bayKind s b).ctorIdx (bayOf s b).state (bayStateOf (running s) (bayOf s b))
      (setBay b { bayOf s b with state := bayStateOf (running s) (bayOf s b) } s)
    split
    · refine (quiet_formLamp b _).statusLaw (statusLaw_arrival (s := s) (hc.running rfl) (by rw [hc.cfg rfl]; rfl) ?_ l)
      intro z hz k
      have hb : (bayOf (setBay b { bayOf s b with state := bayStateOf (running s) (bayOf s b) } s) b).zone =
          (bayOf s b).zone := by
        rw [bayOf_setBay]
        split <;> rfl
      rw [← bayOf, bayOf_countFree, hb] at hz
      rw [StatusAt, hc.guide rfl]
      exact k.trans (deriveStatus_congr (by rw [hc.ovr rfl]) (by rw [hc.air rfl]) (by rw [hc.fan rfl])
        (by rw [hc.light rfl]) (countFree_free_ne (s := setBay b _ s) hz)).symm
    · rename_i hr
      intro k
      exact absurd k hr

theorem keepsZones_setBay_rederive (b : Nat) (x : Bay) (s : State) : KeepsZones s (rederive b (setBay b x s)) :=
  (quiet_setBay b x s).keeps.trans (keepsZones_rederive b _)

theorem keepsZones_takeSensed (b : Nat) (d : Det) (s : State) : KeepsZones s (takeSensed b d s) := by
  dsimp only [takeSensed]
  exact .ite (fun _ => (keepsZones_setBay_rederive b _ s).quiet (quiet_post _ _)) (fun _ => keepsZones_setBay_rederive b _ s)

theorem keepsZones_loseSensed (b : Nat) (s : State) : KeepsZones s (loseSensed b s) := keepsZones_setBay_rederive b _ s

/-! ## Air records (R42 to R44) -/

/-- R44: one zone's air record written. -/
theorem airSound_setZoneAir {z : Nat} {x : ZoneAir} {s : State} (hx : z < 16 → ZoneAirLaw x) (l : AirSound s) :
    AirSound (setZoneAir z x s) where
  cfg := ⟨l.cfg.inForce, l.cfg.working⟩
  values := l.values
  air := by
    refine ⟨fun y hy => ?_, l.air.sensors⟩
    change ZoneAirLaw ((s.air.zones.put z x).nth y)
    rw [Tab.nth_put]
    split
    · rename_i e
      exact hx e.2
    · exact l.air.zones y hy

/-- R47, R48: one zone's air record written with the floor that it has and the demand that its values give. -/
theorem demandLaw_setZoneAir {z : Nat} {x : ZoneAir} {s : State}
    (h : running s = true → zonePresent s.cfg.inForce z = true → DemandAt s z → x.floor = (s.air.zones.nth z).floor ∧
      x.demand = demandOf (s.cfg.inForce.zones.nth z).fallbackDemand x) (l : DemandLaw s) : DemandLaw (setZoneAir z x s) := by
  rw [demandLaw_iff] at l ⊢
  intro hr y hy
  have k := l hr y hy
  rw [DemandAt]
  change ((s.air.zones.put z x).nth y).floor = _ ∧ ((s.air.zones.put z x).nth y).demand =
    demandOf _ ((s.air.zones.put z x).nth y)
  rw [Tab.nth_put]
  split
  · rename_i e
    obtain ⟨rfl, -⟩ := e
    obtain ⟨hf, hd⟩ := h hr hy k
    exact ⟨hf.trans k.1, hd⟩
  · exact k

/-- R119: an air state that stands leaves every status. -/
theorem statusLaw_setZoneAir {z : Nat} {x : ZoneAir} {s : State} (h : z < 16 → x.state = (s.air.zones.nth z).state) :
    StatusLaw s → StatusLaw (setZoneAir z x s) :=
  statusLaw_congr rfl rfl fun y _ k => k.trans (deriveStatus_congr (s := s) (t := setZoneAir z x s) rfl (by
    change ((s.air.zones.put z x).nth y).state = _
    rw [Tab.nth_put]
    split
    · rename_i e
      rw [e.1, h e.2]
    · rfl) rfl rfl rfl).symm

/-- A zone's air record with another credit, ring or hold: floor, demand and air state stand. -/
theorem keepsZones_setZoneAir {z : Nat} {x : ZoneAir} {s : State}
    (hx : ZoneAirLaw (s.air.zones.nth z) → ZoneAirLaw x) (hs : x.state = (s.air.zones.nth z).state := by rfl)
    (hf : x.floor = (s.air.zones.nth z).floor := by rfl) (hd : x.demand = (s.air.zones.nth z).demand := by rfl)
    (hl : x.lastD = (s.air.zones.nth z).lastD := by rfl)
    (hc : x.contributors = (s.air.zones.nth z).contributors := by rfl) : KeepsZones s (setZoneAir z x s) where
  air l := airSound_setZoneAir (fun hz => hx (l.air.zones z hz)) l
  demand := demandLaw_setZoneAir fun _ _ k => ⟨hf, by
    rw [hd, k.2]
    simp only [demandOf, hs, hf, hl, hc]⟩
  status := statusLaw_setZoneAir fun _ => hs
  vent := ventLaw_of_does (does_setZoneAir s z x) rfl rfl
  dark := darkLaw_of_does (does_setZoneAir s z x) rfl rfl

theorem zoneAirLaw_credit {x : ZoneAir} {e : Nat} (he : e ≤ 1000) (l : ZoneAirLaw x) : ZoneAirLaw { x with e := e } :=
  ⟨he, l.s, l.l, l.twa, l.z, l.lastD, l.floor, l.demand, l.ring⟩

theorem keepsZones_credit (z w : Nat) (s : State) : KeepsZones s (credit z w s) := by
  dsimp only [credit]
  exact .ite (fun _ => keepsZones_setZoneAir (zoneAirLaw_credit (Nat.min_le_left _ _))) (fun _ => .refl s)

theorem keepsZones_ringEvent (z : Nat) (s : State) : KeepsZones s (ringEvent z s) := by
  refine .ite (fun _ => ?_) (fun _ => .refl s)
  rw [advanceRing_eq]
  exact keepsZones_setZoneAir fun l => ⟨l.e, l.s, l.l, l.twa, l.z, l.lastD, l.floor, l.demand, ringLaw_advance l.ring⟩

theorem keepsZones_decayEvent (z : Nat) (s : State) : KeepsZones s (decayEvent z s) :=
  .ite (fun _ => keepsZones_setZoneAir fun l => zoneAirLaw_credit ((Nat.sub_le _ _).trans l.e) l) (fun _ => .refl s)

theorem keepsZones_holdEvent (z : Nat) (s : State) : KeepsZones s (holdEvent z s) :=
  .ite (fun _ => keepsZones_setZoneAir fun l => ⟨l.e, l.s, l.l, l.twa, l.z, l.lastD, l.floor, l.demand, l.ring⟩)
    (fun _ => .refl s)

/-! ## Sensed changes and detector reports (section 1.3) -/

theorem keepsZones_settleBay (b : Nat) (d : Det) (s : State) : KeepsZones s (settleBay b d s) :=
  ((keepsZones_takeSensed b d s).trans (keepsZones_credit _ _ _)).quiet
    ((quiet_lightSensed b _).trans (quiet_guideSensed b _))

theorem keepsZones_faultReport (b : Nat) (s : State) : KeepsZones s (faultReport b s) := by
  have h := fun x => (quiet_setBay b x s).keeps.trans (keepsZones_loseSensed b _)
  dsimp only [faultReport]
  exact .ite (fun _ => (h _).quiet (quiet_post _ _)) (fun _ => h _)

theorem keepsZones_compareReport (b : Nat) (d : Det) (s : State) : KeepsZones s (compareReport b d s) := by
  dsimp only [compareReport]
  refine .ite (fun _ => (quiet_setBay b _ s).keeps) (fun _ => .ite (fun _ => .refl s) (fun _ => ?_))
  exact .ite (fun _ => keepsZones_settleBay b d s) (fun _ => (quiet_setBay b _ s).keeps)

theorem keepsZones_okReport (b : Nat) (d : Det) (s : State) : KeepsZones s (okReport b d s) := by
  have h : ∀ x, KeepsZones s (if (bayOf s b).sensed = .nothing then takeSensed b d (setBay b x s)
      else compareReport b d (setBay b x s)) := fun x =>
    (quiet_setBay b x s).keeps.trans (.ite (fun _ => keepsZones_takeSensed b d _) (fun _ => keepsZones_compareReport b d _))
  have k := h { bayOf s b with health := .ok, lastHeard := 0 }
  dsimp only [okReport]
  exact .ite (fun _ => k.quiet (quiet_post _ _)) (fun _ => k)

theorem keepsZones_bayReport (b : Nat) (d : Det) (h : Health) (s : State) : KeepsZones s (bayReport b d h s) := by
  cases h with
  | ok => exact keepsZones_okReport b d s
  | fault => exact keepsZones_faultReport b s

/-! ## Taps, reservations, closures and bindings -/

theorem keepsZones_settleTap (b : Nat) (s : State) : KeepsZones s (settleTap b s) := by
  dsimp only [settleTap]
  split
  · exact .ite (fun _ => keepsZones_settleBay b _ s) (fun _ => (quiet_setBay b _ s).keeps)
  · exact .refl s

theorem keepsZones_reservationTap (b : Nat) (s : State) : KeepsZones s (reservationTap b s) := by
  dsimp only [reservationTap]
  split
  · exact .ite (fun _ => (keepsZones_setBay_rederive b _ s).quiet (quiet_post _ _)) (fun _ => (quiet_setBay b _ s).keeps)
  · exact .refl s
  · exact .refl s

theorem keepsZones_scanBay (b : Nat) (s : State) : KeepsZones s (scanBay b s) := by
  dsimp only [scanBay]
  exact .ite (fun _ => (keepsZones_loseSensed b s).quiet (quiet_post _ _)) (fun _ => .refl s)

theorem keepsZones_scanTap (s : State) : KeepsZones s (scanTap s) := by
  have h : KeepsZones s { s with occ := { s.occ with scan := (s.occ.scan + 1) % 16 } } := Quiet.keeps {}
  exact .ite (fun _ => h.trans (.foldl _ (fun t b => keepsZones_scanBay b t) _ _)) (fun _ => h)

theorem keepsZones_bayT4 (s : State) : KeepsZones s (bayT4 s) :=
  .ite (fun _ => .foldl _ (fun t b => keepsZones_settleTap b t) _ s) (fun _ => .refl s)

theorem keepsZones_bayT1 (s : State) : KeepsZones s (bayT1 s) := by
  refine .ite (fun _ => ?_) (fun _ => .refl s)
  have h : KeepsZones s { s with occ := { s.occ with bays := s.occ.bays.each heardTap } } := Quiet.keeps {}
  exact (h.trans (.foldl _ (fun t b => keepsZones_reservationTap b t) _ _)).trans (keepsZones_scanTap _)

theorem keepsZones_reserveBay (b n : Nat) (s : State) : KeepsZones s (reserveBay b n s) := keepsZones_setBay_rederive b _ s

theorem keepsZones_cancelReservation (b : Nat) (s : State) : KeepsZones s (cancelReservation b s) :=
  ((quiet_setBay b _ s).trans (quiet_post _ _)).keeps.trans (keepsZones_rederive b _)

theorem keepsZones_closeBay (b : Nat) (s : State) : KeepsZones s (closeBay b s) := by
  have h : Quiet s (if isReserved (bayOf s b).admin then post (.reservationEnd b .cancelled) s else s) :=
    .ite (fun _ => quiet_post _ s) (fun _ => .refl s)
  exact (h.trans {}).keeps.trans (keepsZones_rederive b _)

theorem keepsZones_openBay (b : Nat) (s : State) : KeepsZones s (openBay b s) :=
  (Quiet.keeps {}).trans (keepsZones_rederive b _)

theorem keepsZones_bindBay (b : Nat) (a : Addr) (s : State) : KeepsZones s (bindBay b a s) := by
  dsimp only [bindBay]
  refine .ite (fun _ => ?_) (fun _ => (quiet_setBay b _ s).keeps)
  exact ((Quiet.keeps {}).trans (keepsZones_loseSensed b _)).quiet (quiet_note (.lamp b) true _)

theorem keepsZones_unbindBay (b : Nat) (s : State) : KeepsZones s (unbindBay b s) := by
  dsimp only [unbindBay]
  exact .ite (fun _ => (Quiet.keeps {}).trans (keepsZones_loseSensed b _)) (fun _ => Quiet.keeps {})

end Sys2Proof.Machine
end

section
/-! SUPPORT. Sensors, the air sample, passages and the parts of the taps keep the laws of the zones (R31 to R54, R111 to R116). -/

namespace Sys2Proof.Machine

/-! ## Sensors (R32 to R38) -/

/-- The sensors written, with indices that are within their ranges. -/
theorem keepsZones_sensors {ss : Tab Sensor 32} {s : State}
    (h : (∀ n, n < 32 → SensorLaw (s.air.sensors.nth n)) → ∀ n, n < 32 → SensorLaw (ss.nth n)) :
    KeepsZones s { s with air := { s.air with sensors := ss } } where
  air l := ⟨⟨l.cfg.inForce, l.cfg.working⟩, l.values, ⟨l.air.zones, h l.air.sensors⟩⟩
  demand := demandLaw_congr rfl rfl fun _ _ k => k
  status := statusLaw_congr rfl rfl fun _ _ k => k
  vent := ventLaw_of_does (does_air s _) rfl rfl
  dark := darkLaw_of_does (does_air s _) rfl rfl

theorem sensorLaw_of_filtered {x y : Sensor} (h : y.filtered = x.filtered) (l : SensorLaw x) : SensorLaw y := by
  rw [SensorLaw, h]
  exact l

theorem keepsZones_setSensor {n : Nat} {x : Sensor} {s : State} (h : x.filtered = (s.air.sensors.nth n).filtered) :
    KeepsZones s (setSensor n x s) :=
  keepsZones_sensors fun l m hm => by
    rw [Tab.nth_put]
    split
    · rename_i e
      exact sensorLaw_of_filtered h (l n e.2)
    · exact l m hm

theorem keepsZones_takeSensorState {n : Nat} {x : Sensor} {s : State} (h : x.filtered = (s.air.sensors.nth n).filtered) :
    KeepsZones s (takeSensorState n x s) :=
  .ite (fun _ => keepsZones_setSensor h) (fun _ => (keepsZones_setSensor h).quiet (quiet_post _ _))

theorem recordReport_filtered (fullScale : Nat) (g : GasReport) (x : Sensor) :
    (recordReport fullScale g x).filtered = x.filtered := by
  cases g with
  | ok v =>
    dsimp only [recordReport]
    split <;> rfl
  | warmup => rfl
  | fault => rfl

theorem evaluated_filtered (n : Nat) (r : SensorRec) (x : Sensor) : (evaluated n r x).filtered = x.filtered := by
  unfold evaluated
  split <;> rfl

theorem keepsZones_endWarmup (n : Nat) (raw : BitVec 10) (s : State) : KeepsZones s (endWarmup n raw s) := by
  refine .ite (fun _ => .ite (fun _ => ?_) (fun _ => ?_)) (fun _ => .refl s)
  · exact keepsZones_takeSensorState (evaluated_filtered _ _ _)
  · exact keepsZones_setSensor rfl

theorem keepsZones_fallSilent (n : Nat) (s : State) : KeepsZones s (fallSilent n s) :=
  .ite (fun _ => keepsZones_takeSensorState rfl) (fun _ => .refl s)

/-! ## The air sample (R31) -/

/-- R38: the indices against the limits of a gas are at most 2000. -/
theorem indices_le (p : Params) (gas : Gas) (f : Nat) :
    (indices p gas f).short ≤ 2000 ∧ (indices p gas f).long ≤ 2000 := by
  cases gas <;> exact ⟨Nat.min_le_left _ _, Nat.min_le_left _ _⟩

theorem takeSample_le {p : Params} {r : SensorRec} {old : Option Filtered} {c : Option Nat} {f : Filtered}
    (h : takeSample p r old c = some f) : f.short ≤ 2000 ∧ f.long ≤ 2000 := by
  cases old <;> cases c <;> simp only [takeSample, Option.some.injEq, reduceCtorEq] at h <;> rw [← h] <;>
    exact indices_le _ _ _

/-- R37, R38: after the sensor stage the indices of a sensor are within their ranges. -/
theorem sensorLaw_sensorStage (p : Params) (n : Nat) (r : SensorRec) (x : Sensor) : SensorLaw (sensorStage p n r x) := by
  intro f hf
  unfold sensorStage at hf
  split at hf
  · exact takeSample_le hf
  · split at hf
    · exact takeSample_le hf
    · exact takeSample_le hf

theorem convertSlot_filtered (n raw : Nat) (x : Sensor) : (convertSlot n raw x).filtered = x.filtered := by
  unfold convertSlot
  split <;> rfl

theorem slotTap_filtered (tracking : Bool) (n : Nat) (r : SensorRec) (raw : Nat) (x : Sensor) :
    (slotTap tracking n r raw x).filtered = x.filtered := by
  have h : ∀ y : Sensor, (if tracking ∧ r.present ∧ isField n ∧ y.silence < 10 then { y with silence := y.silence + 1 }
      else y).filtered = y.filtered := fun y => by
    split <;> rfl
  refine (h _).trans ((convertSlot_filtered _ _ _).trans ?_)
  split <;> rfl

theorem keepsZones_tapSensors (ain : Tab (BitVec 10) 8) (s : State) :
    KeepsZones s { s with air := { s.air with sensors := tapSensors ain s } } :=
  keepsZones_sensors fun l n hn => by
    rw [tapSensors, Tab.nth_build, if_pos hn]
    dsimp only
    split
    · exact sensorLaw_sensorStage _ _ _ _
    · exact sensorLaw_of_filtered (slotTap_filtered _ _ _ _ _) (l n hn)

theorem keepsZones_convertInputs (ain : Tab (BitVec 10) 8) (s : State) :
    KeepsZones s { s with air := { s.air with sensors := convertInputs ain s } } :=
  keepsZones_sensors fun l n hn => by
    rw [convertInputs, Tab.nth_build, if_pos hn]
    exact sensorLaw_of_filtered (convertSlot_filtered _ _ _) (l n hn)

/-- R39: the contributors of a zone have indices within their ranges. -/
theorem contributions_le {s : State} (h : ∀ n, n < 32 → SensorLaw (s.air.sensors.nth n)) (z : Nat) :
    ∀ f ∈ contributions s z, f.short ≤ 2000 ∧ f.long ≤ 2000 := by
  intro f hf
  obtain ⟨n, hn, he⟩ := List.mem_filterMap.mp hf
  exact h n (List.mem_range.mp (List.mem_filter.mp hn).1) f he

/-- R54: a zone's new air record and the announcement of its air state, which takes its guidance status afresh. -/
theorem keepsZones_announceAir {z : Nat} {x : ZoneAir} {s u : State} (q : Quiet (setZoneAir z x s) u)
    (ha : AirSound s → AirSound (setZoneAir z x s)) (hd : DemandLaw s → DemandLaw (setZoneAir z x s)) :
    KeepsZones s (announceAir z u) := by
  have tail : ∀ v : State, ∀ st : AirState, KeepsZones v (formSounder (if st = .alarm then cancelMutes v else v)) :=
    fun v st => .quiet (.ite (fun _ => keepsZones_cancelMutes v) (fun _ => .refl v)) (quiet_formSounder _)
  dsimp only [announceAir]
  refine .trans ?_ (tail _ _)
  have hq := q.trans (quiet_post (.airState z (u.air.zones.nth z).state) u)
  refine .quiet ?_ (quiet_formGroups _ _)
  have k := keepsZones_guideArrival [z] (fun r => r.kind == .decision && faceHasZone r z)
    (post (.airState z (u.air.zones.nth z).state) u)
  have d := does_setZoneAir s z x
  refine ⟨k.air ∘ hq.airSound ∘ ha, k.demand ∘ hq.demandLaw ∘ hd, statusLaw_arrival hq.running hq.inForce fun y hy l => ?_,
    k.vent ∘ hq.ventLaw ∘ ventLaw_of_does d rfl rfl, k.dark ∘ hq.darkLaw ∘ darkLaw_of_does d rfl rfl⟩
  rw [StatusAt, hq.toSameInputs.deriveStatus, hq.status]
  refine l.trans (deriveStatus_congr (s := s) (t := setZoneAir z x s) rfl ?_ rfl rfl rfl).symm
  change ((s.air.zones.put z x).nth y).state = _
  rw [Tab.nth_put_ne _ _ hy]

/-- R31, R39 to R54: the zone stage of one zone, with its notices and its announcement. -/
theorem keepsZones_sampleZone (old : Tab Sensor 32) {z : Nat} (hz : 1 ≤ z) (s : State) :
    KeepsZones s (sampleZone old z s) := by
  have ha : AirSound s → AirSound (setZoneAir z (zoneStage (params s) (s.cfg.inForce.zones.nth z).fallbackDemand
      (contributions s z) (s.air.zones.nth z)) s) := fun l => airSound_setZoneAir (fun h => zoneAirLaw_zoneStage
        l.cfg.inForce.curve (l.cfg.inForce.demands z hz h) (contributions_le l.air.sensors z) (l.air.zones z h)) l
  have hd : DemandLaw s → DemandLaw (setZoneAir z (zoneStage (params s) (s.cfg.inForce.zones.nth z).fallbackDemand
      (contributions s z) (s.air.zones.nth z)) s) := demandLaw_setZoneAir fun _ _ _ => ⟨zoneStage_floor _ _ _ _, rfl⟩
  have q := fun x => quiet_postAll (((List.range 32).filter (fun n =>
    ((setZoneAir z x s).cfg.inForce.sensors.nth n).zone == z &&
      (old.nth n).state != ((setZoneAir z x s).air.sensors.nth n).state)).map
      (fun n => .sensorState n ((setZoneAir z x s).air.sensors.nth n).state)) (setZoneAir z x s)
  have d := fun x => does_setZoneAir s z x
  dsimp only [sampleZone]
  refine .ite (fun e => .quiet ?_ (q _)) (fun _ => keepsZones_announceAir (q _) ha hd)
  exact ⟨ha, hd, statusLaw_setZoneAir fun _ => e.symm, ventLaw_of_does (d _) rfl rfl, darkLaw_of_does (d _) rfl rfl⟩

theorem KeepsZones.foldl_mem {α : Type} {f : State → α → State} {l : List α} (h : ∀ x ∈ l, ∀ t, KeepsZones t (f t x))
    (s : State) : KeepsZones s (l.foldl f s) := by
  induction l generalizing s with
  | nil => exact .refl s
  | cons x l ih => exact (h x (by simp) s).trans (ih (fun y hy => h y (by simp [hy])) _)

theorem keepsZones_airTap (ain : Tab (BitVec 10) 8) (s : State) : KeepsZones s (airTap ain s) := by
  have h := keepsZones_tapSensors ain s
  refine .ite (fun _ => keepsZones_convertInputs ain s) (fun _ => .ite (fun _ => ?_) (fun _ => h))
  refine (h.quiet (quiet_postAll _ _)).trans (.foldl_mem (fun z hz t => keepsZones_sampleZone _ ?_ t) _)
  exact zonePresent_pos (mem_presentZones.mp hz)

/-! ## Passages (R114 to R116) -/

theorem keepsZones_announcePassage (p : Nat) (d : Direction) (s : State) : KeepsZones s (announcePassage p d s) := by
  have h : ∀ z w, KeepsZones s (startPaths p (credit z w s)) := fun z w =>
    (keepsZones_credit z w s).quiet (quiet_startPaths p _)
  dsimp only [announcePassage]
  cases d with
  | out => exact keepsZones_credit _ _ s
  | into | undirected =>
    dsimp only
    split
    · exact (h _ _).quiet (quiet_advanceSign _ _)
    · exact h _ _

theorem keepsZones_passage (p : Nat) (d : Direction) (s : State) : KeepsZones s (passage p d s) := by
  have h : KeepsZones s (if (s.cfg.inForce.pairs.nth p).role = .entry then
      { (setPair p (tallied d (s.loops.pairs.nth p)) s) with
        loops := { (setPair p (tallied d (s.loops.pairs.nth p)) s).loops with
          count := counted d (setPair p (tallied d (s.loops.pairs.nth p)) s).loops.count } }
      else setPair p (tallied d (s.loops.pairs.nth p)) s) := .ite (fun _ => Quiet.keeps {}) (fun _ => Quiet.keeps {})
  exact .ite (fun _ => h.trans (keepsZones_announcePassage p d _)) (fun _ => h)

theorem quiet_setPair (p : Nat) (x : PairRun) (s : State) : Quiet s (setPair p x s) := {}

theorem quiet_setLoop (i : Nat) (x : LoopInput) (s : State) : Quiet s (setLoop i x s) := {}

theorem keepsZones_completeSequence (p : Nat) (s : State) : KeepsZones s (completeSequence p s) := by
  have h := fun x => (quiet_setPair p x s).keeps
  dsimp only [completeSequence]
  split
  · exact (h _).trans (keepsZones_passage p _ _)
  · exact (h _).trans (keepsZones_passage p _ _)
  · exact h _
  · exact h _
  · exact .refl s

theorem keepsZones_pairCovered (i : Nat) (s : State) : KeepsZones s (pairCovered i s) := by
  dsimp only [pairCovered]
  split
  · exact .refl s
  · split
    · exact keepsZones_passage _ _ s
    · exact (quiet_setPair _ _ s).keeps

theorem keepsZones_pairCleared (i : Nat) (s : State) : KeepsZones s (pairCleared i s) := by
  dsimp only [pairCleared]
  split
  · exact .refl s
  · split
    · exact .refl s
    · exact .ite (fun _ => .refl s) (fun _ => keepsZones_completeSequence _ s)

theorem keepsZones_loopTapActive (i : Nat) (s : State) : KeepsZones s (loopTapActive i s) := by
  have h := fun x => (quiet_setLoop i x s).keeps
  dsimp only [loopTapActive]
  refine .ite (fun _ => .ite (fun _ => ?_) (fun _ => (h _).quiet (quiet_setLoop i _ _))) (fun _ => h _)
  exact ((h _).quiet (quiet_setLoop i _ _)).trans (keepsZones_pairCovered i _)

theorem keepsZones_releaseLoop (i : Nat) (s : State) : KeepsZones s (releaseLoop i s) := by
  have h := fun x => (quiet_setLoop i x s).keeps
  dsimp only [releaseLoop]
  split
  · exact h _
  · exact (h _).trans (keepsZones_pairCleared i _)
  · exact (h _).quiet (quiet_post _ _)

theorem keepsZones_loopTap (i : Nat) (active : Bool) (s : State) : KeepsZones s (loopTap i active s) :=
  .ite (fun _ => keepsZones_loopTapActive i s) (fun _ => keepsZones_releaseLoop i s)

theorem keepsZones_occupiedTap (i : Nat) (s : State) : KeepsZones s (occupiedTap i s) := by
  have h := fun x => quiet_setLoop i x s
  refine .ite (fun _ => .ite (fun _ => ?_) (fun _ => (h _).keeps)) (fun _ => .refl s)
  exact ((h _).trans (quiet_post _ _)).keeps.trans (keepsZones_pairCleared i _)

theorem quiet_sequenceTap (p : Nat) (s : State) : Quiet s (sequenceTap p s) :=
  .ite (fun _ => .refl s) (fun _ => .ite (fun _ => quiet_setPair p _ s) (fun _ => quiet_setPair p _ s))

theorem keepsZones_loopT1 (s : State) : KeepsZones s (loopT1 s) :=
  .ite (fun _ => .refl s) (fun _ => .quiet (.foldl _ (fun t i => keepsZones_occupiedTap i t) _ s)
    (.foldl _ (fun t p => quiet_sequenceTap p t) _ _))

/-! ## The parts of the taps (R174) -/

theorem keepsZones_runT32 (loops : BitVec 8) (keys : BitVec 2) (s : State) (p : T32Part) :
    KeepsZones s (runT32 loops keys s p) := by
  refine .ite (fun _ => .refl s) (fun _ => ?_)
  cases p with
  | loops => exact .foldl _ (fun t i => keepsZones_loopTap i _ t) _ s
  | keys => exact .foldl _ (fun t k => keepsZones_keyTap k _ t) _ s
  | paths => exact (quiet_pathsT32 s).keeps

theorem keepsZones_runT4 (rdy : BitVec 12) (s : State) (p : T4Part) : KeepsZones s (runT4 rdy s p) := by
  refine .ite (fun _ => .refl s) (fun _ => ?_)
  cases p with
  | bays => exact keepsZones_bayT4 s
  | fans => exact keepsZones_fansT4 rdy s
  | bus => exact .of_does (does_busT4 s) rfl

theorem keepsZones_runT1 (ain : Tab (BitVec 10) 8) (s : State) (p : T1Part) : KeepsZones s (runT1 ain s p) := by
  cases p with
  | clock => exact Quiet.keeps {}
  | sounder => exact .ite (fun _ => .refl s) (fun _ => (quiet_sounderTap s).keeps)
  | air => exact keepsZones_airTap ain s
  | bays => exact keepsZones_bayT1 s
  | fans => exact .ite (fun _ => .refl s) (fun _ => (quiet_eachChannel coastTap_state s).keeps)
  | lights => exact .ite (fun _ => .refl s) (fun _ => (quiet_lightsT1 s).keeps)
  | loops => exact keepsZones_loopT1 s
  | guide => exact .ite (fun _ => .refl s) (fun _ => (quiet_guideT1 s).keeps)
  | stack => exact .ite (fun _ => .refl s) (fun _ => keepsZones_stackT1 s)

theorem keepsZones_tapT32 (loops : BitVec 8) (keys : BitVec 2) (order : List T32Part) (s : State) :
    KeepsZones s (tapT32 loops keys order s) :=
  .quiet (.foldl _ (fun t p => keepsZones_runT32 loops keys t p) _ s) (quiet_fillSlots _)

theorem keepsZones_tapT4 (rdy : BitVec 12) (order : List T4Part) (s : State) : KeepsZones s (tapT4 rdy order s) :=
  .quiet (.foldl _ (fun t p => keepsZones_runT4 rdy t p) _ s) (quiet_fillSlots _)

theorem keepsZones_tapT1 (ain : Tab (BitVec 10) 8) (order : List T1Part) (s : State) :
    KeepsZones s (tapT1 ain order s) :=
  .quiet (.foldl _ (fun t p => keepsZones_runT1 ain t p) _ s) (quiet_fillSlots _)

end Sys2Proof.Machine
end

section
/-! SUPPORT. The tuning values stay within their ranges through records written and images loaded (R183, R185), and the laws
of the zones are kept by the resets, the loads and the entries to the configuration states (R5, R59, R85, R86, R105, R121). -/

namespace Sys2Proof.Machine

/-! ## Records (R185) -/

theorem clamp_le {lo hi x : Nat} (h : lo ≤ hi) : clamp lo hi x ≤ hi := by
  simp only [clamp]
  omega

/-- R45, R61: a PARAMS record as taken. -/
theorem takeParams_range {r x : Params} (h : takeParams r = .ok x) :
    (∀ i, i < 17 → x.curve.nth i ≤ 1000) ∧ x.minRun ≤ 1000 ∧ x.fallbackSpeed ≤ 1000 := by
  unfold takeParams at h
  split at h
  · simp at h
  · simp only [Except.ok.injEq] at h
    subst h
    refine ⟨fun i hi => ?_, clamp_le (by decide), clamp_le (by decide)⟩
    rw [Tab.nth_each _ _ hi]
    exact clamp_le (by decide)

/-- R1: a ZONE record as taken. -/
theorem takeZone_range {r x : ZoneRec} (h : takeZone r = .ok x) : x.fallbackDemand ≤ 1000 := by
  unfold takeZone at h
  split at h
  · simp at h
  · simp only [Except.ok.injEq] at h
    subst h
    exact clamp_le (by decide)

/-- R60: a FAN record as taken. -/
theorem takeFan_range {r x : FanRec} (h : takeFan r = .ok x) : x.weight ≤ 100 := by
  unfold takeFan at h
  split at h
  · simp at h
  · split at h
    · simp at h
    · simp only [Except.ok.injEq] at h
      subst h
      exact clamp_le (by decide)

theorem indexed_ok {α : Type} {i n : Nat} {x : Except Result α} {y : α} (h : indexed i n x = .ok y) : x = .ok y := by
  unfold indexed at h
  split at h
  · exact h
  · simp at h

theorem storeRecord_ok {α : Type} {taken : Except Result α} {put : α → Cfg} {bytes : α → List Byte}
    {y : Cfg × List Byte} (h : storeRecord taken put bytes = .ok y) : ∃ x, taken = .ok x ∧ y.1 = put x := by
  unfold storeRecord at h
  split at h
  · rename_i x
    simp only [Except.ok.injEq] at h
    exact ⟨x, rfl, by rw [← h]⟩
  · simp at h

/-- A configuration with the same tuning values, zones and fans. -/
theorem tuned_congr {c d : Cfg} (l : Tuned c) (hp : d.params = c.params := by rfl) (hz : d.zones = c.zones := by rfl)
    (hf : d.fans = c.fans := by rfl) : Tuned d :=
  ⟨by rw [hp]; exact l.curve, by rw [hp]; exact l.minRun, by rw [hp]; exact l.fallbackSpeed,
    by rw [hz]; exact l.demands, by rw [hf]; exact l.weights⟩

/-- A record of another kind, put in its place. -/
theorem tuned_storeRecord {α : Type} {taken : Except Result α} {put : α → Cfg} {bytes : α → List Byte}
    {y : Cfg × List Byte} (h : storeRecord taken put bytes = .ok y) (hput : ∀ x, taken = .ok x → Tuned (put x)) :
    Tuned y.1 := by
  obtain ⟨x, hx, hy⟩ := storeRecord_ok h
  rw [hy]
  exact hput x hx

theorem tuned_params {c : Cfg} {r x : Params} (l : Tuned c) (h : takeParams r = .ok x) : Tuned { c with params := x } :=
  have k := takeParams_range h
  ⟨k.1, k.2.1, k.2.2, l.demands, l.weights⟩

theorem tuned_zone {c : Cfg} {i : Nat} {r x : ZoneRec} (l : Tuned c) (h : takeZone r = .ok x) :
    Tuned { c with zones := c.zones.put i x } := by
  refine ⟨l.curve, l.minRun, l.fallbackSpeed, fun z h1 h2 => ?_, l.weights⟩
  rw [Tab.nth_put]
  split
  · exact takeZone_range h
  · exact l.demands z h1 h2

theorem tuned_fan {c : Cfg} {i : Nat} {r x : FanRec} (l : Tuned c) (h : takeFan r = .ok x) :
    Tuned { c with fans := c.fans.put i x } :=
  ⟨l.curve, l.minRun, l.fallbackSpeed, l.demands, Tab.all_put (p := fun r : FanRec => r.weight ≤ 100) l.weights (takeFan_range h)⟩

/-- R185: CONFIG_WRITE keeps the tuning values within their ranges. -/
theorem tuned_writeRecord {w : CfgWrite} {c : Cfg} {y : Cfg × List Byte} (l : Tuned c) (h : writeRecord w c = .ok y) :
    Tuned y.1 := by
  cases w with
  | params i r => exact tuned_storeRecord (indexed_ok h) fun x hx => tuned_params l hx
  | fan i r => exact tuned_storeRecord (indexed_ok h) fun x hx => tuned_fan l hx
  | zone i r =>
    simp only [writeRecord] at h
    split at h
    · exact tuned_storeRecord h fun x hx => tuned_zone l hx
    · simp at h
  | bay first kinds =>
    simp only [writeRecord] at h
    split at h
    · simp at h
    · split at h
      · simp at h
      · simp only [Except.ok.injEq] at h
        rw [← h]
        exact tuned_congr l
  | face i f r | input i r =>
    simp only [writeRecord] at h
    split at h
    · exact tuned_storeRecord h fun x _ => tuned_congr l
    · simp at h
  | sensor i r => exact tuned_storeRecord (indexed_ok h) fun x _ => tuned_congr l
  | group i r => exact tuned_storeRecord (indexed_ok h) fun x _ => tuned_congr l
  | presence i r => exact tuned_storeRecord (indexed_ok h) fun x _ => tuned_congr l
  | path i r => exact tuned_storeRecord (indexed_ok h) fun x _ => tuned_congr l
  | pair i r => exact tuned_storeRecord (indexed_ok h) fun x _ => tuned_congr l
  | sign i present addr pair => exact tuned_storeRecord (indexed_ok h) fun x _ => tuned_congr l
  | filter i r => exact tuned_storeRecord (indexed_ok h) fun x _ => tuned_congr l
  | unknownKind => simp [writeRecord] at h
  | misfit kind i sub =>
    simp only [writeRecord] at h
    split at h <;> simp at h

/-! ## Images (R183) -/

theorem checkImage_decoded {im : ImageRead} {b : Body} {id : BitVec 16} (h : checkImage im = .ok (b, id)) :
    firstUndecoded b im.undecoded = none := by
  unfold checkImage at h
  dsimp only at h
  repeat' split at h
  all_goals simp only [reduceCtorEq, Except.ok.injEq, Prod.mk.injEq] at h
  rename_i hd _ _
  rw [← h.1]
  exact hd

/-- R183: a load that succeeds has an image whose records all decode. -/
theorem checkSource_image {s : State} {source : LoadSource} {b : Body} {id : BitVec 16}
    (h : checkSource s source = .ok (b, id)) : ∃ im, checkImage im = .ok (b, id) := by
  cases source with
  | silent => simp [checkSource] at h
  | supplied im => exact ⟨im, h⟩
  | held =>
    simp only [checkSource, checkHeld] at h
    split at h
    · exact ⟨_, h⟩
    · unfold checkDoubtful at h
      split at h
      · split at h
        · exact ⟨_, h⟩
        · simp at h
      · simp at h
      · simp at h

theorem recordInRange_of_decoded {b : Body} {u : Option RecRef} (h : firstUndecoded b u = none) {r : RecRef}
    (hr : r ∈ decodeOrder) : recordInRange b r = true := by
  have hf := ((Option.orElse_eq_none _ _).mp h).1
  have := List.find?_eq_none.mp hf r hr
  simp only [Bool.or_eq_true, Bool.not_eq_true', not_or, Bool.not_eq_false] at this
  exact this.2

theorem unchanged_ok {α : Type} [DecidableEq α] {r : α} {taken : Except Result α} (h : unchanged r taken = true) :
    taken = .ok r := by
  cases taken with
  | ok x => rw [beq_iff_eq.mp h]
  | error e => simp [unchanged] at h

theorem stored_ok {α : Type} [DecidableEq α] {absent r : α} {taken : Except Result α} (h : stored absent r taken = true) :
    r = absent ∨ taken = .ok r := by
  rw [stored, Bool.or_eq_true, beq_iff_eq] at h
  exact h.imp_right unchanged_ok

theorem mem_decodeOrder_params : (⟨.params, 0, 0⟩ : RecRef) ∈ decodeOrder := by
  simp [decodeOrder, recordsOf]

theorem mem_decodeOrder_zone {z : Nat} (h1 : 1 ≤ z) (h2 : z < 16) : (⟨.zone, z, 0⟩ : RecRef) ∈ decodeOrder := by
  simp [decodeOrder, recordsOf, mem_zoneIndices, h1, h2]

theorem mem_decodeOrder_fan {n : Nat} (h : n < 12) : (⟨.fan, n, 0⟩ : RecRef) ∈ decodeOrder := by
  simp [decodeOrder, recordsOf, h]

/-- R183: an image that loads has tuning values within their ranges. -/
theorem tuned_image {im : ImageRead} {b : Body} {id : BitVec 16} (h : checkImage im = .ok (b, id)) : Tuned b.cfg := by
  have hd := checkImage_decoded h
  obtain ⟨hc, hm, hf⟩ := takeParams_range (unchanged_ok (recordInRange_of_decoded hd mem_decodeOrder_params))
  refine ⟨hc, hm, hf, fun z h1 h2 => ?_, fun n hn => ?_⟩
  · rcases stored_ok (recordInRange_of_decoded hd (mem_decodeOrder_zone h1 h2)) with e | e
    · rw [e]
      decide
    · exact takeZone_range e
  · rcases stored_ok (recordInRange_of_decoded hd (mem_decodeOrder_fan hn)) with e | e
    · rw [e]
      decide
    · exact takeFan_range e

/-! ## Resets -/

theorem keepsZones_reset {s t : State} (hc : t.cfg.inForce = emptyCfg) (hw : t.cfg.working = emptyCfg)
    (hs : t.cfg.state = .loading) (ha : t.air = Air.start) (ho : t.ovr = Overrides.start) : KeepsZones s t := by
  refine .of_untracked (fun _ => ⟨⟨?_, ?_⟩, ?_, ?_⟩) (by rw [running, hs]; rfl) (by rw [hs]; decide)
  · rw [hc]
    exact tuned_emptyCfg
  · rw [hw]
    exact tuned_emptyCfg
  · rw [ho]
    exact fun _ h => absurd h List.not_mem_nil
  · exact ⟨by rw [ha]; exact airLaw_reset.zones, by rw [ha]; exact airLaw_reset.sensors⟩

theorem keepsZones_resetPowerOn (straps : Straps) (s : State) : KeepsZones s (resetPowerOn straps s) :=
  keepsZones_reset rfl rfl rfl rfl rfl

theorem keepsZones_resetCommanded (straps : Straps) (s : State) : KeepsZones s (resetCommanded straps s) :=
  keepsZones_reset rfl rfl rfl rfl rfl

end Sys2Proof.Machine
end

section
/-! SUPPORT. The entries to RUNNING, EDITING and FALLBACK and the end of a load keep the laws of the zones (R5, R59, R85, R86,
R105, R121, R183): the entry to RUNNING forms them all afresh. -/

namespace Sys2Proof.Machine

/-! ## Entry to RUNNING, block by block -/

theorem demandLaw_airToRunning (old : Cfg) (s : State) : DemandLaw (airToRunning old s) := by
  rw [demandLaw_iff]
  intro _ z hz
  have hx : (airToRunning old s).air.zones.nth z = startZoneAir s.ovr.stack s.cfg.inForce z :=
    (Tab.nth_build _ _).trans (if_pos (zonePresent_lt hz))
  have hp : zonePresent s.cfg.inForce z = true := hz
  rw [DemandAt, hx, startZoneAir, if_pos hp]
  exact ⟨rfl, rfl⟩

theorem stopped_fanToRunning (s : State) {n : Nat} (hn : n < 12) :
    ((fanToRunning s).fan.channels.nth n).state = .stopped := by
  rw [show (fanToRunning s).fan.channels.nth n = startChannel (params s).dwell s.ovr.stack n (s.fan.channels.nth n) from
    (Tab.nth_build _ _).trans (if_pos hn)]
  rfl

/-- R86: with no fan in FAULT no zone is VENT_LOST. -/
theorem ventLaw_fanToRunning (s : State) : VentLaw (fanToRunning s) := by
  intro _ z hz
  have hf : faultedFans (fanToRunning s) (zoneFans (fanToRunning s) z) = [] := by
    refine List.filter_eq_nil_iff.mpr fun n hn => ?_
    rw [stopped_fanToRunning s (List.mem_range.mp (List.mem_filter.mp hn).1)]
    decide
  have hv : (fanToRunning s).fan.ventLost.nth z = false :=
    (Tab.nth_fill _ _).trans (if_pos (zonePresent_lt hz))
  rw [hv, deriveVentLost, hf]
  cases zoneFans (fanToRunning s) z <;> rfl

/-- R105: every present group is OK. -/
theorem darkLaw_lightToRunning (s : State) : DarkLaw (lightToRunning s) := by
  intro _ z hz
  have hd : deriveDarkCount (lightToRunning s) z = 0 := by
    rw [deriveDarkCount, List.length_eq_zero_iff, List.filter_eq_nil_iff]
    intro g hg
    have hr := List.mem_range.mp (List.mem_filter.mp hg).1
    have hx : (lightToRunning s).light.groups.nth g = startGroup (lightCleared s) g :=
      (Tab.nth_build _ _).trans (if_pos hr)
    have hs : (startGroup (lightCleared s) g).state = .ok := by
      unfold startGroup
      split
      · change ((Tab.fill 48 Group.start : Tab Group 48).nth g).state = _
        rw [Tab.nth_fill, if_pos hr]
        rfl
      · rfl
    simp [hx, hs]
  have hz16 := zonePresent_lt hz
  rw [hd]
  change (Tab.fill 16 0 : Tab Nat 16).nth z = 0 ∧ ((Tab.fill 16 false : Tab Bool 16).nth z = true ↔ _)
  simp [hz16]

/-- R121: every present zone has the status that its inputs give. -/
theorem statusLaw_guideToRunning (s : State) : StatusLaw (guideToRunning s) := by
  intro _ z hz
  have hp : zonePresent s.cfg.inForce z = true := hz
  refine ((Tab.nth_build _ _).trans (if_pos (zonePresent_lt hz))).trans ?_
  rw [startStatus, if_pos hp]
  exact (deriveStatus_congr rfl rfl rfl rfl rfl).symm

/-! ## Ranges at the entry to RUNNING (R44, R58, R59) -/

theorem airSound_inputEntry (old : Cfg) (k : Nat) {s : State} (l : AirSound s) : AirSound (inputEntry old k s) := by
  have h := (quiet_setKey k { s.ovr.keys.nth k with filter := 0, state := .released } s).airSound l
  dsimp only [inputEntry]
  split
  · split
    · exact airSound_setStack (values_filter _ l.values) h
    · exact (quiet_post _ _).airSound h
    · exact h
    · exact h
  · exact l

theorem airSound_inputPush (k : Nat) {s : State} (l : AirSound s) : AirSound (inputPush k s) := by
  dsimp only [inputPush]
  split
  · split
    · refine (quiet_post _ _).airSound (airSound_setStack (values_snoc (takeValue_le _ _) l.values) ?_)
      exact (quiet_setKey k _ s).airSound l
    · exact l
  · exact l

theorem airSound_ovrToRunning (old : Cfg) {s : State} (l : AirSound s) : AirSound (ovrToRunning old s) :=
  airSound_inputPush 1 (airSound_inputPush 0 (airSound_inputEntry old 1 (airSound_inputEntry old 0 l)))

theorem airSound_cfgToRunning {s : State} (l : AirSound s) : AirSound (cfgToRunning s) :=
  (quiet_post _ _).airSound ⟨⟨l.cfg.working, l.cfg.working⟩, l.values, ⟨l.air.zones, l.air.sensors⟩⟩

theorem zoneAirLaw_startZoneAir {stack : List Entry} {c : Cfg} {z : Nat} (hz : z < 16) (hs : ∀ e ∈ stack, e.value ≤ 1000)
    (hc : Tuned c) : ZoneAirLaw (startZoneAir stack c z) := by
  have l := zoneAirLaw_start
  unfold startZoneAir
  split
  · rename_i hp
    exact zoneAirLaw_floor l (ventFloor_le hs z) (Nat.max_le.mpr ⟨hc.demands z (zonePresent_pos hp) hz, ventFloor_le hs z⟩)
  · exact l

theorem startSensor_filtered (n : Nat) (old new : SensorRec) (x : Sensor) : (startSensor n old new x).filtered = none := by
  unfold startSensor
  split <;> rfl

theorem airSound_airToRunning (old : Cfg) {s : State} (l : AirSound s) : AirSound (airToRunning old s) where
  cfg := ⟨l.cfg.inForce, l.cfg.working⟩
  values := l.values
  air := by
    refine ⟨fun z hz => ?_, fun n hn f hf => ?_⟩
    · rw [show (airToRunning old s).air.zones.nth z = startZoneAir s.ovr.stack s.cfg.inForce z from
        (Tab.nth_build _ _).trans (if_pos hz)]
      exact zoneAirLaw_startZoneAir hz l.values l.cfg.inForce
    · rw [show (airToRunning old s).air.sensors.nth n =
        startSensor n (old.sensors.nth n) (s.cfg.inForce.sensors.nth n) (s.air.sensors.nth n) from
        (Tab.nth_build _ _).trans (if_pos hn), startSensor_filtered] at hf
      exact absurd hf (by simp)

theorem airSound_enterRunning {s : State} (l : AirSound s) : AirSound (enterRunning s) := by
  refine (quiet_formSounder _).airSound (airSound_of_does (does_guideToRunning _) rfl ?_)
  refine airSound_of_does (does_loopsToRunning _) rfl (airSound_of_does (does_lightToRunning _) rfl ?_)
  refine airSound_of_does (does_fanToRunning _) rfl (airSound_airToRunning _ ?_)
  refine airSound_of_does (does_occToRunning _) rfl (airSound_ovrToRunning _ ?_)
  exact airSound_of_does (does_busToRunning _) rfl (airSound_cfgToRunning l)

/-- R187: the entry to RUNNING forms every condition of the zones afresh. -/
theorem zoneLaws_enterRunning (s : State) : DemandLaw (enterRunning s) ∧ StatusLaw (enterRunning s) ∧
    VentLaw (enterRunning s) ∧ DarkLaw (enterRunning s) := by
  have tail : ∀ t : State, KeepsZones t (formSounder t) := fun t => (quiet_formSounder t).keeps
  dsimp only [enterRunning]
  refine ⟨(tail _).demand ?_, (tail _).status (statusLaw_guideToRunning _), (tail _).vent ?_, (tail _).dark ?_⟩
  · refine demandLaw_of_does (does_guideToRunning _) rfl rfl rfl (demandLaw_of_does (does_loopsToRunning _) rfl rfl rfl ?_)
    refine demandLaw_of_does (does_lightToRunning _) rfl rfl rfl (demandLaw_of_does (does_fanToRunning _) rfl rfl rfl ?_)
    exact demandLaw_airToRunning _ _
  · refine ventLaw_of_does (does_guideToRunning _) rfl rfl (ventLaw_of_does (does_loopsToRunning _) rfl rfl ?_)
    exact ventLaw_of_does (does_lightToRunning _) rfl rfl (ventLaw_fanToRunning _)
  · refine darkLaw_of_does (does_guideToRunning _) rfl rfl (darkLaw_of_does (does_loopsToRunning _) rfl rfl ?_)
    exact darkLaw_lightToRunning _

/-- What ends in the entry to RUNNING keeps the laws when it keeps the ranges. -/
theorem keepsZones_toRunning {s t : State} (h : AirSound s → AirSound t) : KeepsZones s (enterRunning t) :=
  have ⟨hd, hs, hv, hk⟩ := zoneLaws_enterRunning t
  ⟨fun l => airSound_enterRunning (h l), fun _ => hd, fun _ => hs, fun _ => hv, fun _ => hk⟩

theorem keepsZones_enterRunning (s : State) : KeepsZones s (enterRunning s) := keepsZones_toRunning id

/-! ## Entry to EDITING -/

theorem running_enterEditing (s : State) : running (enterEditing s) = false := by
  rw [running, enterEditing_cfg]
  rfl

theorem airSound_cfgToEditing {s : State} (l : AirSound s) : AirSound (cfgToEditing s) :=
  (quiet_post _ _).airSound ⟨⟨l.cfg.inForce, l.cfg.inForce⟩, l.values, ⟨l.air.zones, l.air.sensors⟩⟩

theorem airSound_airToEditing {s : State} (l : AirSound s) : AirSound (airToEditing s) := by
  refine (quiet_formSounder _).airSound ((quiet_postAll _ _).airSound
    ⟨⟨l.cfg.inForce, l.cfg.working⟩, l.values, fun z hz => ?_, l.air.sensors⟩)
  have h := l.air.zones z hz
  rw [Tab.nth_each _ _ hz]
  exact ⟨h.e, h.s, h.l, h.twa, h.z, h.lastD, h.floor, h.demand, h.ring⟩

/-- R85, R184: in EDITING only VENT_LOST is tracked, and it is formed afresh. -/
theorem keepsZones_enterEditing (s : State) : KeepsZones s (enterEditing s) where
  air l := airSound_of_does (does_guideToEditing _) rfl (airSound_of_does (does_lightToEditing _) rfl
    (airSound_of_does (does_fanToEditing _) rfl (airSound_airToEditing (airSound_of_does (does_occToEditing _) rfl
      (airSound_of_does (does_busEntry _ _ _) rfl (airSound_cfgToEditing l))))))
  demand _ := fun hr => absurd hr (by simp [running_enterEditing])
  status _ := fun hr => absurd hr (by simp [running_enterEditing])
  vent _ := ventLaw_of_does (does_guideToEditing _) rfl rfl (ventLaw_of_does (does_lightToEditing _) rfl rfl
    (ventLaw_formVentLosts _))
  dark _ := fun hr => absurd hr (by simp [running_enterEditing])

/-! ## The end of a load (R183) -/

theorem airSound_loadCoast (d : Nat) {s : State} (l : AirSound s) : AirSound (loadCoast d s) :=
  airSound_of_does (does_loadCoast d s) rfl l

theorem airSound_loadDetectors {s : State} (l : AirSound s) : AirSound (loadDetectors s) :=
  airSound_of_does (does_loadDetectors s) rfl l

/-- R182: a configuration taken whole. -/
theorem airSound_cfg {c : ConfigUnit} {s : State} (hi : Tuned c.inForce) (hw : Tuned c.working) (l : AirSound s) :
    AirSound { s with cfg := c } := ⟨⟨hi, hw⟩, l.values, ⟨l.air.zones, l.air.sensors⟩⟩

theorem keepsZones_loadImage {b : Body} {id : BitVec 16} {s : State} (hb : Tuned b.cfg) :
    KeepsZones s (loadImage b id s) :=
  keepsZones_toRunning fun l => airSound_loadCoast _ (airSound_cfg tuned_emptyCfg hb
    (airSound_loadDetectors (airSound_cfg hb hb l)))

theorem keepsZones_loadFallback (why : FallbackReason) (s : State) : KeepsZones s (loadFallback why s) := by
  have hc := (loadFallback_cfg why s).1
  refine .of_untracked (fun l => airSound_of_does (does_busEntry _ _ _) rfl ((quiet_post _ _).airSound ?_))
    (by rw [running, hc]; rfl) (by rw [hc]; decide)
  have k : AirSound (loadCoast defaultParams.dwell (loadDetectors (takeBody emptyBody s))) :=
    airSound_loadCoast _ (airSound_loadDetectors (airSound_cfg tuned_emptyCfg tuned_emptyCfg l))
  exact ⟨⟨k.cfg.inForce, k.cfg.working⟩, k.values, ⟨k.air.zones, k.air.sensors⟩⟩

theorem keepsZones_endLoad (source : LoadSource) (s : State) : KeepsZones s (endLoad source s) := by
  have h : KeepsZones s { s with
      free := s.free + 1, cfg := { s.cfg with memory := memoryAfter s.cfg.memory source } } := Quiet.keeps {}
  dsimp only [endLoad]
  split
  · rename_i b id he
    obtain ⟨im, hi⟩ := checkSource_image he
    exact h.trans (keepsZones_loadImage (tuned_image hi))
  · exact h.trans (keepsZones_loadFallback _ _)

end Sys2Proof.Machine
end

section
/-! SUPPORT. Every command keeps the laws of the zones and the ranges of the air values (R44, R47, R48, R79, R102, R119). -/

namespace Sys2Proof.Machine

namespace KeepsZones

variable {s t : State}

/-- R165. -/
theorem fill (h : KeepsZones s t) : KeepsZones s (fillSlots t) := h.quiet (quiet_fillSlots t)

theorem answered (h : KeepsZones s t) (kind : Nat) (r : Result) (fields : List Byte) :
    KeepsZones s (answer kind r fields t) := h.trans (.of_does (does_answer t _ _ _) rfl)

end KeepsZones

theorem keepsZones_answer (kind : Nat) (r : Result) (fields : List Byte) (s : State) :
    KeepsZones s (answer kind r fields s) := (KeepsZones.refl s).answered _ _ _

/-! ## Frames and attempts -/

theorem keepsZones_deliver {a : Addr} {effect : State → State} {s : State} (h : KeepsZones s (effect s)) :
    KeepsZones s (deliver a effect s) := .ite (fun _ => h.fill) (fun _ => .refl s)

theorem keepsZones_addUnknown (a : Addr) (type : DeviceType) (s : State) : KeepsZones s (addUnknown a type s) :=
  .of_does (does_addUnknown a type s) rfl

theorem keepsZones_takeBayState (a : Addr) (d : Det) (h : Health) (s : State) : KeepsZones s (takeBayState a d h s) := by
  dsimp only [takeBayState]
  split
  · exact keepsZones_addUnknown a _ s
  · exact .ite (fun _ => keepsZones_bayReport _ d h s) (fun _ => .refl s)

theorem keepsZones_takeGasValue (a : Addr) (g : GasReport) (s : State) : KeepsZones s (takeGasValue a g s) := by
  dsimp only [takeGasValue]
  split
  · exact keepsZones_addUnknown a _ s
  · exact .ite (fun _ => keepsZones_takeSensorState (recordReport_filtered _ g _)) (fun _ => .refl s)

theorem keepsZones_takePed (a : Addr) (p : Ped) (s : State) : KeepsZones s (takePed a p s) := by
  dsimp only [takePed]
  split
  · exact keepsZones_addUnknown a _ s
  · cases p with
    | detected => exact (quiet_trigger _ s).keeps
    | clear => exact .refl s

theorem keepsZones_takeLumState (a : Addr) (h : Health) (s : State) : KeepsZones s (takeLumState a h s) := by
  dsimp only [takeLumState]
  split
  · exact keepsZones_addUnknown a _ s
  · exact .ite (fun _ => keepsZones_setGroupState _ _ s) (fun _ => .refl s)

theorem keepsZones_takeSignState (a : Addr) (h : Health) (s : State) : KeepsZones s (takeSignState a h s) := by
  dsimp only [takeSignState]
  split
  · exact keepsZones_addUnknown a _ s
  · exact .ite (fun _ => (quiet_setSignState _ _ s).keeps) (fun _ => .refl s)

theorem quiet_announceBay (b : Nat) (s : State) : Quiet s (announceBay b s) :=
  .ite (fun _ => (quiet_setBay b _ s).trans (quiet_note (.lamp b) true _)) (fun _ => quiet_markFallbackGuidance s)

theorem quiet_announceGroup (g : Nat) (s : State) : Quiet s (announceGroup g s) :=
  .ite (fun _ => quiet_note (.group g) true s) (fun _ => quiet_note .groupAll true s)

theorem quiet_announceSign (i : Nat) (s : State) : Quiet s (announceSign i s) :=
  .ite (fun _ => .foldl (fun t f => markFace i f t) (fun t f => quiet_note (.face i f) true t) _ s)
    (fun _ => quiet_markFallbackGuidance s)

theorem keepsZones_takeAnnounce (a : Addr) (type : DeviceType) (s : State) : KeepsZones s (takeAnnounce a type s) := by
  dsimp only [takeAnnounce]
  split
  · exact (quiet_announceBay _ s).keeps
  · exact .ite (fun _ => keepsZones_takeSensorState rfl) (fun _ => .refl s)
  · exact (quiet_announceGroup _ s).keeps
  · exact .refl s
  · exact (quiet_announceSign _ s).keeps
  · exact keepsZones_addUnknown a type s

theorem keepsZones_reportSuccess (x : Slot) (s : State) : KeepsZones s (reportSuccess x s) := by
  dsimp only [reportSuccess]
  split
  · split
    · exact (quiet_faceSent _ _ _ s).keeps
    · exact .refl s
  · split
    · exact keepsZones_groupSent _ _ s
    · exact .refl s
  · split
    · exact (quiet_lampSent _ _ s).keeps
    · exact .refl s
  · exact .refl s

theorem keepsZones_reportGiveUp (x : Slot) (s : State) : KeepsZones s (reportGiveUp x s) := by
  dsimp only [reportGiveUp]
  split
  · split
    · exact (quiet_setSignState _ _ s).keeps
    · exact .refl s
  · split
    · exact keepsZones_setGroupState _ _ s
    · exact .refl s
  · split
    · exact (quiet_lampLost _ s).keeps
    · exact .refl s
  all_goals exact .refl s

theorem keepsZones_putSlot (i : Nat) (x : Option Slot) (s : State) : KeepsZones s (putSlot i x s) :=
  .of_does (does_putSlot s i x) rfl

theorem keepsZones_attemptSucceeds (i : Nat) (x : Slot) (s : State) : KeepsZones s (attemptSucceeds i x s) := by
  have h : KeepsZones s (putSlot i none (setErrors (s.bus.errors - 1) s)) :=
    .trans (.of_does (does_setErrors _ s) rfl) (keepsZones_putSlot i none _)
  exact .ite (fun _ => h) (fun _ => h.trans (keepsZones_reportSuccess x _))

theorem keepsZones_giveUp (i : Nat) (x : Slot) (s : State) : KeepsZones s (giveUp i x s) := by
  have h : KeepsZones s (putSlot i none { s with bus := { s.bus with givenUp := min (s.bus.givenUp + 1) 65535 } }) :=
    Quiet.keeps {}
  exact .ite (fun _ => h) (fun _ => h.trans (keepsZones_reportGiveUp x _))

theorem keepsZones_attemptFails (i : Nat) (x : Slot) (s : State) : KeepsZones s (attemptFails i x s) := by
  refine .trans ?_ (.of_does (does_setErrors _ _) rfl)
  refine .ite (fun _ => keepsZones_giveUp i x s) (fun _ => ?_)
  exact .ite (fun _ => keepsZones_putSlot i none s) (fun _ => keepsZones_putSlot i _ s)

theorem keepsZones_endAttempt {effect : Nat → Slot → State → State} (h : ∀ i x s, KeepsZones s (effect i x s))
    (s : State) : KeepsZones s (endAttempt effect s) := by
  dsimp only [endAttempt]
  split
  · exact .ite (fun _ => (h _ _ s).fill) (fun _ => .refl s)
  · exact .refl s

/-! ## Requests -/

theorem keepsZones_arrive (s : State) : KeepsZones s (arrive s) := by
  refine .trans (t := if s.link.resetDue = true then resetCommanded s.link.pins s else s) ?_ (Quiet.keeps {})
  exact .ite (fun _ => keepsZones_resetCommanded _ s) (fun _ => .refl s)

/-- R195: a request keeps the laws when its rule does. -/
theorem keepsZones_request {α : Type} {kind : Nat} {always : Bool} {r : Req α} {rule : α → State → State} {s : State}
    (h : ∀ x t, KeepsZones t (rule x t)) : KeepsZones s (request kind always r rule s) := by
  have k := keepsZones_arrive s
  refine .ite (fun _ => .refl s) (fun _ => .ite (fun _ => k.answered _ _ _) (fun _ => ?_))
  cases r with
  | misfit => exact k.answered _ _ _
  | fits x => exact k.trans (h x _)

theorem keepsZones_broadcastIn {α : Type} {r : Req α} {rule : α → State → State} {s : State}
    (h : ∀ x t, KeepsZones t (rule x t)) : KeepsZones s (broadcastIn r rule s) := by
  have k : KeepsZones s { s with link := { s.link with receiver := .hunting } } := Quiet.keeps {}
  refine .ite (fun _ => .refl s) (fun _ => .ite (fun _ => k) (fun _ => ?_))
  cases r with
  | misfit => exact k
  | fits x => exact k.trans (h x _)

theorem keepsZones_thenFill {α : Type} {rule : α → State → State} (h : ∀ x t, KeepsZones t (rule x t)) (x : α)
    (s : State) : KeepsZones s (thenFill rule x s) := (h x s).fill

/-- A rule that one condition of the part refuses. -/
theorem keepsZones_refusable {kind : Nat} {r : Result} {c : Prop} [Decidable c] {s t : State} (h : KeepsZones s t) :
    KeepsZones s (if c then answer kind r [] s else t) := .ite (fun _ => keepsZones_answer _ _ _ s) (fun _ => h)

theorem keepsZones_unlessStoring {kind : Nat} {rule : State → State} {s : State} (h : KeepsZones s (rule s)) :
    KeepsZones s (unlessStoring kind rule s) := keepsZones_refusable h

theorem keepsZones_notInFallback {kind : Nat} {rule : State → State} {s : State} (h : KeepsZones s (rule s)) :
    KeepsZones s (notInFallback kind rule s) := keepsZones_refusable h

theorem keepsZones_inRunning {kind : Nat} {rule : State → State} {s : State} (h : KeepsZones s (rule s)) :
    KeepsZones s (inRunning kind rule s) := .ite (fun _ => h) (fun _ => keepsZones_answer _ _ _ s)

theorem keepsZones_openConfig (s : State) : KeepsZones s (openConfig s) := by
  refine keepsZones_refusable ?_
  split
  · exact (keepsZones_enterEditing s).answered _ _ _
  · exact (keepsZones_enterEditing s).answered _ _ _
  · exact keepsZones_answer _ _ _ s
  · exact keepsZones_answer _ _ _ s

theorem keepsZones_closeConfig (s : State) : KeepsZones s (closeConfig s) := by
  refine .ite (fun _ => ?_) (fun _ => keepsZones_answer _ _ _ s)
  split
  · exact keepsZones_answer _ _ _ s
  · exact (KeepsZones.trans (Quiet.keeps {}) (keepsZones_enterRunning _)).answered _ _ _

/-- R185: the working configuration takes a record; the configuration in force stands. -/
theorem keepsZones_working {c : Cfg} {s : State} (h : Tuned s.cfg.working → Tuned c) :
    KeepsZones s { s with cfg := { s.cfg with working := c } } where
  air l := airSound_cfg l.cfg.inForce (h l.cfg.working) l
  demand := demandLaw_congr rfl rfl fun _ _ k => k
  status := statusLaw_congr rfl rfl fun _ _ k => k
  vent := ventLaw_congr rfl rfl fun _ _ => ventAt_congr rfl rfl rfl
  dark := darkLaw_congr rfl rfl fun _ _ => darkAt_congr rfl rfl

theorem keepsZones_writeConfig (q : Req CfgWrite) (s : State) : KeepsZones s (writeConfig q s) := by
  refine .ite (fun _ => ?_) (fun _ => keepsZones_answer _ _ _ s)
  split
  · exact keepsZones_answer _ _ _ s
  · split
    · rename_i hw
      exact (keepsZones_working fun l => tuned_writeRecord l hw).answered _ _ _
    · exact keepsZones_answer _ _ _ s

theorem keepsZones_readConfig (q : CfgRead) (s : State) : KeepsZones s (readConfig q s) := by
  have h := fun r x => keepsZones_answer 0x12 r x s
  dsimp only [readConfig]
  split
  · exact .ite (fun _ => h _ _) (fun _ => h _ _)
  · exact h _ _
  · exact .ite (fun _ => h _ _) (fun _ => h _ _)

theorem quiet_takeCurve (block : Nat) (outputs : List Nat) (s : State) : Quiet s (takeCurve block outputs s) :=
  .after (.foldl _ (fun t g => quiet_rewantGroup g t) _ _) {}

theorem keepsZones_writeCurve (q : Req (Nat × Option (List Nat))) (s : State) : KeepsZones s (writeCurve q s) := by
  refine keepsZones_unlessStoring (keepsZones_inRunning ?_)
  split
  · exact keepsZones_answer _ _ _ s
  · refine keepsZones_refusable ?_
    split
    · exact keepsZones_answer _ _ _ s
    · exact keepsZones_refusable ((quiet_takeCurve _ _ s).keeps.answered _ _ _)

theorem keepsZones_bindAddress (a b way : Nat) (s : State) : KeepsZones s (bindAddress a b way s) := by
  have hc : ∀ t, Quiet t (callDetector a t) := fun t => .ite (fun _ => .refl t) (fun _ => .after (quiet_note _ false _) {})
  have h : ∀ t, Quiet s t → KeepsZones s (bindBay b a t) := fun t q => q.keeps.trans (keepsZones_bindBay b a t)
  dsimp only [bindAddress]
  exact .ite (fun _ => (h _ {}).quiet (hc _)) (fun _ => h _ {})

theorem keepsZones_mapChecks (a b : Nat) (s : State) : KeepsZones s (mapChecks a b s) := by
  refine keepsZones_refusable ?_
  split
  · exact .ite (fun _ => keepsZones_answer _ _ _ s) (fun _ => keepsZones_answer _ _ _ s)
  · split
    · exact keepsZones_answer _ _ _ s
    · refine .ite (fun _ => keepsZones_answer _ _ _ s) (fun _ => ?_)
      split
      · exact keepsZones_answer _ _ _ s
      · exact (keepsZones_bindAddress _ _ _ s).answered _ _ _

theorem keepsZones_unbindAddress (a b way : Nat) (s : State) : KeepsZones s (unbindAddress a b way s) := by
  have h : ∀ t, Quiet s t → KeepsZones s (unbindBay b t) := fun t q => q.keeps.trans (keepsZones_unbindBay b t)
  exact (h { s with cfg := { s.cfg with map := mapPut s.cfg.map (a % 128) way none, imageCurrent := false } } {}).quiet {}

theorem keepsZones_removeMapping (a : Addr) (s : State) : KeepsZones s (removeMapping a s) := by
  dsimp only [removeMapping]
  split
  · exact .ite (fun _ => (keepsZones_unbindAddress _ _ _ s).answered _ _ _) (fun _ => keepsZones_answer _ _ _ s)
  · exact keepsZones_answer _ _ _ s

theorem keepsZones_lookupMapping (a : Addr) (s : State) : KeepsZones s (lookupMapping a s) := by
  dsimp only [lookupMapping]
  split <;> exact keepsZones_answer _ _ _ s

theorem keepsZones_reserveRequest (b time : Nat) (s : State) : KeepsZones s (reserveRequest b time s) := by
  refine keepsZones_refusable ?_
  split
  · exact (keepsZones_reserveBay b _ s).answered _ _ _
  · exact (keepsZones_reserveBay b _ s).answered _ _ _
  all_goals exact keepsZones_answer _ _ _ s

theorem keepsZones_releaseRequest (b : Nat) (s : State) : KeepsZones s (releaseRequest b s) :=
  keepsZones_refusable (.ite (fun _ => (keepsZones_cancelReservation b s).answered _ _ _)
    (fun _ => keepsZones_answer _ _ _ s))

theorem keepsZones_closeRequest (b : Nat) (s : State) : KeepsZones s (closeRequest b s) :=
  keepsZones_refusable (keepsZones_refusable ((keepsZones_closeBay b s).answered _ _ _))

theorem keepsZones_openRequest (b : Nat) (s : State) : KeepsZones s (openRequest b s) :=
  keepsZones_refusable (.ite (fun _ => (keepsZones_openBay b s).answered _ _ _) (fun _ => keepsZones_answer _ _ _ s))

theorem keepsZones_clearFan (n : Nat) (s : State) : KeepsZones s (clearFan n s) :=
  keepsZones_refusable (.ite (fun _ => (keepsZones_takeChannel n _ s).answered _ _ _) (fun _ => keepsZones_answer _ _ _ s))

theorem keepsZones_levelCountsRule (q : Req (List (Nat × Nat))) (s : State) : KeepsZones s (levelCountsRule q s) := by
  refine keepsZones_inRunning ?_
  split
  · exact keepsZones_answer _ _ _ s
  · refine keepsZones_refusable ?_
    exact .ite (fun _ => (quiet_writeLevels _ s).keeps.answered _ _ _) (fun _ => keepsZones_answer _ _ _ s)

theorem keepsZones_levelCountsBroadcast (items : List (Nat × Nat)) (s : State) :
    KeepsZones s (levelCountsBroadcast items s) :=
  .ite (fun _ => (quiet_writeLevels items s).keeps) (fun _ => .refl s)

theorem keepsZones_pushRule (q : PushReq) (s : State) : KeepsZones s (pushRule q s) := by
  dsimp only [pushRule]
  split
  · exact keepsZones_answer _ _ _ s
  · exact keepsZones_refusable (keepsZones_refusable ((keepsZones_pushEntry (takeValue_le _ _)).answered _ _ _))

theorem keepsZones_popRule (s : State) : KeepsZones s (popRule s) := by
  dsimp only [popRule]
  split
  · exact keepsZones_answer _ _ _ s
  · exact (keepsZones_removeEntries _ s).answered _ _ _

theorem keepsZones_removeRule (id : Nat) (s : State) : KeepsZones s (removeRule id s) := by
  dsimp only [removeRule]
  split
  · exact keepsZones_answer _ _ _ s
  · exact .ite (fun _ => (keepsZones_removeEntries _ s).answered _ _ _) (fun _ => keepsZones_answer _ _ _ s)

theorem quiet_receiverTo (r : Receiver) (s : State) : Quiet s (receiverTo r s) := .ite (fun _ => .refl s) (fun _ => {})

/-! ## Every command -/

/-- A command that answers a next state keeps the laws of the zones. -/
def OutKeepsZones (s : State) (o : Out) : Prop := ∀ t, o = .next t → KeepsZones s t

namespace OutKeepsZones

variable {s u : State}

theorem next (k : KeepsZones s u) : OutKeepsZones s (.next u) := fun t h => by
  rw [← Host.Outcome.next.inj h]
  exact k

theorem within {i n : Nat} (k : KeepsZones s u) : OutKeepsZones s (Machine.within i n u) := by
  unfold Machine.within
  split
  · exact next k
  · exact fun t h => absurd h (by simp)

end OutKeepsZones

/-- An event whose effect, when it is due, keeps the laws. -/
theorem keepsZones_event {c : Prop} [Decidable c] {s u : State} (h : KeepsZones s u) :
    KeepsZones s (if c then u else s) := .ite (fun _ => h) (fun _ => .refl s)

/-- The same, with the slots filled after it. -/
theorem keepsZones_eventFill {c : Prop} [Decidable c] {s u : State} (h : KeepsZones s u) :
    KeepsZones s (if c then fillSlots u else s) := keepsZones_event h.fill

/-- An event that the part does not take in one condition. -/
theorem keepsZones_unless {c : Prop} [Decidable c] {s u : State} (h : KeepsZones s u) :
    KeepsZones s (if c then s else u) := .ite (fun _ => .refl s) (fun _ => h)

/-- A request that only reads, with one refusal. -/
theorem keepsZones_read {kind : Nat} {r q : Result} {x y : List Byte} {c : Prop} [Decidable c] (s : State) :
    KeepsZones s (if c then answer kind r x s else answer kind q y s) :=
  .ite (fun _ => keepsZones_answer _ _ _ s) (fun _ => keepsZones_answer _ _ _ s)

theorem keepsZones_exec (i : Instr) (s : State) : OutKeepsZones s (exec i s) := by
  cases i with
  | powerOnReset straps => exact .next (keepsZones_resetPowerOn straps s)
  | commandedReset straps => exact .next (keepsZones_event (keepsZones_resetCommanded straps s))
  | loadEnd source => exact .next (keepsZones_eventFill (keepsZones_endLoad source s))
  | t32Tap loops keys order => exact .next (keepsZones_tapT32 loops keys order s)
  | t4Tap rdy order => exact .next (keepsZones_tapT4 rdy order s)
  | t1Tap ain order => exact .next (keepsZones_tapT1 ain order s)
  | correctionWindow => exact .next (keepsZones_event (.of_does (does_time s _) rfl))
  | warmupEnd slot raw => exact .within (keepsZones_endWarmup slot raw s)
  | sensorSilent slot => exact .within (keepsZones_fallSilent slot s)
  | doseRingAdvance zone => exact .within (keepsZones_ringEvent zone s)
  | creditDecay zone => exact .within (keepsZones_decayEvent zone s)
  | alarmHoldEnd zone => exact .within (keepsZones_holdEvent zone s)
  | bayState a d x => exact .next (keepsZones_deliver (keepsZones_takeBayState a d x s))
  | gasValue a g => exact .next (keepsZones_deliver (keepsZones_takeGasValue a g s))
  | pedPresence a p => exact .next (keepsZones_deliver (keepsZones_takePed a p s))
  | lumState a x => exact .next (keepsZones_deliver (keepsZones_takeLumState a x s))
  | signState a x => exact .next (keepsZones_deliver (keepsZones_takeSignState a x s))
  | announce a type => exact .next (keepsZones_deliver (keepsZones_takeAnnounce a type s))
  | fieldFrameDiscarded why =>
    cases why with
    | malformed => exact .next (keepsZones_event (.of_does (does_busOnly s _ _ _ _ _ _ _ _) rfl))
    | sentKind | unknownKind | notDevice => exact .next (.refl s)
  | settleExpiry bay => exact .within (keepsZones_eventFill (keepsZones_settleTap bay s))
  | silenceScan => exact .next (keepsZones_eventFill (keepsZones_scanTap s))
  | reservationExpiry bay => exact .within (keepsZones_eventFill (keepsZones_reservationTap bay s))
  | stayLitEnd g => exact .within (keepsZones_eventFill (quiet_stayTap g s).keeps)
  | pathStep p => exact .within (keepsZones_eventFill (quiet_pathTap p s).keeps)
  | lightResend => exact .next (keepsZones_eventFill (quiet_lightResendTap s).keeps)
  | readyTimeout n => exact .within (keepsZones_eventFill (keepsZones_fanTap n false s))
  | readyLoss n => exact .within (keepsZones_eventFill (keepsZones_fanTap n false s))
  | coastEnd n => exact .within (keepsZones_event (Quiet.keeps (quiet_setChannel (coastTap_state _))))
  | loopOccupied i => exact .within (keepsZones_eventFill (keepsZones_loopTapActive i s))
  | loopRelease i => exact .within (keepsZones_unless (keepsZones_releaseLoop i s).fill)
  | loopStuck i => exact .within (keepsZones_eventFill (keepsZones_occupiedTap i s))
  | sequenceTimeout p => exact .within (keepsZones_event (quiet_setPair p _ s).keeps)
  | rotationAdvance => exact .next (keepsZones_eventFill (quiet_rotationTap s).keeps)
  | guidanceResend => exact .next (keepsZones_eventFill (quiet_guideResendTap s).keeps)
  | levelStale v => exact .within (keepsZones_eventFill (quiet_levelTap v s).keeps)
  | overrideExpiry =>
    refine .next (keepsZones_unless (.fill (.trans (keepsZones_mapStack ?_ ?_ ?_ s) (keepsZones_expireEntries _)))) <;>
      intro e <;> split <;> rfl
  | inputActive k => exact .within (keepsZones_eventFill (keepsZones_keyTapActive k s))
  | inputRelease k => exact .within (keepsZones_unless (keepsZones_keyRelease k s).fill)
  | frameOffer =>
    refine .next (keepsZones_event ?_)
    split
    · exact keepsZones_putSlot _ _ s
    · exact .refl s
  | arbitrationLost => exact .next (keepsZones_endAttempt (fun i x s => keepsZones_putSlot i _ s) s)
  | attemptSuccess => exact .next (keepsZones_endAttempt keepsZones_attemptSucceeds s)
  | attemptFailed => exact .next (keepsZones_endAttempt keepsZones_attemptFails s)
  | busOffRecovery => exact .next (keepsZones_eventFill (.of_does (does_recoverBus s) rfl))
  | storePageDone =>
    refine .next ?_
    split
    · exact keepsZones_event (Quiet.keeps {})
    · exact .refl s
  | storeReadbackDone agrees =>
    refine .next ?_
    split
    · exact keepsZones_event (.ite (fun _ => .quiet (Quiet.keeps {}) (quiet_post _ _))
        (fun _ => .quiet (Quiet.keeps {}) (quiet_post _ _)))
    · exact .refl s
  | storePageTimeout =>
    refine .next ?_
    split
    · exact keepsZones_event (.quiet (Quiet.keeps {}) (quiet_post _ _))
    · exact .refl s
  | frameSync | frameGapTimeout | frameCrcMismatch => exact .next (quiet_receiverTo _ s).keeps
  | frameIgnored a k => exact .next (keepsZones_event (quiet_receiverTo _ s).keeps)
  | frameLenAbandoned len => exact .next (keepsZones_event (quiet_receiverTo _ s).keeps)
  | unknownKind k => exact .next (keepsZones_unless ((keepsZones_arrive s).answered _ _ _))
  | replyStart =>
    refine .next (keepsZones_unless ?_)
    split
    · exact Quiet.keeps {}
    · exact .refl s
  | replyEnd => exact .next (keepsZones_event (Quiet.keeps {}))
  | identify r => exact .next (keepsZones_request fun _ t => keepsZones_answer _ _ _ t)
  | getStatus r => exact .next (keepsZones_request fun _ t => keepsZones_answer _ _ _ t)
  | reset r => exact .next (keepsZones_request fun _ t => Quiet.keeps {})
  | setClock broadcast r =>
    exact .next (.ite (fun _ => keepsZones_broadcastIn fun _ t => Quiet.keeps {})
      (fun _ => keepsZones_request fun _ t => Quiet.keeps {}))
  | getClock r => exact .next (keepsZones_request fun _ t => keepsZones_answer _ _ _ t)
  | configOpen r => exact .next (keepsZones_request (keepsZones_thenFill fun _ t => keepsZones_openConfig t))
  | configWrite r => exact .next (keepsZones_request keepsZones_writeConfig)
  | configRead r => exact .next (keepsZones_request keepsZones_readConfig)
  | configClose r => exact .next (keepsZones_request (keepsZones_thenFill fun _ t => keepsZones_closeConfig t))
  | configStore r =>
    exact .next (keepsZones_request fun id t =>
      keepsZones_unlessStoring (keepsZones_inRunning (.answered (Quiet.keeps {}) _ _ _)))
  | curveWrite r => exact .next (keepsZones_request (keepsZones_thenFill keepsZones_writeCurve))
  | curveRead r => exact .next (keepsZones_request fun _ t => keepsZones_read t)
  | mapWrite r =>
    exact .next (keepsZones_request (keepsZones_thenFill fun x t =>
      keepsZones_unlessStoring (keepsZones_notInFallback (keepsZones_mapChecks x.1 x.2 t))))
  | mapRemove r =>
    exact .next (keepsZones_request (keepsZones_thenFill fun a t =>
      keepsZones_unlessStoring (keepsZones_notInFallback (keepsZones_removeMapping a t))))
  | mapLookup r => exact .next (keepsZones_request keepsZones_lookupMapping)
  | mapReadSet r => exact .next (keepsZones_request fun _ t => keepsZones_read t)
  | listUnknown r => exact .next (keepsZones_request fun _ t => keepsZones_answer _ _ _ t)
  | clearUnknown r => exact .next (keepsZones_request fun _ t => Quiet.keeps {})
  | readZone r =>
    exact .next (keepsZones_request fun z t => keepsZones_refusable (keepsZones_inRunning (keepsZones_answer _ _ _ t)))
  | readBays r => exact .next (keepsZones_request fun _ t => keepsZones_read t)
  | readSensor r => exact .next (keepsZones_request fun _ t => keepsZones_read t)
  | readFan r => exact .next (keepsZones_request fun _ t => keepsZones_read t)
  | readGroup r => exact .next (keepsZones_request fun _ t => keepsZones_read t)
  | readSign r => exact .next (keepsZones_request fun _ t => keepsZones_read t)
  | readLoops r => exact .next (keepsZones_request fun _ t => keepsZones_answer _ _ _ t)
  | bayReserve r =>
    exact .next (keepsZones_request (keepsZones_thenFill fun x t =>
      keepsZones_inRunning (keepsZones_reserveRequest x.1 x.2 t)))
  | bayRelease r =>
    exact .next (keepsZones_request (keepsZones_thenFill fun b t => keepsZones_inRunning (keepsZones_releaseRequest b t)))
  | bayClose r =>
    exact .next (keepsZones_request (keepsZones_thenFill fun b t =>
      keepsZones_unlessStoring (keepsZones_inRunning (keepsZones_closeRequest b t))))
  | bayOpen r =>
    exact .next (keepsZones_request (keepsZones_thenFill fun b t =>
      keepsZones_unlessStoring (keepsZones_inRunning (keepsZones_openRequest b t))))
  | fanClear r => exact .next (keepsZones_request (keepsZones_thenFill keepsZones_clearFan))
  | levelCounts broadcast r =>
    exact .next (.ite (fun _ => keepsZones_broadcastIn (keepsZones_thenFill keepsZones_levelCountsBroadcast))
      (fun _ => keepsZones_request (keepsZones_thenFill keepsZones_levelCountsRule)))
  | overridePush r => exact .next (keepsZones_request (keepsZones_thenFill keepsZones_pushRule))
  | overridePop r => exact .next (keepsZones_request (keepsZones_thenFill fun _ t => keepsZones_popRule t))
  | overrideRemove r => exact .next (keepsZones_request (keepsZones_thenFill keepsZones_removeRule))
  | overrideList r => exact .next (keepsZones_request fun _ t => keepsZones_answer _ _ _ t)
  | fetchNotices r => exact .next (keepsZones_request fun _ t => Quiet.keeps {})
  | noticeClasses r => exact .next (keepsZones_request fun _ t => Quiet.keeps {})
  | pwmPeriodStart => exact .next (quiet_eachChannel takeReference_state s).keeps

/-- Every step keeps the laws of the zones and the ranges of the air values. -/
theorem keepsZones_step {s t : State} (h : step s = .next t) : KeepsZones s t := by
  unfold step at h
  split at h
  · rw [← Host.Outcome.next.inj h]
    exact Quiet.keeps {}
  · rename_i c rest _
    exact .trans (t := { s with pending := rest }) (Quiet.keeps {}) (keepsZones_exec c _ t h)

/-- Settles O55: every command keeps the four laws, each by the operations that it runs: what changes an input of a
condition forms the condition again. -/
theorem zoneConditionsFollowTheirInputs : Obligations.ZoneConditionsFollowTheirInputs := by
  intro s t h
  have k := keepsZones_step h
  exact ⟨k.demand, k.status, k.vent, k.dark⟩

/-- Settles O50: Z by the equations of the zone stage; the ranges, with those of the tuning values and of the override
entries beside them, are kept by every command. -/
theorem airValuesStayInRange : Obligations.AirValuesStayInRange := by
  refine ⟨fun p fallback fs x h => ?_, fun s t hc hs ha h => ((keepsZones_step h).air ⟨hc, hs.values, ha⟩).air⟩
  dsimp only
  rw [zoneStage_z p fallback h, zoneStage_s p fallback h, zoneStage_twa p fallback h, zoneStage_e, sampleZ]

end Sys2Proof.Machine
end

section
/-! SUPPORT. The demand curve (R46) and the air state of a zone (R50 to R53). -/

namespace Sys2Proof.Machine

/-! ## The demand curve (R46) -/

/-- R46: the demand on the segment from `a` to `b`, `r` of 125 steps along it. -/
def segmentDemand (a b r : Nat) : Nat := if a ≤ b then a + (b - a) * r / 125 else a - (a - b) * r / 125

theorem curveDemand_eq_segment {p : Params} {z : Nat} (h : z / 125 < 16) :
    curveDemand p z = segmentDemand (p.curve.nth (z / 125)) (p.curve.nth (z / 125 + 1)) (z % 125) := by
  unfold curveDemand segmentDemand
  rw [if_neg (by omega)]
  simp only [sub_mul_div]

/-- Between two points the quotient is what the division leaves, and less than the whole difference. -/
theorem segment_quotient {d r : Nat} (hr : r < 125) :
    125 * (d * r / 125) ≤ d * r ∧ d * r < 125 * (d * r / 125) + 125 ∧ (0 < d → d * r / 125 < d) :=
  ⟨Nat.mul_div_le _ _, by omega, fun hd => Nat.div_lt_of_lt_mul (by
    rw [Nat.mul_comm 125]
    exact Nat.mul_lt_mul_of_pos_left hr hd)⟩

/-- R46: what the demand on a segment is, with the division truncating toward zero, and where it lies. -/
structure OnSegment (a b r : Nat) (d : Int) : Prop where
  value : d = a + (((b : Int) - a) * r).tdiv 125
  low : min (a : Int) b ≤ d
  high : d ≤ max (a : Int) b
  short : (a : Int) ≠ b → d ≠ b
  falling : (b : Int) < a → ((b : Int) - a) * r ≤ 125 * (d - a) ∧ 125 * (d - a) < ((b : Int) - a) * r + 125

theorem onSegment_rising {a b r : Nat} (h : a ≤ b) (hr : r < 125) : OnSegment a b r (segmentDemand a b r) := by
  obtain ⟨d, rfl⟩ := Nat.exists_eq_add_of_le h
  obtain ⟨h1, h2, h3⟩ := segment_quotient (d := d) hr
  have hle := segment_le d r
  rw [Nat.mod_eq_of_lt hr] at hle
  have he : segmentDemand a (a + d) r = a + d * r / 125 := by rw [segmentDemand, if_pos h, Nat.add_sub_cancel_left]
  have hq : (((a + d : Nat) : Int) - a) * r = ((d * r : Nat) : Int) := by
    push_cast
    ring
  rw [he]
  refine ⟨?_, by push_cast; omega, by push_cast; omega, fun hn => ?_, fun hn => absurd hn (by push_cast; omega)⟩
  · rw [hq, Nat.cast_add, show ((125 : Int)) = ((125 : Nat) : Int) from rfl, ← Int.ofNat_tdiv]
  · have hd : 0 < d := by
      by_contra h0
      exact hn (by push_cast; omega)
    have := h3 hd
    push_cast
    omega

theorem onSegment_falling {a b r : Nat} (h : b < a) (hr : r < 125) : OnSegment a b r (segmentDemand a b r) := by
  obtain ⟨d, rfl⟩ := Nat.exists_eq_add_of_lt h
  obtain ⟨h1, h2, h3⟩ := segment_quotient (d := d + 1) hr
  have hlt := h3 (Nat.succ_pos d)
  have he : ((segmentDemand (b + d + 1) b r : Nat) : Int) = b + (d + 1) - ((d + 1) * r / 125 : Nat) := by
    rw [segmentDemand, if_neg (by omega), show b + d + 1 - b = d + 1 by omega]
    omega
  have hq : ((b : Int) - (b + d + 1 : Nat)) * r = -(((d + 1) * r : Nat) : Int) := by
    push_cast
    ring
  rw [he]
  refine ⟨?_, by omega, by omega, fun _ => by omega, fun _ => ?_⟩
  · rw [hq, Int.neg_tdiv, show ((125 : Int)) = ((125 : Nat) : Int) from rfl, ← Int.ofNat_tdiv]
    push_cast
    ring
  · rw [hq]
    omega

theorem onSegment (a b : Nat) {r : Nat} (hr : r < 125) : OnSegment a b r (segmentDemand a b r) := by
  rcases Nat.lt_or_ge b a with h | h
  · exact onSegment_falling h hr
  · exact onSegment_rising h hr

/-- Settles O14: the last D is the curve at Z, which is the last point or lies on a segment. -/
theorem demandFollowsTheCurve : Obligations.DemandFollowsTheCurve := by
  intro p fallback fs x h
  have hz : (zoneStage p fallback fs x).z ≤ 2000 := by
    rw [zoneStage_z p fallback h]
    exact Nat.min_le_left _ _
  have hd := zoneStage_lastD p fallback h x
  dsimp only
  rw [hd]
  generalize (zoneStage p fallback fs x).z = z at hz ⊢
  have hr : (z : Int) - 125 * ((z / 125 : Nat) : Int) = ((z % 125 : Nat) : Int) := by omega
  have hs := onSegment (p.curve.nth (z / 125)) (p.curve.nth (z / 125 + 1)) (Nat.mod_lt z (by decide : 125 > 0))
  simp only [hr]
  refine ⟨fun hi => ⟨by omega, ?_⟩, fun hi => ?_, curveDemand_le hz, fun ⟨ha, hb, h1⟩ => ?_⟩
  · unfold curveDemand
    rw [if_pos (by omega)]
  · rw [curveDemand_eq_segment (by omega)]
    exact ⟨hs.value, hs.low, hs.high, hs.short, hs.falling⟩
  · rw [curveDemand_eq_segment (by omega), show p.curve.nth (z / 125) = 800 by exact_mod_cast ha,
      show p.curve.nth (z / 125 + 1) = 600 by exact_mod_cast hb, show z % 125 = 1 by exact_mod_cast h1]
    rfl

/-! ## The air state (R50 to R53) -/

/-- R50, R51: the threshold of the state that Z gives is at most Z. -/
theorem threshold_stateOfIndex_le (p : Params) (z : Nat) : threshold p (stateOfIndex p z) ≤ z := by
  unfold stateOfIndex
  split
  · assumption
  · split
    · assumption
    · split
      · assumption
      · exact Nat.zero_le z

/-- R50: the state that Z gives is a known one. -/
theorem stateOfIndex_known (p : Params) (z : Nat) : 1 ≤ airRank (stateOfIndex p z) := by
  unfold stateOfIndex
  repeat' split
  all_goals decide

theorem airRank_inj {a b : AirState} (h : airRank a = airRank b) : a = b := by
  cases a <;> cases b <;> first | rfl | exact absurd h (by decide)

theorem holdsAbove_iff (p : Params) (z : Nat) (st : AirState) : holdsAbove p z st = true ↔ threshold p st ≤ z + p.hysteresis := by
  rw [holdsAbove, decide_eq_true_iff]

/-- R51: what a fall leaves: a lower state that Z still reaches, and no higher one that it does. -/
theorem fallState_spec (p : Params) (z : Nat) {st : AirState} (hst : 1 < airRank st) :
    airRank (fallState p z st) < airRank st ∧
    (fallState p z st = .clear ∨ fallState p z st = .elevated ∨ fallState p z st = .high) ∧
    (fallState p z st ≠ .clear → threshold p (fallState p z st) ≤ z + p.hysteresis) ∧
    ∀ t, t = .elevated ∨ t = .high → airRank t < airRank st → threshold p t ≤ z + p.hysteresis →
      airRank t ≤ airRank (fallState p z st) := by
  unfold fallState
  simp only [holdsAbove_iff]
  split
  · rename_i h
    refine ⟨h.1, by simp, fun _ => h.2, ?_⟩
    rintro t (rfl | rfl) _ _ <;> decide
  · rename_i hh
    split
    · rename_i h
      refine ⟨h.1, by simp, fun _ => h.2, ?_⟩
      rintro t (rfl | rfl) hr ht
      · decide
      · exact absurd ⟨hr, ht⟩ hh
    · rename_i he
      refine ⟨hst, by simp, fun h => absurd rfl h, ?_⟩
      rintro t (rfl | rfl) hr ht
      · exact absurd ⟨hr, ht⟩ he
      · exact absurd ⟨hr, ht⟩ hh

/-- R50: out of UNKNOWN, and upwards, a zone takes the state that its Z gives. -/
theorem nextKnown_of_rise {p : Params} {z hold : Nat} {st : AirState}
    (h : st = .unknown ∨ airRank st < airRank (stateOfIndex p z)) : nextKnown p z hold st = stateOfIndex p z := by
  unfold nextKnown
  split
  · rfl
  · rw [if_pos (h.resolve_left ‹_›)]

/-- R51, R52: a zone stays by the hysteresis of its state, or while its alarm hold runs. -/
theorem nextKnown_of_stay {p : Params} {z hold : Nat} {st : AirState} (hu : st ≠ .unknown)
    (hr : airRank (stateOfIndex p z) ≤ airRank st)
    (h : threshold p st ≤ z + p.hysteresis ∨ st = .alarm ∧ 0 < hold) : nextKnown p z hold st = st := by
  unfold nextKnown
  rw [if_neg hu, if_neg (by omega)]
  split
  · rfl
  · rename_i hn
    rw [if_pos]
    exact h.resolve_left fun k => hn (.inr ((holdsAbove_iff p z st).mpr k))

/-- R51: else it falls. -/
theorem nextKnown_of_fall {p : Params} {z hold : Nat} {st : AirState} (hu : st ≠ .unknown)
    (hr : airRank (stateOfIndex p z) ≤ airRank st) (ht : z + p.hysteresis < threshold p st)
    (hh : ¬(st = .alarm ∧ 0 < hold)) : nextKnown p z hold st = fallState p z st := by
  have hc : st ≠ .clear := by
    rintro rfl
    exact absurd ht (Nat.not_lt_zero _)
  have hn : ¬holdsAbove p z st = true := fun k => absurd ((holdsAbove_iff p z st).mp k) (by omega)
  unfold nextKnown
  rw [if_neg hu, if_neg (by omega), if_neg (by simp [hc, hn]), if_neg hh]

theorem one_lt_airRank {p : Params} {z : Nat} {st : AirState} (ht : z + p.hysteresis < threshold p st) :
    1 < airRank st := by
  cases st
  case unknown | clear => exact absurd ht (Nat.not_lt_zero _)
  all_goals decide

/-- R50, R51: a fall does not go below the state that Z gives. -/
theorem stateOfIndex_le_fallState {p : Params} {z : Nat} {st : AirState}
    (hr : airRank (stateOfIndex p z) ≤ airRank st) (ht : z + p.hysteresis < threshold p st) :
    airRank (stateOfIndex p z) ≤ airRank (fallState p z st) := by
  obtain ⟨-, hcases, -, hbest⟩ := fallState_spec p z (one_lt_airRank ht)
  have hz := threshold_stateOfIndex_le p z
  have hlt : airRank (stateOfIndex p z) < airRank st := by
    refine Nat.lt_of_le_of_ne hr fun e => ?_
    rw [airRank_inj e] at hz
    omega
  have h1 : 1 ≤ airRank (fallState p z st) := by
    rcases hcases with e | e | e <;> rw [e] <;> decide
  cases hu : stateOfIndex p z
  case unknown => exact Nat.zero_le _
  case clear => exact h1
  case alarm =>
    rw [hu] at hlt
    cases st <;> exact absurd hlt (by decide)
  case elevated | high =>
    rw [hu] at hlt hz
    exact hbest _ (by simp) hlt (by omega)

/-- R50 to R52: the state of a zone with a contributor, by what Z, its state and its alarm hold give. -/
theorem nextKnown_spec (p : Params) (z hold : Nat) (st : AirState) :
    (nextKnown p z hold st = stateOfIndex p z ∧ (st = .unknown ∨ airRank st < airRank (stateOfIndex p z))) ∨
    (nextKnown p z hold st = st ∧ st ≠ .unknown ∧ airRank (stateOfIndex p z) ≤ airRank st ∧
      (threshold p st ≤ z + p.hysteresis ∨ st = .alarm ∧ 0 < hold)) ∨
    (nextKnown p z hold st = fallState p z st ∧ st ≠ .unknown ∧ airRank (stateOfIndex p z) ≤ airRank st ∧
      z + p.hysteresis < threshold p st ∧ ¬(st = .alarm ∧ 0 < hold)) := by
  by_cases hrise : st = .unknown ∨ airRank st < airRank (stateOfIndex p z)
  · exact .inl ⟨nextKnown_of_rise hrise, hrise⟩
  · obtain ⟨hu, hr⟩ := not_or.mp hrise
    have hr' := Nat.not_lt.mp hr
    by_cases hstay : threshold p st ≤ z + p.hysteresis ∨ st = .alarm ∧ 0 < hold
    · exact .inr (.inl ⟨nextKnown_of_stay hu hr' hstay, hu, hr', hstay⟩)
    · obtain ⟨ht, hh⟩ := not_or.mp hstay
      exact .inr (.inr ⟨nextKnown_of_fall hu hr' (by omega) hh, hu, hr', by omega, hh⟩)

/-- R50 to R53: the state and the hold that the zone stage gives. -/
theorem zoneStage_state (p : Params) (fallback : Nat) (fs : List Filtered) (x : ZoneAir) :
    (zoneStage p fallback fs x).state =
      if fs = [] then nextUnknown (if x.state = .alarm then x.hold - 1 else x.hold) x.state
      else nextKnown p (zoneStage p fallback fs x).z (if x.state = .alarm then x.hold - 1 else x.hold) x.state := by
  change (if 0 < (formIndices p fs x).contributors then _ else _) = _
  rw [formIndices_contributors, formIndices_state, formIndices_hold]
  by_cases h : fs = []
  · rw [if_pos h, if_neg (by simp [h])]
  · rw [if_neg h, if_pos (List.length_pos_of_ne_nil h)]
    rfl

theorem zoneStage_hold (p : Params) (fallback : Nat) (fs : List Filtered) (x : ZoneAir) :
    (zoneStage p fallback fs x).hold = if (zoneStage p fallback fs x).state ≠ .alarm then 0
      else if x.state = .alarm then x.hold - 1 else p.alarmHold := by
  change (if (zoneStage p fallback fs x).state = .alarm then
    (if (formIndices p fs x).state = .alarm then
      (if (formIndices p fs x).state = .alarm then (formIndices p fs x).hold - 1 else (formIndices p fs x).hold)
      else p.alarmHold) else 0) = _
  rw [formIndices_state, formIndices_hold, ite_not]
  by_cases h : x.state = .alarm <;> simp [h]

/-- Settles O15: the rise, the stay and the fall are the three cases of the next state; the zone stage gives it the alarm
hold after its decrement. -/
theorem airStateRisesAtOnceAndFallsByHysteresis : Obligations.AirStateRisesAtOnceAndFallsByHysteresis := by
  refine ⟨fun p z hold st => ?_, fun p fallback fs x => ⟨fun h => ?_, fun h => ?_, zoneStage_hold p fallback fs x⟩⟩
  · have hk := stateOfIndex_known p z
    rcases nextKnown_spec p z hold st with ⟨e, h⟩ | ⟨e, hu, hr, h⟩ | ⟨e, hu, hr, ht, hh⟩ <;> dsimp only <;> rw [e]
    · exact ⟨fun _ => rfl, Nat.le_refl _, fun _ => rfl, fun _ k => absurd k (Nat.lt_irrefl _),
        fun hu k => absurd (h.resolve_left hu) (by omega), fun hu k => absurd (h.resolve_left hu) (by omega)⟩
    · exact ⟨fun k => absurd k hu, hr, fun k => absurd k (by omega), fun _ _ => ⟨Nat.le_refl _, h.imp_right fun k => ⟨k.1, k⟩⟩,
        fun _ _ _ => rfl, fun _ _ ht hn => absurd h (not_or.mpr ⟨by omega, hn⟩)⟩
    · have hf := fallState_spec p z (one_lt_airRank ht)
      refine ⟨fun k => absurd k hu, stateOfIndex_le_fallState hr ht, fun k => absurd k (by omega), fun _ k => ?_,
        fun _ _ k => absurd k (not_or.mpr ⟨by omega, hh⟩), fun _ _ _ _ => hf⟩
      refine ⟨hf.1.le, .inl (hf.2.2.1 fun hc => ?_)⟩
      rw [hc] at k
      exact absurd k (Nat.not_lt.mpr hk)
  · rw [zoneStage_state, if_neg h]
  · rw [zoneStage_state, if_pos h, nextUnknown]
    by_cases ha : x.state = .alarm
    · simp only [ha, true_and, if_true]
      exact if_congr (by omega) rfl rfl
    · simp [ha]

end Sys2Proof.Machine
end

section
/-! SUPPORT. The ends of the counts of the air job (R32, R33, R35, R40, R43, R52) and the reports of sensors, presence sensors,
luminaires and signs (R34, R35, R89, R91, R101, R133). -/

namespace Sys2Proof.Machine

/-! ## A sensor's new record -/

/-- Sensor `n` becomes `x`; nothing else of the air monitor changes, and of the rest only the notice queue. -/
structure SensorBecomes (n : Nat) (x : Sensor) (s t : State) : Prop where
  frame : changesOnly [.air, .notices] s t
  zones : t.air.zones = s.air.zones
  others : ∀ m, m ≠ n → t.air.sensors.nth m = s.air.sensors.nth m
  self : t.air.sensors.nth n = x

theorem setSensor_becomes {n : Nat} (hn : n < 32) (x : Sensor) (s : State) : SensorBecomes n x s (setSensor n x s) where
  frame := ((does_setSensor s n x).mono rfl).frame
  zones := rfl
  others _ hm := Tab.nth_put_ne _ _ hm
  self := Tab.nth_put_self _ _ hn

theorem takeSensorState_air (n : Nat) (x : Sensor) (s : State) : (takeSensorState n x s).air = (setSensor n x s).air := by
  dsimp only [takeSensorState]
  split <;> rfl

theorem takeSensorState_becomes {n : Nat} (hn : n < 32) (x : Sensor) (s : State) :
    SensorBecomes n x s (takeSensorState n x s) := by
  have h := setSensor_becomes hn x s
  have ha := takeSensorState_air n x s
  exact ⟨(does_takeSensorState n x s).frame, by rw [ha]; exact h.zones, by rw [ha]; exact h.others,
    by rw [ha]; exact h.self⟩

theorem within_of_lt {i n : Nat} (h : i < n) (s : State) : within i n s = .next s := if_pos h

/-! ## The ends of the counts -/

/-- R32: the state of an analog sensor from a raw count. -/
theorem convert_state (r : SensorRec) (raw : Nat) : (convert r raw).1 =
    if raw + 20 < r.zero then .faultLow else if raw ≤ max r.zero r.span then .ok else .over := by
  unfold convert
  split
  · rfl
  · split
    · rw [if_pos (by omega)]
    · split
      · rw [if_pos (by omega)]
      · rw [if_neg (by omega)]

/-- R32: the concentration of a raw count between zero and span. -/
theorem convert_between {r : SensorRec} {raw : Nat} (hz : r.zero < raw) (hs : raw ≤ r.span) :
    (convert r raw).2 = some ((raw - r.zero) * r.fullScale / (r.span - r.zero)) := by
  unfold convert
  rw [if_neg (by omega), if_neg (by omega), if_pos hs]

theorem isField_iff (n : Nat) : isField n = true ↔ 8 ≤ n := by rw [isField, decide_eq_true_iff]

/-- R33: the record of a sensor whose warm-up ends, before it is evaluated. -/
def warmedUp (n : Nat) (raw : BitVec 10) (x : Sensor) : Sensor :=
  { x with warmup := 0, raw := if isField n then x.raw else raw.toNat }

/-- R31, R33: a warm-up ends: in RUNNING the sensor is evaluated at once. -/
theorem endWarmup_becomes {n : Nat} {raw : BitVec 10} {s : State} (hn : n < 32) (hl : loading s = false)
    (hp : (s.cfg.inForce.sensors.nth n).present = true) (hw : (s.air.sensors.nth n).warmup = 1) :
    SensorBecomes n
      (if running s then evaluated n (s.cfg.inForce.sensors.nth n) (warmedUp n raw (s.air.sensors.nth n))
        else warmedUp n raw (s.air.sensors.nth n)) s (endWarmup n raw s) := by
  have h : endWarmup n raw s = if running s then
      takeSensorState n (evaluated n (s.cfg.inForce.sensors.nth n) (warmedUp n raw (s.air.sensors.nth n))) s
      else setSensor n (warmedUp n raw (s.air.sensors.nth n)) s := if_pos ⟨hl, hp, hw⟩
  rw [h]
  split
  · exact takeSensorState_becomes hn _ s
  · exact setSensor_becomes hn _ s

theorem evaluated_warmup (n : Nat) (r : SensorRec) (x : Sensor) : (evaluated n r x).warmup = x.warmup := by
  unfold evaluated
  split <;> rfl

theorem evaluated_raw (n : Nat) (r : SensorRec) (x : Sensor) : (evaluated n r x).raw = x.raw := by
  unfold evaluated
  split <;> rfl

/-- R32: an analog sensor evaluated. -/
theorem evaluated_analog {n : Nat} (hn : n < 8) (r : SensorRec) (x : Sensor) :
    evaluated n r x = { x with state := (convert r x.raw).1, last := (convert r x.raw).2.or x.last } := by
  unfold evaluated
  rw [if_neg (by simp [isField_iff]; omega)]

theorem warmedUp_raw (n : Nat) (raw : BitVec 10) (x : Sensor) :
    (warmedUp n raw x).raw = if n < 8 then raw.toNat else x.raw := by
  rw [warmedUp, ← ite_not]
  simp only [isField_iff, Nat.not_le]

/-- Settles O16: each count's end is one record written, by the event of its tap. -/
theorem airCountsEnd : Obligations.AirCountsEnd := by
  intro s
  refine ⟨fun n raw hn hl hp hw => ?_, fun n h8 hn hr hp hs => ?_, fun z hr hz h0 => ?_, fun z hr hz h4 => ?_,
    fun z hr hz ha hh => ?_⟩
  · have hb := endWarmup_becomes (raw := raw) hn hl hp hw
    refine ⟨_, within_of_lt hn _, hb.frame, hb.zones, hb.others, ?_⟩
    rw [hb.self, ← warmedUp_raw n raw (s.air.sensors.nth n)]
    refine ⟨?_, ?_, ?_, fun hr h8 => ?_⟩
    · split
      · exact evaluated_warmup _ _ _
      · rfl
    · split
      · exact evaluated_raw _ _ _
      · rfl
    · split
      · exact evaluated_filtered _ _ _
      · rfl
    · have hraw := warmedUp_raw n raw (s.air.sensors.nth n)
      rw [if_pos h8] at hraw
      rw [if_pos hr, evaluated_analog h8, hraw]
      exact ⟨convert_state _ _, fun hz hs => by rw [convert_between hz hs, Option.some_or]⟩
  · have he : fallSilent n s =
        takeSensorState n (rederived { s.air.sensors.nth n with silence := 10 }) s :=
      if_pos ⟨hr, hp, (isField_iff n).mpr h8, hs⟩
    have hb := takeSensorState_becomes hn (rederived { s.air.sensors.nth n with silence := 10 }) s
    exact ⟨_, (within_of_lt hn _).trans (congrArg _ he), hb.frame, hb.zones, hb.others, hb.self⟩
  · have he : ringEvent z s = setZoneAir z (advanceRing (s.air.zones.nth z)) s := if_pos ⟨hr, hz, h0⟩
    refine (within_of_lt (zonePresent_lt hz) _).trans (congrArg _ (he.trans ?_))
    rw [advanceRing, if_pos h0]
    rfl
  · exact (within_of_lt (zonePresent_lt hz) _).trans (congrArg _ (if_pos ⟨hr, hz, h4⟩))
  · exact (within_of_lt (zonePresent_lt hz) _).trans (congrArg _ (if_pos ⟨hr, hz, ha, hh⟩))

/-! ## Reports (R34, R89, R91, R101, R133) -/

/-- R34, R35: the record of a field sensor after a report. -/
theorem rederived_recordReport (full : Nat) (g : GasReport) (x : Sensor) :
    rederived (recordReport full g x) = { x with
      silence := 0
      reported := match g with
        | .ok v => if v ≤ full then .ok else .over
        | .warmup => .warmup
        | .fault => .fault
      last := match g with
        | .ok v => some (min v full)
        | .warmup | .fault => x.last
      state := if 0 < x.warmup then .warmup else match g with
        | .ok v => if v ≤ full then .ok else .over
        | .warmup => .warmup
        | .fault => .fault } := by
  cases g with
  | ok v =>
    unfold rederived recordReport fieldState
    by_cases h : v ≤ full
    · simp only [if_pos h, Nat.min_eq_left h]
      simp
    · simp only [if_neg h, Nat.min_eq_right (Nat.le_of_not_le h)]
      simp
  | warmup => rfl
  | fault => rfl

/-- R102: forming DARK again leaves every group. -/
theorem formDark_groups (z : Nat) (s : State) : (formDark z s).light.groups = s.light.groups := by
  rcases formDark_cases z s with ⟨e, -⟩ | ⟨e, -⟩ | ⟨d, e⟩ <;> rw [e]
  · rfl
  · rw [(does_guideZone z _).light rfl, (does_post _ _).light rfl]
    rfl

theorem setGroupState_state {g : Nat} (hg : g < 48) (st : GroupState) (s : State) (k : Nat) :
    ((setGroupState g st s).light.groups.nth k).state = if k = g then st else (s.light.groups.nth k).state := by
  dsimp only [setGroupState]
  split
  · rename_i h
    split
    · rename_i e
      rw [e, h]
    · rfl
  · rw [formDark_groups, (does_post _ _).light rfl, setGroup_light, Tab.nth_put]
    by_cases e : k = g <;> simp [e, hg]

/-- R102: forming DARK again announces DARK and guidance statuses only. -/
theorem announced_formDark {s t : State} {n : Notice} (h : announced s t n)
    (hd : ∀ z d, sameNotice n (.zoneDark z d) = false) (hg : ∀ z st, sameNotice n (.zoneGuidance z st) = false) (z : Nat) :
    announced s (formDark z t) n := by
  have hp : announced s (putDark z t) n := h
  rcases formDark_cases z t with ⟨e, -⟩ | ⟨e, -⟩ | ⟨d, e⟩ <;> rw [e]
  · exact h
  · exact hp
  · exact (hp.post_other (hd z d)).guideArrival hg _ _

/-- R101: a group's changed state is announced. -/
theorem setGroupState_announced {g : Nat} {st : GroupState} {s : State} (h : (s.light.groups.nth g).state ≠ st) :
    announced s (setGroupState g st s) (.groupState g st) := by
  have h1 := (does_setGroup s g { s.light.groups.nth g with state := st }).announced_post (.groupState g st) rfl rfl
  dsimp only [setGroupState]
  rw [if_neg h]
  exact announced_formDark h1 (fun _ _ => rfl) (fun _ _ => rfl) _

theorem setSignState_state {i : Nat} (hi : i < 24) (st : SignHealth) (s : State) (k : Nat) :
    ((setSignState i st s).guide.signs.nth k).state = if k = i then st else (s.guide.signs.nth k).state := by
  dsimp only [setSignState]
  split
  · rename_i h
    split
    · rename_i e
      rw [e, h]
    · rfl
  · rw [(does_post _ _).guide rfl]
    change ((s.guide.signs.modify i _).nth k).state = _
    rw [Tab.nth_modify]
    by_cases e : k = i <;> simp [e, hi]

/-- R133: a sign's changed state is announced. -/
theorem setSignState_announced {i : Nat} {st : SignHealth} {s : State} (h : (s.guide.signs.nth i).state ≠ st) :
    announced s (setSignState i st s) (.signState i st) := by
  dsimp only [setSignState]
  rw [if_neg h]
  exact announced_post rfl rfl

/-- R89: what a trigger leaves of the stay-lit times, of a present group or not. -/
theorem trigger_stay_any {s : State} (hr : running s = true) (g h : Nat) :
    ((trigger g s).light.groups.nth h).stay = if h = g ∧ h < 48 ∧ (s.cfg.inForce.groups.nth g).present = true
      then (s.cfg.inForce.groups.nth g).stayLit else (s.light.groups.nth h).stay := by
  by_cases hp : g ∈ presentGroups s
  · obtain ⟨hlt, hpr⟩ := mem_presentGroups.mp hp
    rw [trigger_stay hr hp]
    by_cases e : h = g <;> simp [e, hlt, hpr]
  · rw [if_neg fun ⟨e, hlt, hpr⟩ => hp (mem_presentGroups.mpr ⟨e ▸ hlt, hpr⟩)]
    dsimp only [trigger]
    split
    · rename_i k
      simp only [hr, Bool.true_and] at k
      have hge : 48 ≤ g := Nat.not_lt.mp fun hlt => hp (mem_presentGroups.mpr ⟨hlt, k⟩)
      rw [Tab.nth_of_ge _ hge] at k
      exact absurd k (by decide)
    · rfl

/-- A delivered frame: its effect, and then the slots filled. -/
theorem within_deliver {a : Addr} {s : State} (h : delivered s a = true) (f : State → State) :
    (.next (deliver a f s) : Out) = .next (fillSlots (f s)) := congrArg _ (deliver_of_delivered h f)

/-- Settles O20: the owner that knows the address takes the report; the filling of the slots leaves what it took. -/
theorem sensorLightAndSignReports : Obligations.SensorLightAndSignReports := by
  intro a s hr hd
  refine ⟨fun g n hn => ?_, fun i p hi => ?_, fun g h hg => ?_, fun i h hi => ?_⟩
  · have he : takeGasValue a g s = takeSensorState n (rederived (recordReport (s.cfg.inForce.sensors.nth n).fullScale g
        (s.air.sensors.nth n))) s := by
      simp only [takeGasValue, hn, hr, if_true]
    have hb := takeSensorState_becomes (fieldSensorAt_lt hn) (rederived (recordReport
      (s.cfg.inForce.sensors.nth n).fullScale g (s.air.sensors.nth n))) s
    have hf := does_fillSlots (takeGasValue a g s)
    rw [← he] at hb
    refine ⟨_, within_deliver hd _, ?_, ?_, ?_, ?_⟩
    · exact (hb.frame.mono rfl).trans (hf.mono rfl).frame
    · rw [hf.air rfl]
      exact hb.zones
    · rw [hf.air rfl]
      exact hb.others
    · rw [hf.air rfl, hb.self]
      exact (rederived_recordReport _ g _).trans (by cases g <;> rfl)
  · have hp : takePed a p s = if p = .detected then trigger (s.cfg.inForce.presence.nth i).group s else s := by
      cases p <;> simp [takePed, hi]
    refine ⟨_, within_deliver hd _, ?_, fun h => ?_⟩
    · refine (Does.trans ?_ ((does_fillSlots _).mono rfl)).frame
      rw [hp]
      exact .ite (fun _ => (does_trigger _ s).mono rfl) (fun _ => .refl s)
    · rw [(marks_fillSlots _).stay, hp]
      by_cases e : p = .detected
      · rw [if_pos e, trigger_stay_any hr]
        simp only [e, true_and]
      · simp only [e, if_false, false_and]
  · have he : takeLumState a h s = setGroupState g (if h = .ok then .ok else .lampFault) s := by
      cases h <;> simp [takeLumState, hg, hr]
    refine ⟨_, within_deliver hd _, ?_, fun k => ?_, fun hne => ?_⟩
    · rw [he]
      exact (((does_setGroupState _ _ s).mono rfl).trans ((does_fillSlots _).mono rfl)).frame
    · rw [(marks_fillSlots _).groupState, he, setGroupState_state (groupAt_lt hg)]
    · rw [he]
      exact announced.kept (setGroupState_announced hne) (does_fillSlots _) rfl
  · have he : takeSignState a h s = setSignState i (if h = .ok then .ok else .faulted) s := by
      cases h <;> simp [takeSignState, hi, hr]
    refine ⟨_, within_deliver hd _, ?_, fun k => ?_, fun hne => ?_⟩
    · rw [he]
      exact (((does_setSignState _ _ s).mono rfl).trans ((does_fillSlots _).mono rfl)).frame
    · rw [(marks_fillSlots _).signState, he, setSignState_state (signAt_lt hi)]
    · rw [he]
      exact announced.kept (setSignState_announced hne) (does_fillSlots _) rfl

end Sys2Proof.Machine
end

section
/-! SUPPORT. What the changes of the override stack and the passages leave of the air monitor and the fan drive, and what the
air sample makes of the zones (R31): the values that the other parts of a T1 tap do not touch. -/

namespace Sys2Proof.Machine

/-! ## The values that a sample forms, and those that a channel steps -/

/-- A zone's air record but for its floor and its demand, which the override stack forms (R47, R48). -/
def ZoneAir.sampled (x : ZoneAir) : ZoneAir := { x with floor := 0, demand := 0 }

/-- The same, but for the credit too, which passages bring (R42). -/
def ZoneAir.uncredited (x : ZoneAir) : ZoneAir := { x with e := 0, floor := 0, demand := 0 }

/-- A channel but for its force, which the override stack gives (R64). -/
def Channel.unforced (x : Channel) : Channel := { x with force := none }

theorem ZoneAir.uncredited_of_sampled {x y : ZoneAir} (h : x.sampled = y.sampled) : x.uncredited = y.uncredited :=
  congrArg (fun v : ZoneAir => { v with e := 0 }) h

/-- From `s` to `t` the sensors stand, and of every zone and channel all that the override stack does not form. -/
structure StackOnly (s t : State) : Prop where
  sensors : t.air.sensors = s.air.sensors
  zones : ∀ z, (t.air.zones.nth z).sampled = (s.air.zones.nth z).sampled
  channels : ∀ n, (t.fan.channels.nth n).unforced = (s.fan.channels.nth n).unforced

namespace StackOnly

variable {s t u : State} {bs : List Block}

theorem refl (s : State) : StackOnly s s := ⟨rfl, fun _ => rfl, fun _ => rfl⟩

theorem trans (h : StackOnly s t) (k : StackOnly t u) : StackOnly s u :=
  ⟨k.sensors.trans h.sensors, fun z => (k.zones z).trans (h.zones z), fun n => (k.channels n).trans (h.channels n)⟩

theorem ite {c : Prop} [Decidable c] (h : c → StackOnly s t) (k : ¬c → StackOnly s u) :
    StackOnly s (if c then t else u) := by
  split
  · exact h ‹_›
  · exact k ‹_›

theorem of_does (h : Does bs s t) (ha : bs.contains .air = false) (hf : bs.contains .fan = false) : StackOnly s t := by
  have a := h.air ha
  have f := h.fan hf
  exact ⟨by rw [a], fun z => by rw [a], fun n => by rw [f]⟩

/-- What leaves the air monitor and the fan drive, after what the override stack does. -/
theorem after (h : StackOnly s t) (k : Does bs t u) (ha : bs.contains .air = false) (hf : bs.contains .fan = false) :
    StackOnly s u := h.trans (of_does k ha hf)

end StackOnly

theorem stackOnly_airStack (s : State) : StackOnly s (airStack s) := by
  refine ⟨rfl, fun z => ?_, fun _ => rfl⟩
  change ZoneAir.sampled ((Tab.build 16 _).nth z) = _
  rw [Tab.nth_build]
  split
  · dsimp only
    split
    · split <;> rfl
    · rfl
  · rw [Tab.nth_of_ge _ (by omega)]

/-- R79: forming VENT_LOST again leaves every channel. -/
theorem formVentLost_channels (z : Nat) (s : State) : (formVentLost z s).fan.channels = s.fan.channels := by
  rcases formVentLost_cases z s with ⟨e, -⟩ | e <;> rw [e]
  rw [(does_guideZone z _).fan rfl, (does_post _ _).fan rfl]
  rfl

theorem formVentLosts_channels (s : State) : (formVentLosts s).fan.channels = s.fan.channels := by
  unfold formVentLosts
  induction presentZones s generalizing s with
  | nil => rfl
  | cons z zs ih => exact (ih _).trans (formVentLost_channels z s)

theorem fanStack_channels (s : State) : (fanStack s).fan.channels =
    Tab.build 12 (fun n => { s.fan.channels.nth n with force := effectiveForce s.ovr.stack n }) := by
  dsimp only [fanStack]
  split
  · rfl
  · rw [formVentLosts_channels]

theorem stackOnly_fanStack (s : State) : StackOnly s (fanStack s) := by
  have a := (does_fanStack s).air rfl
  refine ⟨by rw [a], fun z => by rw [a], fun n => ?_⟩
  rw [fanStack_channels, Tab.nth_build]
  split
  · rfl
  · rw [Tab.nth_of_ge _ (by omega)]

theorem stackOnly_announceStack (s : State) : StackOnly s (announceStack s) :=
  ((((stackOnly_fanStack s).trans (stackOnly_airStack _)).after (does_lightStack _) rfl rfl).after
    (does_guideStack _) rfl rfl).after (does_formSounder _) rfl rfl

theorem stackOnly_keyPush (k : Nat) (s : State) : StackOnly s (keyPush k s) := by
  dsimp only [keyPush]
  split
  · exact .refl s
  · exact .trans (.of_does (does_keyPlace k _ s) rfl rfl) (stackOnly_announceStack _)

theorem stackOnly_pendingPush (k : Nat) (s : State) : StackOnly s (pendingPush k s) :=
  .ite (fun _ => (stackOnly_keyPush k s).after (does_post _ _) rfl rfl) (fun _ => .refl s)

theorem stackOnly_removeEntries (p : Entry → Bool) (s : State) : StackOnly s (removeEntries p s) :=
  ((StackOnly.of_does (does_setStack s _) rfl rfl).trans (stackOnly_announceStack _)).trans
    ((stackOnly_pendingPush 0 _).trans (stackOnly_pendingPush 1 _))

theorem stackOnly_stackT1 (s : State) : StackOnly s (stackT1 s) := by
  refine .trans (.of_does (does_setStack s (s.ovr.stack.map Entry.tick)) rfl rfl) ?_
  exact .ite (fun _ => .refl _) (fun _ => .trans (.of_does (does_postAll _ _) rfl rfl) (stackOnly_removeEntries _ _))

theorem stackOnly_cancelMutes (s : State) : StackOnly s (cancelMutes s) := by
  have h : ∀ ns ids, StackOnly s (spendKey ids 1 (spendKey ids 0 (postAll ns s))) := fun ns ids =>
    ((StackOnly.of_does (does_postAll ns s) rfl rfl).after (does_spendKey ids 0 _) rfl rfl).after
      (does_spendKey ids 1 _) rfl rfl
  exact .ite (fun _ => h _ _) (fun _ => (h _ _).trans (stackOnly_removeEntries _ _))

/-- R54: the announcement of an air state, with the mutes that an ALARM cancels. -/
theorem stackOnly_announceAir (z : Nat) (s : State) : StackOnly s (announceAir z s) := by
  have h : ∀ n, StackOnly s (lightAir z (guideAir z (post n s))) := fun n =>
    ((StackOnly.of_does (does_post n s) rfl rfl).after (does_guideAir z _) rfl rfl).after (does_lightAir z _) rfl rfl
  refine .after ?_ (does_formSounder _) rfl rfl
  exact .ite (fun _ => (h _).trans (stackOnly_cancelMutes _)) (fun _ => h _)

/-! ## The zone stage on what the override stack leaves -/

theorem advanceRing_sampled (x : ZoneAir) : advanceRing x.sampled = (advanceRing x).sampled := by
  unfold advanceRing ZoneAir.sampled
  split <;> rfl

theorem ringed_sampled (fs : List Filtered) (x : ZoneAir) : ringed fs x.sampled = (ringed fs x).sampled := by
  rw [ringed, advanceRing_sampled]
  rfl

theorem formIndices_sampled (p : Params) (fs : List Filtered) (x : ZoneAir) :
    formIndices p fs x.sampled = (formIndices p fs x).sampled := by
  by_cases h : fs = []
  · rw [h, formIndices_nil, formIndices_nil, ringed_sampled]
  · rw [formIndices_of_ne_nil p h, formIndices_of_ne_nil p h]
    simp only [sampleZ, sampleTwa, ringed_sampled]
    rfl

/-- R47, R48: the zone stage does not look at the floor and the demand for its other values. -/
theorem zoneStage_sampled (p : Params) (fallback : Nat) (fs : List Filtered) (x : ZoneAir) :
    (zoneStage p fallback fs x).sampled = (formAirState p (formIndices p fs x.sampled)).sampled := by
  rw [formIndices_sampled]
  rfl

theorem zoneStage_congr {p : Params} {fallback : Nat} {fs : List Filtered} {x y : ZoneAir} (h : x.sampled = y.sampled) :
    (zoneStage p fallback fs x).sampled = (zoneStage p fallback fs y).sampled := by
  rw [zoneStage_sampled, zoneStage_sampled, h]

/-! ## One part of a fold -/

/-- What every step of a fold leaves stands at its end. -/
theorem foldl_keeps {α β : Type} {f : State → α → State} {π : State → β} {l : List α} {s : State}
    (h : ∀ l₁ q l₂, l = l₁ ++ q :: l₂ → π (f (l₁.foldl f s) q) = π (l₁.foldl f s)) : π (l.foldl f s) = π s := by
  induction l generalizing s with
  | nil => rfl
  | cons q l ih =>
    refine (ih fun l₁ r l₂ e => ?_).trans (h [] q l rfl)
    exact h (q :: l₁) r l₂ (by rw [e, List.cons_append])

/-- What every step but one leaves is, after the fold, what that step makes of it. -/
theorem foldl_once {α β : Type} {f : State → α → State} {π : State → β} {l : List α} {p : α} {s : State}
    (hn : l.Nodup) (hp : p ∈ l)
    (h : ∀ l₁ q l₂, l = l₁ ++ q :: l₂ → q ≠ p → π (f (l₁.foldl f s) q) = π (l₁.foldl f s)) :
    ∃ l₁ l₂, l = l₁ ++ p :: l₂ ∧ π (l₁.foldl f s) = π s ∧ π (l.foldl f s) = π (f (l₁.foldl f s) p) := by
  obtain ⟨l₁, l₂, rfl⟩ := List.append_of_mem hp
  obtain ⟨h1, h2⟩ : p ∉ l₁ ∧ p ∉ l₂ := by
    rw [List.nodup_middle, List.nodup_cons, List.mem_append, not_or] at hn
    exact hn.1
  refine ⟨l₁, l₂, rfl, foldl_keeps fun k₁ q k₂ e => h k₁ q (k₂ ++ p :: l₂) (by simp [e]) ?_, ?_⟩
  · rintro rfl
    exact h1 (by simp [e])
  · rw [List.foldl_append, List.foldl_cons]
    refine foldl_keeps fun k₁ q k₂ e => ?_
    have hq : q ≠ p := by
      rintro rfl
      exact h2 (by simp [e])
    have := h (l₁ ++ p :: k₁) q k₂ (by simp [e]) hq
    rwa [List.foldl_append, List.foldl_cons] at this

/-! ## The air sample (R31) -/

/-- The same configuration, sensors and values of zone `z`. -/
def zoneView (z : Nat) (s : State) : ConfigUnit × Tab Sensor 32 × ZoneAir :=
  (s.cfg, s.air.sensors, (s.air.zones.nth z).sampled)

theorem sampleZone_cfg (old : Tab Sensor 32) (z : Nat) (s : State) : (sampleZone old z s).cfg = s.cfg :=
  (does_sampleZone old z s).cfg rfl

/-- R31: a zone's sample, but for what the announcement of its air state can change on the override stack. -/
theorem stackOnly_sampleZone (old : Tab Sensor 32) (z : Nat) (s : State) :
    StackOnly (setZoneAir z (zoneStage (params s) (s.cfg.inForce.zones.nth z).fallbackDemand (contributions s z)
      (s.air.zones.nth z)) s) (sampleZone old z s) := by
  have h : ∀ x, StackOnly (setZoneAir z x s) (postSensors old (fun r => r.zone == z) (setZoneAir z x s)) := fun x =>
    .of_does (does_postSensors old _ _) rfl rfl
  exact .ite (fun _ => h _) (fun _ => (h _).trans (stackOnly_announceAir z _))

theorem zoneView_sampleZone_ne {old : Tab Sensor 32} {y z : Nat} (h : z ≠ y) (s : State) :
    zoneView z (sampleZone old y s) = zoneView z s := by
  have k := stackOnly_sampleZone old y s
  rw [zoneView, sampleZone_cfg, k.sensors, k.zones, setZoneAir_air, Tab.nth_put_ne _ _ h]
  rfl

theorem contributions_congr {s t : State} (hc : t.cfg = s.cfg) (hs : t.air.sensors = s.air.sensors) (z : Nat) :
    contributions t z = contributions s z := by
  have h : contributes t z = contributes s z := by
    funext n
    simp only [contributes, hc, hs]
  simp only [contributions, h, hs]

theorem nodup_presentZones (s : State) : (presentZones s).Nodup := by
  refine List.Nodup.filter _ ?_
  decide

/-- The sensors taken by a T1 tap, the zones as they stood. -/
def sensed (ain : Tab (BitVec 10) 8) (s : State) : State := { s with air := { s.air with sensors := tapSensors ain s } }

/-- R31: the air sample gives every present zone its zone stage on the sensors of the tap. -/
theorem airTap_zone {ain : Tab (BitVec 10) 8} {s : State} (hr : running s = true) {z : Nat}
    (hz : zonePresent s.cfg.inForce z = true) :
    (airTap ain s).cfg = s.cfg ∧ (airTap ain s).air.sensors = tapSensors ain s ∧
    ((airTap ain s).air.zones.nth z).sampled = (zoneStage (params s) (s.cfg.inForce.zones.nth z).fallbackDemand
      (contributions (sensed ain s) z) (s.air.zones.nth z)).sampled := by
  have hl : ¬loading s = true := by
    rw [running, beq_iff_eq] at hr
    simp [loading, hr]
  have he : airTap ain s = (presentZones s).foldl (fun u y => sampleZone s.air.sensors y u)
      (postSensors s.air.sensors (fun r => !zonePresent s.cfg.inForce r.zone) (sensed ain s)) := by
    dsimp only [airTap]
    rw [if_neg hl, if_pos hr]
    rfl
  have hu := does_postSensors s.air.sensors (fun r => !zonePresent s.cfg.inForce r.zone) (sensed ain s)
  obtain ⟨l₁, l₂, -, hv, hf⟩ := foldl_once (f := fun u y => sampleZone s.air.sensors y u) (π := zoneView z)
    (s := postSensors s.air.sensors (fun r => !zonePresent s.cfg.inForce r.zone) (sensed ain s))
    (nodup_presentZones s) (mem_presentZones.mpr hz) (fun _ q _ _ hq => zoneView_sampleZone_ne (Ne.symm hq) _)
  rw [← he] at hf
  generalize hut : l₁.foldl (fun u y => sampleZone s.air.sensors y u)
    (postSensors s.air.sensors (fun r => !zonePresent s.cfg.inForce r.zone) (sensed ain s)) = u at hv hf
  have hview : zoneView z u = (s.cfg, tapSensors ain s, (s.air.zones.nth z).sampled) := by
    rw [hv, zoneView, hu.cfg rfl, hu.air rfl]
    rfl
  obtain ⟨hc, hs, hx⟩ : u.cfg = s.cfg ∧ u.air.sensors = tapSensors ain s ∧
      (u.air.zones.nth z).sampled = (s.air.zones.nth z).sampled := by
    simpa [zoneView] using hview
  have k := stackOnly_sampleZone s.air.sensors z u
  rw [zoneView, zoneView, sampleZone_cfg, k.sensors, k.zones, setZoneAir_air, Tab.nth_put_self _ _ (zonePresent_lt hz)] at hf
  obtain ⟨fc, fs, fx⟩ : (airTap ain s).cfg = u.cfg ∧ (airTap ain s).air.sensors = u.air.sensors ∧ _ := by
    simpa only [Prod.mk.injEq] using hf
  refine ⟨fc.trans hc, fs.trans hs, fx.trans ?_⟩
  rw [contributions_congr (s := sensed ain s) hc hs, params, hc]
  exact zoneStage_congr hx

end Sys2Proof.Machine
end

section
/-! SUPPORT. The order of a T1 tap (assumption 4), and what each part of it leaves to the others: the sensors, the values of a
sample and the channels. -/

namespace Sys2Proof.Machine

/-! ## The order of a tap -/

theorem nodup_eraseDups {α : Type} [BEq α] [LawfulBEq α] (l : List α) : l.eraseDups.Nodup := by
  match l with
  | [] => simp
  | a :: l =>
    rw [List.eraseDups_cons, List.nodup_cons, List.mem_eraseDups]
    exact ⟨by simp, nodup_eraseDups _⟩
termination_by l.length
decreasing_by exact Nat.lt_succ_of_le (List.length_filter_le _ _)

theorem nodup_orderOf {α : Type} [BEq α] [LawfulBEq α] (given default : List α) : (orderOf given default).Nodup :=
  nodup_eraseDups _

/-- Every part of a T1 tap takes its turn, whatever order is given. -/
theorem mem_t1Order (given : List T1Part) (p : T1Part) : p ∈ orderOf given t1Default := by
  rw [orderOf, List.mem_eraseDups, List.mem_append]
  right
  cases p <;> decide

/-! ## Passages at a T1 tap leave all but the credit (R42) -/

/-- From `s` to `t` the sensors stand, and of every zone all but its credit, its floor and its demand. -/
structure Credited (s t : State) : Prop where
  sensors : t.air.sensors = s.air.sensors
  zones : ∀ z, (t.air.zones.nth z).uncredited = (s.air.zones.nth z).uncredited

namespace Credited

variable {s t u : State} {bs : List Block}

theorem refl (s : State) : Credited s s := ⟨rfl, fun _ => rfl⟩

theorem trans (h : Credited s t) (k : Credited t u) : Credited s u :=
  ⟨k.sensors.trans h.sensors, fun z => (k.zones z).trans (h.zones z)⟩

theorem ite {c : Prop} [Decidable c] (h : c → Credited s t) (k : ¬c → Credited s u) :
    Credited s (if c then t else u) := by
  split
  · exact h ‹_›
  · exact k ‹_›

theorem foldl {α : Type} (f : State → α → State) (h : ∀ t x, Credited t (f t x)) (l : List α) (s : State) :
    Credited s (l.foldl f s) := by
  induction l generalizing s with
  | nil => exact refl s
  | cons x l ih => exact (h s x).trans (ih _)

theorem of_air (h : t.air = s.air) : Credited s t := ⟨by rw [h], fun z => by rw [h]⟩

theorem of_does (h : Does bs s t) (ha : bs.contains .air = false) : Credited s t := of_air (h.air ha)

end Credited

theorem credited_credit (z w : Nat) (s : State) : Credited s (credit z w s) := by
  refine .ite (fun _ => ⟨rfl, fun y => ?_⟩) (fun _ => .refl s)
  rw [setZoneAir_air, Tab.nth_put]
  split
  · rename_i e
    rw [e.1]
    rfl
  · rfl

theorem credited_passage (p : Nat) (d : Direction) (s : State) : Credited s (passage p d s) := by
  have hc : ∀ z w t, t.air = s.air → Credited s (credit z w t) := fun z w t ht => (Credited.of_air ht).trans (credited_credit z w t)
  have hp : ∀ t, t.air = s.air → Credited s (announcePassage p d t) := by
    intro t ht
    have hs : ∀ z w, Credited s (startPaths p (credit z w t)) := fun z w =>
      (hc z w t ht).trans (.of_does (does_startPaths p _) rfl)
    dsimp only [announcePassage]
    cases d with
    | out => exact hc _ _ t ht
    | into | undirected =>
      dsimp only
      split
      · exact (hs _ _).trans (.of_does (does_advanceSign _ _) rfl)
      · exact hs _ _
  dsimp only [passage]
  refine .ite (fun _ => hp _ ?_) (fun _ => .of_air ?_) <;> split <;> rfl

theorem credited_completeSequence (p : Nat) (s : State) : Credited s (completeSequence p s) := by
  have h : ∀ x d, Credited s (passage p d (setPair p x s)) := fun x d =>
    .trans (.of_air (t := setPair p x s) rfl) (credited_passage p d _)
  dsimp only [completeSequence]
  split
  · exact h _ _
  · exact h _ _
  · exact .of_air rfl
  · exact .of_air rfl
  · exact .refl s

theorem credited_pairCleared (i : Nat) (s : State) : Credited s (pairCleared i s) := by
  dsimp only [pairCleared]
  split
  · exact .refl s
  · split
    · exact .refl s
    · exact .ite (fun _ => .refl s) (fun _ => credited_completeSequence _ s)

theorem credited_occupiedTap (i : Nat) (s : State) : Credited s (occupiedTap i s) := by
  refine .ite (fun _ => .ite (fun _ => ?_) (fun _ => .of_air rfl)) (fun _ => .refl s)
  have h : ∀ x, Credited s (post (.loopState i true) (setLoop i x s)) := fun x => .of_air rfl
  exact (h _).trans (credited_pairCleared i _)

theorem does_sequenceTaps (l : List Nat) (s : State) : Does [.loops] s (l.foldl (fun t p => sequenceTap p t) s) :=
  Does.foldl _ (fun t p => does_sequenceTap p t) l s

theorem credited_loopT1 (s : State) : Credited s (loopT1 s) :=
  .ite (fun _ => .refl s) (fun _ => .trans (.foldl _ (fun t i => credited_occupiedTap i t) _ s)
    (.of_does (does_sequenceTaps _ _) rfl))

/-- R109: no loop of the list is about to turn STUCK: then none of them brings a passage. -/
theorem occupiedTaps_air {l : List Nat} {s : State} (hn : l.Nodup)
    (h : ∀ i ∈ l, (s.loops.inputs.nth i).state = .occupied → (s.loops.inputs.nth i).occupied < 119) :
    (l.foldl (fun t i => occupiedTap i t) s).air = s.air := by
  induction l generalizing s with
  | nil => rfl
  | cons i l ih =>
    obtain ⟨hi, hl⟩ := List.nodup_cons.mp hn
    have hs : occupiedTap i s = s ∨ ∃ x, occupiedTap i s = setLoop i x s := by
      dsimp only [occupiedTap]
      split
      · rename_i ho
        have := h i (by simp) ho
        rw [if_neg (by omega)]
        exact .inr ⟨_, rfl⟩
      · exact .inl rfl
    have hother : ∀ j ∈ l, (occupiedTap i s).loops.inputs.nth j = s.loops.inputs.nth j := by
      intro j hj
      rcases hs with e | ⟨x, e⟩ <;> rw [e]
      exact Tab.nth_put_ne _ _ (fun k => hi (k ▸ hj))
    refine (ih hl fun j hj => ?_).trans ?_
    · rw [hother j hj]
      exact h j (by simp [hj])
    · change (occupiedTap i s).air = s.air
      rcases hs with e | ⟨x, e⟩ <;> rw [e]
      rfl

theorem loopT1_air {s : State}
    (h : ∀ i, i < 8 → (s.loops.inputs.nth i).state = .occupied → (s.loops.inputs.nth i).occupied < 119) :
    (loopT1 s).air = s.air := by
  dsimp only [loopT1]
  split
  · rfl
  · rw [(does_sequenceTaps _ _).air rfl]
    exact occupiedTaps_air List.nodup_range fun i hi => h i (List.mem_range.mp hi)

/-! ## The parts of a T1 tap -/

section Parts

variable (ain : Tab (BitVec 10) 8) (s : State)

/-- The parts beside the air monitor and the loop unit leave the sensors and the values of the last sample. -/
theorem runT1_sampled {q : T1Part} (ha : q ≠ .air) (hl : q ≠ .loops) :
    (runT1 ain s q).air.sensors = s.air.sensors ∧
    ∀ z, ((runT1 ain s q).air.zones.nth z).sampled = (s.air.zones.nth z).sampled := by
  have h : ∀ {bs : List Block} {t : State}, Does bs s t → bs.contains .air = false →
      t.air.sensors = s.air.sensors ∧ ∀ z, (t.air.zones.nth z).sampled = (s.air.zones.nth z).sampled := by
    intro bs t k n
    rw [k.air n]
    exact ⟨rfl, fun _ => rfl⟩
  cases q with
  | air => exact absurd rfl ha
  | loops => exact absurd rfl hl
  | clock => exact h (does_time s _) rfl
  | bays => exact h (does_bayT1 s) rfl
  | sounder => exact h (.ite (fun _ => .refl s) (fun _ => does_sounderTap s)) rfl
  | fans => exact h (.ite (fun _ => .refl s) (fun _ => does_fan s _)) rfl
  | lights => exact h (.ite (fun _ => .refl s) (fun _ => does_lightsT1 s)) rfl
  | guide => exact h (.ite (fun _ => .refl s) (fun _ => does_guideT1 s)) rfl
  | stack =>
    have k : StackOnly s (runT1 ain s .stack) := .ite (fun _ => .refl s) (fun _ => stackOnly_stackT1 s)
    exact ⟨k.sensors, k.zones⟩

/-- Beside the air monitor, every part leaves the sensors, and of the zones all but credits, floors and demands. -/
theorem credited_runT1 {q : T1Part} (ha : q ≠ .air) : Credited s (runT1 ain s q) := by
  by_cases hl : q = .loops
  · subst hl
    exact credited_loopT1 s
  · obtain ⟨hs, hz⟩ := runT1_sampled ain s ha hl
    exact ⟨hs, fun z => ZoneAir.uncredited_of_sampled (hz z)⟩

theorem sampleZone_channels (old : Tab Sensor 32) (z n : Nat) :
    ((sampleZone old z s).fan.channels.nth n).unforced = (s.fan.channels.nth n).unforced :=
  (stackOnly_sampleZone old z s).channels n

theorem sampleZones_channels (old : Tab Sensor 32) (zs : List Nat) (n : Nat) :
    ((zs.foldl (fun u z => sampleZone old z u) s).fan.channels.nth n).unforced = (s.fan.channels.nth n).unforced :=
  foldl_keeps (π := fun t : State => (t.fan.channels.nth n).unforced) fun _ _ _ _ => sampleZone_channels _ _ _ n

theorem airTap_channels (n : Nat) : ((airTap ain s).fan.channels.nth n).unforced = (s.fan.channels.nth n).unforced := by
  dsimp only [airTap]
  split
  · rfl
  · split
    · rw [sampleZones_channels, (does_postSensors _ _ _).fan rfl]
    · rfl

/-- Beside the coast of the fan drive, every part leaves the channels but for their forces. -/
theorem runT1_channels {q : T1Part} (hq : q ≠ .fans) (n : Nat) :
    ((runT1 ain s q).fan.channels.nth n).unforced = (s.fan.channels.nth n).unforced := by
  have h : ∀ {bs : List Block} {t : State}, Does bs s t → bs.contains .fan = false →
      (t.fan.channels.nth n).unforced = (s.fan.channels.nth n).unforced := fun k m => by rw [k.fan m]
  cases q with
  | fans => exact absurd rfl hq
  | air => exact airTap_channels ain s n
  | clock => exact h (does_time s _) rfl
  | bays => exact h (does_bayT1 s) rfl
  | loops => exact h (does_loopT1 s) rfl
  | sounder => exact h (.ite (fun _ => .refl s) (fun _ => does_sounderTap s)) rfl
  | lights => exact h (.ite (fun _ => .refl s) (fun _ => does_lightsT1 s)) rfl
  | guide => exact h (.ite (fun _ => .refl s) (fun _ => does_guideT1 s)) rfl
  | stack => exact StackOnly.channels (.ite (fun _ => .refl s) (fun _ => stackOnly_stackT1 s)) n

theorem runT1_time {q : T1Part} (hq : q ≠ .clock) : (runT1 ain s q).time = s.time := by
  have h : ∀ {bs : List Block} {t : State}, Does bs s t → bs.contains .time = false → t.time = s.time := fun k => k.time
  cases q with
  | clock => exact absurd rfl hq
  | air => exact h (does_airTap ain s) rfl
  | bays => exact h (does_bayT1 s) rfl
  | loops => exact h (does_loopT1 s) rfl
  | sounder => exact h (.ite (fun _ => .refl s) (fun _ => does_sounderTap s)) rfl
  | fans => exact h (.ite (fun _ => .refl s) (fun _ => does_fan s _)) rfl
  | lights => exact h (.ite (fun _ => .refl s) (fun _ => does_lightsT1 s)) rfl
  | guide => exact h (.ite (fun _ => .refl s) (fun _ => does_guideT1 s)) rfl
  | stack => exact h (.ite (fun _ => .refl s) (fun _ => does_stackT1 s)) rfl

theorem runT1_inputs {q : T1Part} (hq : q ≠ .loops) : (runT1 ain s q).loops = s.loops := by
  have h : ∀ {bs : List Block} {t : State}, Does bs s t → bs.contains .loops = false → t.loops = s.loops := fun k => k.loops
  cases q with
  | loops => exact absurd rfl hq
  | air => exact h (does_airTap ain s) rfl
  | clock => exact h (does_time s _) rfl
  | bays => exact h (does_bayT1 s) rfl
  | sounder => exact h (.ite (fun _ => .refl s) (fun _ => does_sounderTap s)) rfl
  | fans => exact h (.ite (fun _ => .refl s) (fun _ => does_fan s _)) rfl
  | lights => exact h (.ite (fun _ => .refl s) (fun _ => does_lightsT1 s)) rfl
  | guide => exact h (.ite (fun _ => .refl s) (fun _ => does_guideT1 s)) rfl
  | stack => exact h (.ite (fun _ => .refl s) (fun _ => does_stackT1 s)) rfl

theorem runT1_cfg (q : T1Part) : (runT1 ain s q).cfg = s.cfg := (does_runT1 ain s q).cfg rfl

theorem runsT1_cfg (l : List T1Part) : (l.foldl (runT1 ain) s).cfg = s.cfg :=
  (Does.foldl _ (does_runT1 ain) l s).cfg rfl

end Parts

end Sys2Proof.Machine
end

section
/-! SUPPORT. A T1 tap: the part clock, the warm-ups and the coasts (R31, R75, R178), the air sample (R31, R39 to R44, R50 to R53)
and the decay of the emission credit (R43). -/

namespace Sys2Proof.Machine

/-! ## The air sample at a T1 tap (R31) -/

theorem sampleZones_sensors (old : Tab Sensor 32) (zs : List Nat) (s : State) :
    (zs.foldl (fun u z => sampleZone old z u) s).air.sensors = s.air.sensors :=
  foldl_keeps (π := fun t : State => t.air.sensors) fun _ _ _ _ => (stackOnly_sampleZone _ _ _).sensors

/-- R31: the sensors after the air monitor's part of a T1 tap. -/
theorem airTap_sensors (ain : Tab (BitVec 10) 8) (s : State) :
    (airTap ain s).air.sensors = if loading s then convertInputs ain s else tapSensors ain s := by
  dsimp only [airTap]
  split
  · rfl
  · split
    · rw [sampleZones_sensors, (does_postSensors _ _ _).air rfl]
    · rfl

/-- With the air monitor first, its part comes once, before all others. -/
theorem t1Order_air (rest : List T1Part) :
    ∃ l, orderOf (.air :: rest) t1Default = .air :: l ∧ ∀ q ∈ l, q ≠ .air := by
  have h := nodup_orderOf (.air :: rest) t1Default
  rw [orderOf, List.cons_append, List.eraseDups_cons] at h ⊢
  exact ⟨_, rfl, fun q hq e => (List.nodup_cons.mp h).1 (e ▸ hq)⟩

theorem credited_runsT1 (ain : Tab (BitVec 10) 8) {l : List T1Part} (h : ∀ q ∈ l, q ≠ .air) (s : State) :
    Credited s (l.foldl (runT1 ain) s) := by
  induction l generalizing s with
  | nil => exact .refl s
  | cons q l ih => exact (credited_runT1 ain s (h q (by simp))).trans (ih (fun r hr => h r (by simp [hr])) _)

theorem not_loading_of_running {s : State} (h : running s = true) : loading s = false := by
  rw [running, beq_iff_eq] at h
  simp [loading, h]

theorem fillSlots_air (s : State) : (fillSlots s).air = s.air := (does_fillSlots s).air rfl

/-- Settles O12: the air monitor's part gives every zone its stage; the parts after it leave the sensors, and of the zones
all but credits, floors and demands. -/
theorem t1TapTakesTheAirSample : Obligations.T1TapTakesTheAirSample := by
  intro ain rest s hr
  obtain ⟨l, hl, hne⟩ := t1Order_air rest
  have ht : tapT1 ain (.air :: rest) s = fillSlots (l.foldl (runT1 ain) (airTap ain s)) := by
    rw [tapT1, hl]
    rfl
  have hc := credited_runsT1 ain hne (airTap ain s)
  refine ⟨_, congrArg Host.Outcome.next ht, fun n _ => ?_, fun z hz => ?_⟩
  · rw [fillSlots_air, hc.sensors, airTap_sensors, not_loading_of_running hr]
    rfl
  · have h := (hc.zones z).trans (ZoneAir.uncredited_of_sampled (airTap_zone (ain := ain) hr hz).2.2)
    rw [fillSlots_air]
    simpa [ZoneAir.uncredited, ZoneAir.mk.injEq, sensed] using h

/-! ## The decay of the credit (R43) -/

theorem decay_lt {e : Nat} (h : 0 < e) : decay e < e := by
  unfold decay
  omega

/-- R43: enough decays bring any credit to 0. -/
theorem exists_decay_eq_zero (e : Nat) : ∃ k, decay^[k] e = 0 := by
  induction e using Nat.strong_induction_on with
  | _ e ih =>
    rcases Nat.eq_zero_or_pos e with rfl | he
    · exact ⟨0, rfl⟩
    · obtain ⟨k, hk⟩ := ih (decay e) (decay_lt he)
      exact ⟨k + 1, hk⟩

/-- R43: the credit of a present zone after a T1 tap at which no loop turns STUCK, whatever the order of its parts. -/
theorem tapT1_credit {ain : Tab (BitVec 10) 8} {order : List T1Part} {z : Nat} {s : State} (hr : running s = true)
    (hz : zonePresent s.cfg.inForce z = true)
    (h : ∀ i, i < 8 → (s.loops.inputs.nth i).state = .occupied → (s.loops.inputs.nth i).occupied < 119) :
    ((tapT1 ain order s).air.zones.nth z).e = creditAfter (s.air.zones.nth z).sample (s.air.zones.nth z).e := by
  have hn := nodup_orderOf order t1Default
  obtain ⟨l₁, l₂, -, hv, hf⟩ := foldl_once (f := runT1 ain) (π := fun t : State => (t.air.zones.nth z).sampled) (s := s)
    hn (mem_t1Order order .air) fun k₁ q k₂ hk hq => by
      by_cases hl : q = .loops
      · subst hl
        have hk₁ : .loops ∉ k₁ := by
          rw [hk, List.nodup_middle, List.nodup_cons, List.mem_append, not_or] at hn
          exact hn.1.1
        have hi : (k₁.foldl (runT1 ain) s).loops = s.loops := foldl_keeps (π := State.loops) fun a r b e =>
          runT1_inputs ain _ fun hr => hk₁ (by simp [e, hr])
        have ha : (runT1 ain (k₁.foldl (runT1 ain) s) .loops).air = (k₁.foldl (runT1 ain) s).air :=
          loopT1_air (by rw [hi]; exact h)
        simp only [ha]
      · exact (runT1_sampled ain _ hq hl).2 z
  have hc := runsT1_cfg ain s l₁
  have hu := (airTap_zone (ain := ain) (s := l₁.foldl (runT1 ain) s) (z := z) (by rw [running, hc]; exact hr)
    (by rw [hc]; exact hz)).2.2
  rw [tapT1, fillSlots_air]
  have he := congrArg ZoneAir.e (hf.trans hu)
  have hs := congrArg ZoneAir.sample hv
  have hx := congrArg ZoneAir.e hv
  simp only [ZoneAir.sampled] at he hs hx
  rw [he, zoneStage_e, hs, hx]

/-- Settles O13: the zone stage sheds the credit, at the tap as in the stage itself. -/
theorem creditDecaysAtEveryFourthSample : Obligations.CreditDecaysAtEveryFourthSample := by
  refine ⟨fun p fallback fs x => ⟨zoneStage_e p fallback fs x, ?_⟩, fun ain order z s hr hz h => ?_, fun e => ?_,
    by decide, by decide⟩
  · rintro rfl
    exact zoneStage_z_nil p fallback x
  · exact ⟨_, rfl, tapT1_credit hr hz h⟩
  · exact ⟨by omega, by omega, exists_decay_eq_zero e, rfl, rfl⟩

/-! ## The clock, the warm-ups and the coasts (R31, R75, R178) -/

theorem convertSlot_raw {n : Nat} (hn : n < 8) (raw : Nat) (x : Sensor) : (convertSlot n raw x).raw = raw := by
  rw [convertSlot, if_neg (by simp [isField_iff]; omega)]

theorem convertSlot_warmup (n raw : Nat) (x : Sensor) : (convertSlot n raw x).warmup = x.warmup := by
  unfold convertSlot
  split <;> rfl

/-- R31: the count of the silence, the last step of a slot's tap, leaves all else. -/
theorem slotTap_eq (tracking : Bool) (n : Nat) (r : SensorRec) (raw : Nat) (x : Sensor) :
    ∃ k, slotTap tracking n r raw x =
      { convertSlot n raw (if r.present then { x with warmup := x.warmup - 1 } else x) with silence := k } := by
  have h : ∀ y : Sensor, ∃ k, (if tracking ∧ r.present ∧ isField n ∧ y.silence < 10 then
      { y with silence := y.silence + 1 } else y) = { y with silence := k } := fun y => by
    split <;> exact ⟨_, rfl⟩
  exact h _

/-- R32, R35: the sensor stage leaves the warm-up and the raw count. -/
theorem sensorStage_input (p : Params) (n : Nat) (r : SensorRec) (x : Sensor) :
    (sensorStage p n r x).warmup = x.warmup ∧ (sensorStage p n r x).raw = x.raw := by
  unfold sensorStage
  split
  · exact ⟨rfl, rfl⟩
  · split <;> exact ⟨rfl, rfl⟩

/-- R31: the warm-up and the raw count of a slot after a T1 tap. -/
theorem tapSensors_input (ain : Tab (BitVec 10) 8) (s : State) {n : Nat} (hn : n < 32) :
    ((tapSensors ain s).nth n).warmup = (if (s.cfg.inForce.sensors.nth n).present = true
      then (s.air.sensors.nth n).warmup - 1 else (s.air.sensors.nth n).warmup) ∧
    (n < 8 → ((tapSensors ain s).nth n).raw = (ain.nth n).toNat) := by
  obtain ⟨k, hk⟩ := slotTap_eq (running s) n (s.cfg.inForce.sensors.nth n) (ain.nth n).toNat (s.air.sensors.nth n)
  have h : ((tapSensors ain s).nth n).warmup = (slotTap (running s) n (s.cfg.inForce.sensors.nth n) (ain.nth n).toNat
      (s.air.sensors.nth n)).warmup ∧ ((tapSensors ain s).nth n).raw = (slotTap (running s) n
      (s.cfg.inForce.sensors.nth n) (ain.nth n).toNat (s.air.sensors.nth n)).raw := by
    rw [tapSensors, Tab.nth_build, if_pos hn]
    dsimp only
    split
    · exact sensorStage_input _ _ _ _
    · exact ⟨rfl, rfl⟩
  rw [h.1, h.2, hk]
  refine ⟨(convertSlot_warmup _ _ _).trans ?_, fun h8 => convertSlot_raw h8 _ _⟩
  split <;> rfl

theorem convertInputs_congr {ain : Tab (BitVec 10) 8} {s t : State} (h : t.air.sensors = s.air.sensors) :
    convertInputs ain t = convertInputs ain s := by simp only [convertInputs, h]

theorem tapSensors_congr {ain : Tab (BitVec 10) 8} {s t : State} (hc : t.cfg = s.cfg)
    (h : t.air.sensors = s.air.sensors) : tapSensors ain t = tapSensors ain s := by
  unfold tapSensors running params
  rw [hc, h]

/-- R31: the sensors after a T1 tap, whatever the order of its parts. -/
theorem tapT1_sensors (ain : Tab (BitVec 10) 8) (order : List T1Part) (s : State) :
    (tapT1 ain order s).air.sensors = if loading s then convertInputs ain s else tapSensors ain s := by
  obtain ⟨l₁, l₂, -, hv, hf⟩ := foldl_once (f := runT1 ain) (π := fun t : State => t.air.sensors) (s := s)
    (nodup_orderOf order t1Default) (mem_t1Order order .air) fun _ q _ _ hq => (credited_runT1 ain _ hq).sensors
  have hc := runsT1_cfg ain s l₁
  rw [tapT1, fillSlots_air, hf]
  refine (airTap_sensors ain _).trans ?_
  rw [loading, hc, convertInputs_congr hv, tapSensors_congr hc hv]
  rfl

theorem coastTap_fields (x : Channel) : (coastTap x).state = x.state ∧ (coastTap x).reference = x.reference ∧
    (coastTap x).coast = if turns x.state then x.coast else x.coast - 1 := by
  cases h : x.state <;> simp [coastTap, h, turns]

/-- R75: the channels after a T1 tap outside LOADING, whatever the order of its parts. -/
theorem tapT1_channel (ain : Tab (BitVec 10) 8) (order : List T1Part) {s : State} (hl : loading s = false) {n : Nat}
    (hn : n < 12) : ∃ x : Channel, x.unforced = (s.fan.channels.nth n).unforced ∧
      ((tapT1 ain order s).fan.channels.nth n).unforced = (coastTap x).unforced := by
  obtain ⟨l₁, l₂, -, hv, hf⟩ := foldl_once (f := runT1 ain) (π := fun t : State => (t.fan.channels.nth n).unforced) (s := s)
    (nodup_orderOf order t1Default) (mem_t1Order order .fans) fun _ q _ _ hq => runT1_channels ain _ hq n
  refine ⟨_, hv, ?_⟩
  have hu : loading (l₁.foldl (runT1 ain) s) = false := by rw [loading, runsT1_cfg]; exact hl
  rw [tapT1, (does_fillSlots _).fan rfl, hf]
  have he : runT1 ain (l₁.foldl (runT1 ain) s) .fans = fansT1 (l₁.foldl (runT1 ain) s) := if_neg (by simp [hu])
  rw [he]
  exact congrArg Channel.unforced (Tab.nth_each _ _ hn)

theorem tapT1_time (ain : Tab (BitVec 10) 8) (order : List T1Part) (s : State) :
    (tapT1 ain order s).time = { s.time with clock := s.time.clock + 1 } := by
  obtain ⟨l₁, l₂, -, hv, hf⟩ := foldl_once (f := runT1 ain) (π := State.time) (s := s)
    (nodup_orderOf order t1Default) (mem_t1Order order .clock) fun _ q _ _ hq => runT1_time ain _ hq
  rw [tapT1, (does_fillSlots _).time rfl, hf, ← hv]
  rfl

/-- R31, R178: in LOADING a part of a T1 tap moves the clock or converts the inputs. -/
theorem runT1_loading (ain : Tab (BitVec 10) 8) {s : State} (h : loading s = true) (q : T1Part) :
    Does [.time, .air] s (runT1 ain s q) ∧ (runT1 ain s q).air.zones = s.air.zones := by
  have hr : running s = false := by
    rw [loading, beq_iff_eq] at h
    simp [running, h]
  have k : ∀ {t : State}, t = s → Does [.time, .air] s t ∧ t.air.zones = s.air.zones := fun e => e ▸ ⟨.refl _, rfl⟩
  cases q with
  | clock => exact ⟨(does_time s _).mono rfl, rfl⟩
  | air =>
    have e : runT1 ain s .air = { s with air := { s.air with sensors := convertInputs ain s } } := if_pos h
    rw [e]
    exact ⟨(does_air s _).mono rfl, rfl⟩
  | bays => exact k (if_neg (by simp [hr]))
  | sounder | fans | lights | loops | guide | stack => exact k (if_pos h)

theorem runsT1_loading (ain : Tab (BitVec 10) 8) (l : List T1Part) {s : State} (h : loading s = true) :
    Does [.time, .air] s (l.foldl (runT1 ain) s) ∧ (l.foldl (runT1 ain) s).air.zones = s.air.zones := by
  induction l generalizing s with
  | nil => exact ⟨.refl s, rfl⟩
  | cons q l ih =>
    obtain ⟨hd, hz⟩ := runT1_loading ain h q
    obtain ⟨kd, kz⟩ := ih (s := runT1 ain s q) (by rw [loading, runT1_cfg]; exact h)
    exact ⟨hd.trans kd, kz.trans hz⟩

theorem tapT1_loading (ain : Tab (BitVec 10) 8) (order : List T1Part) {s : State} (h : loading s = true) :
    Does [.time, .air] s (tapT1 ain order s) ∧ (tapT1 ain order s).air.zones = s.air.zones := by
  have hl : loading ((orderOf order t1Default).foldl (runT1 ain) s) = true := by rw [loading, runsT1_cfg]; exact h
  rw [tapT1, fillSlots, if_pos hl]
  exact runsT1_loading ain _ h

/-- R31: a slot of the inputs converted. -/
theorem convertInputs_nth (ain : Tab (BitVec 10) 8) (s : State) {n : Nat} (hn : n < 32) :
    (convertInputs ain s).nth n = convertSlot n (ain.nth n).toNat (s.air.sensors.nth n) :=
  (Tab.nth_build _ _).trans (if_pos hn)

theorem convertSlot_field {n : Nat} (hn : 8 ≤ n) (raw : Nat) (x : Sensor) : convertSlot n raw x = x :=
  if_pos ((isField_iff n).mpr hn)

theorem convertSlot_other (n raw : Nat) (x : Sensor) : { convertSlot n raw x with raw := 0 } = { x with raw := 0 } := by
  unfold convertSlot
  split <;> rfl

/-- Settles O7: each part of the tap has its turn once, and the others leave what it counts. -/
theorem t1TapCountsSecondsAndCoasts : Obligations.T1TapCountsSecondsAndCoasts := by
  intro ain order s
  have hs := tapT1_sensors ain order s
  refine ⟨_, rfl, tapT1_time ain order s, (does_tapT1 ain order s).frame, fun n hn => ?_, fun hl => ?_, fun hl n hn => ?_,
    fun hl n hn => ?_⟩
  · rw [hs]
    split
    · rw [convertInputs_nth ain s (by omega), convertSlot_raw hn]
    · exact (tapSensors_input ain s (by omega)).2 hn
  · obtain ⟨hd, hz⟩ := tapT1_loading ain order hl
    refine ⟨hd.frame, hz, fun n hn => ?_⟩
    rw [hs, if_pos hl, convertInputs_nth ain s hn]
    exact ⟨convertSlot_other _ _ _, fun h8 => convertSlot_field h8 _ _⟩
  · rw [hs, if_neg (by simp [hl])]
    exact (tapSensors_input ain s hn).1
  · obtain ⟨x, hx, ht⟩ := tapT1_channel ain order hl hn
    obtain ⟨h1, h2, h3⟩ := coastTap_fields x
    have e1 := congrArg Channel.state hx
    have e2 := congrArg Channel.reference hx
    have e3 := congrArg Channel.coast hx
    have t1 := congrArg Channel.state ht
    have t2 := congrArg Channel.reference ht
    have t3 := congrArg Channel.coast ht
    simp only [Channel.unforced] at e1 e2 e3 t1 t2 t3
    rw [t1, t2, t3, h1, h2, h3, e1, e2, e3]
    exact ⟨rfl, rfl, rfl⟩

end Sys2Proof.Machine
end

section
/-! SUPPORT. What a passage starts and turns: the follow-me paths of its pair with their first groups (R97, R98), and the
DECISION faces of its sign (R130). -/

namespace Sys2Proof.Machine

/-! ## Triggers and paths (R89, R97, R98) -/

theorem trigger_of_not_mem {s : State} {g : Nat} (h : g ∉ presentGroups s) : trigger g s = s := by
  refine if_neg fun k => h ?_
  obtain ⟨-, hp⟩ := Bool.and_eq_true_iff.mp k
  refine mem_presentGroups.mpr ⟨Nat.not_le.mp fun hge => ?_, hp⟩
  rw [Tab.nth_of_ge _ hge] at hp
  exact absurd hp (by decide)

theorem setGroup_other {g h : Nat} (n : h ≠ g) (x : Group) (s : State) :
    (setGroup g x s).light.groups.nth h = s.light.groups.nth h := Tab.nth_put_ne _ _ n

/-- R89: a trigger leaves every other group, but for its waiting mark. -/
theorem trigger_other {g h : Nat} (n : h ≠ g) (s : State) :
    ((trigger g s).light.groups.nth h).bare = (s.light.groups.nth h).bare := by
  dsimp only [trigger]
  split
  · split
    · rw [formGroup, (marks_note _ _ _).group, setGroup_other n, setGroup_other n]
    · rw [setGroup_other n]
  · rfl

theorem trigger_paths (g : Nat) (s : State) : (trigger g s).light.paths = s.light.paths := by
  dsimp only [trigger]
  split
  · split
    · exact (marks_note _ _ _).paths
    · rfl
  · rfl

/-- R97, R98: path `q` has no start delay, and its first group is the present group `g`. -/
def firesFirst (s : State) (q g : Nat) : Prop :=
  (s.cfg.inForce.paths.nth q).startDelay = 0 ∧ (s.cfg.inForce.paths.nth q).groups[0]? = some g ∧ g ∈ presentGroups s

/-- From `s` to `t` just the paths of a list start, and trigger their first groups where they have no start delay. -/
structure PathsStart (l : List Nat) (s t : State) : Prop where
  cfg : t.cfg = s.cfg
  paths : ∀ q, t.light.paths.nth q =
    if q ∈ l then startedPath (s.cfg.inForce.paths.nth q) else s.light.paths.nth q
  lit : ∀ g, (∃ q ∈ l, firesFirst s q g) → (t.light.groups.nth g).stay = (s.cfg.inForce.groups.nth g).stayLit
  others : ∀ g, (∀ q ∈ l, ¬firesFirst s q g) → (t.light.groups.nth g).bare = (s.light.groups.nth g).bare

namespace PathsStart

variable {l : List Nat} {s t u : State}

theorem nil (s : State) : PathsStart [] s s := ⟨rfl, fun _ => rfl, fun _ h => absurd h (by simp), fun _ _ => rfl⟩

theorem firesFirst_congr (h : t.cfg = s.cfg) (q g : Nat) : firesFirst t q g ↔ firesFirst s q g := by
  simp only [firesFirst, presentGroups, h]

/-- A path that starts before others. -/
theorem cons {q : Nat} (h : PathsStart [q] s t) (k : PathsStart l t u) : PathsStart (q :: l) s u where
  cfg := k.cfg.trans h.cfg
  paths r := by
    rw [k.paths, h.cfg]
    by_cases hr : r ∈ l
    · simp [hr]
    · rw [if_neg hr, h.paths]
      simp [hr]
  lit g hg := by
    by_cases hl : ∃ r ∈ l, firesFirst t r g
    · rw [k.lit g hl, h.cfg]
    · have stays := congrArg Group.stay (k.others g fun r hr f => hl ⟨r, hr, f⟩)
      refine stays.trans (h.lit g ⟨q, by simp, ?_⟩)
      obtain ⟨r, hr, f⟩ := hg
      rcases List.mem_cons.mp hr with rfl | hr
      · exact f
      · exact absurd ⟨r, hr, (firesFirst_congr h.cfg r g).mpr f⟩ hl
  others g hg :=
    (k.others g fun r hr f => hg r (by simp [hr]) ((firesFirst_congr h.cfg r g).mp f)).trans
      (h.others g fun r hr => hg r (by simp_all))

/-- What looks the same to lighting starts the same. -/
theorem of_light (h : PathsStart l t u) (hc : t.cfg = s.cfg) (hl : t.light = s.light) : PathsStart l s u where
  cfg := h.cfg.trans hc
  paths q := by rw [h.paths, hc, hl]
  lit g := by
    rintro ⟨q, hq, f⟩
    rw [h.lit g ⟨q, hq, (firesFirst_congr hc q g).mpr f⟩, hc]
  others g hg := by rw [h.others g fun q hq f => hg q hq ((firesFirst_congr hc q g).mp f), hl]

end PathsStart

/-- R97, R98: a started path is at its countdown, or has triggered its first group and is at the next. -/
theorem startPath_eq {q : Nat} (hq : q < 4) (s : State) :
    ((s.cfg.inForce.paths.nth q).startDelay ≠ 0 ∧
      startPath q s = setPath q (startedPath (s.cfg.inForce.paths.nth q)) s) ∨
    ((s.cfg.inForce.paths.nth q).startDelay = 0 ∧ ∃ u t, u = setPath q (.running 0 0) s ∧
      t = (s.cfg.inForce.paths.nth q).groups[0]?.elim u (fun g => trigger g u) ∧
      startPath q s = setPath q (startedPath (s.cfg.inForce.paths.nth q)) t) := by
  have hp : ∀ n, (setPath q (.running 0 n) s).light.paths.nth q = .running 0 n := fun n => Tab.nth_put_self _ _ hq
  rcases Nat.eq_zero_or_pos (s.cfg.inForce.paths.nth q).startDelay with h | h
  · refine .inr ⟨h, _, _, rfl, rfl, ?_⟩
    rw [startPath, h]
    simp only [pathFire, hp, startedPath, h, setPath_cfg]
    cases (s.cfg.inForce.paths.nth q).groups[0]? <;> rfl
  · refine .inl ⟨by omega, ?_⟩
    have hs : startedPath (s.cfg.inForce.paths.nth q) = .running 0 (s.cfg.inForce.paths.nth q).startDelay := if_pos h
    rw [hs, startPath]
    obtain ⟨n, hn⟩ := Nat.exists_eq_succ_of_ne_zero (Nat.ne_of_gt h)
    simp only [pathFire, hp, hn]

theorem pathsStart_startPath {q : Nat} (hq : q < 4) {s : State} (hr : running s = true) :
    PathsStart [q] s (startPath q s) := by
  have hput : ∀ {t : State}, (∀ r, r ≠ q → t.light.paths.nth r = s.light.paths.nth r) → ∀ r,
      (setPath q (startedPath (s.cfg.inForce.paths.nth q)) t).light.paths.nth r =
      if r ∈ [q] then startedPath (s.cfg.inForce.paths.nth r) else s.light.paths.nth r := by
    intro t ht r
    by_cases e : r = q
    · subst e
      simp [Tab.nth_put_self _ _ hq]
    · simp [e, Tab.nth_put_ne _ _ e, ht r e]
  rcases startPath_eq hq s with ⟨hd, e⟩ | ⟨hd, u, t, hu, ht, e⟩ <;> rw [e]
  · refine ⟨rfl, hput fun _ _ => rfl, fun g hg => ?_, fun _ _ => rfl⟩
    obtain ⟨r, hr, f, -⟩ := hg
    exact absurd (List.mem_singleton.mp hr ▸ f) hd
  · have hup : ∀ r, r ≠ q → u.light.paths.nth r = s.light.paths.nth r := fun r n => hu ▸ Tab.nth_put_ne _ _ n
    have hur : running u = true := hu ▸ hr
    have huc : u.cfg = s.cfg := hu ▸ rfl
    have hug : u.light.groups = s.light.groups := hu ▸ rfl
    clear hu
    cases hg : (s.cfg.inForce.paths.nth q).groups[0]? with
    | none =>
      rw [hg, Option.elim_none] at ht
      subst ht
      refine ⟨huc, hput hup, fun g h => ?_, fun g _ => congrArg (fun l => (l.nth g).bare) hug⟩
      obtain ⟨r, hr, -, f, -⟩ := h
      rw [List.mem_singleton.mp hr, hg] at f
      cases f
    | some g =>
      rw [hg, Option.elim_some] at ht
      subst ht
      refine ⟨((does_trigger g u).cfg rfl).trans huc, hput fun r n => ?_, fun k hk => ?_, fun k hk => ?_⟩
      · rw [trigger_paths]
        exact hup r n
      · obtain ⟨r, hr, -, f, hm⟩ := hk
        rw [List.mem_singleton.mp hr, hg] at f
        cases f
        rw [← presentGroups_congr huc] at hm
        exact (trigger_stay hur hm g).trans (by rw [if_pos rfl, huc])
      · change ((trigger g u).light.groups.nth k).bare = _
        rw [← hug]
        by_cases e : k = g
        · subst e
          rw [trigger_of_not_mem]
          rw [presentGroups_congr huc]
          exact fun hm => hk q (by simp) ⟨hd, hg, hm⟩
        · exact trigger_other e u

theorem pathsStart_foldl {l : List Nat} (hl : ∀ q ∈ l, q < 4) {s : State} (hr : running s = true) :
    PathsStart l s (l.foldl (fun t q => startPath q t) s) := by
  induction l generalizing s with
  | nil => exact .nil s
  | cons q l ih =>
    have h := pathsStart_startPath (hl q (by simp)) hr
    exact h.cons (ih (fun r hr => hl r (by simp [hr])) (by rw [running, h.cfg]; exact hr))

/-- R97: the present paths of a pair. -/
def pairPaths (s : State) (p : Nat) : List Nat :=
  (presentPaths s).filter (fun q => (s.cfg.inForce.paths.nth q).pair == p)

theorem mem_pairPaths {s : State} {p q : Nat} :
    q ∈ pairPaths s p ↔ q ∈ presentPaths s ∧ (s.cfg.inForce.paths.nth q).pair = p := by
  simp [pairPaths]

theorem pathsStart_startPaths (p : Nat) {s : State} (hr : running s = true) :
    PathsStart (pairPaths s p) s (startPaths p s) :=
  pathsStart_foldl (fun q hq => by
    have := (mem_pairPaths.mp hq).1
    simp only [presentPaths, List.mem_filter, List.mem_range] at this
    exact this.1) hr

theorem triggeredAtStart_iff {s : State} {p g : Nat} :
    triggeredAtStart s p g ↔ ∃ q ∈ pairPaths s p, firesFirst s q g := by
  simp only [triggeredAtStart, firesFirst, mem_pairPaths]
  exact ⟨fun ⟨hg, q, hq, hp, hd, h0⟩ => ⟨q, ⟨hq, hp⟩, hd, h0, hg⟩,
    fun ⟨q, ⟨hq, hp⟩, hd, h0, hg⟩ => ⟨hg, q, hq, hp, hd, h0⟩⟩

/-! ## Arrows (R128 to R130) -/

/-- From `s` to `t` everything stands that a choice among candidates looks at. -/
structure SameChoices (s t : State) : Prop where
  inForce : t.cfg.inForce = s.cfg.inForce
  status : t.guide.status = s.guide.status
  free : t.occ.free = s.occ.free
  airState : ∀ z, (t.air.zones.nth z).state = (s.air.zones.nth z).state

namespace SameChoices

variable {s t : State}

theorem of_quiet (h : Quiet s t) : SameChoices s t := ⟨h.inForce, h.status, h.free, fun z => by rw [h.air]⟩

theorem zoneOpen (h : SameChoices s t) (z : Nat) : zoneOpen t z = zoneOpen s z := by
  simp only [Machine.zoneOpen, h.inForce, h.status]

theorem candidateFree (h : SameChoices s t) (ks : KindMask) (c : Candidate) :
    candidateFree t ks c = candidateFree s ks c := by
  have ho : Machine.zoneOpen t = Machine.zoneOpen s := funext h.zoneOpen
  simp only [Machine.candidateFree, maskedFree, ho, h.free]

theorem eligibleSet (h : SameChoices s t) (r : FaceRec) : eligibleSet t r = eligibleSet s r := by
  have ho : Machine.zoneOpen t = Machine.zoneOpen s := funext h.zoneOpen
  have he : eligible t r = eligible s r := funext fun c => by simp only [eligible, h.candidateFree]
  have ht : tierOne t r = tierOne s r := funext fun c => by simp only [tierOne, he, ho, h.airState]
  simp only [Machine.eligibleSet, he, ht]

theorem choiceValue (h : SameChoices s t) (r : FaceRec) (c : Option Nat) : choiceValue t r c = choiceValue s r c := by
  unfold Machine.choiceValue
  cases c.bind (fun k => r.candidates[k]?) with
  | none => rfl
  | some c => simp only [h.candidateFree]

end SameChoices

theorem Face.choice_of_bare {x y : Face} (h : x.bare = y.bare) :
    x.tree = y.tree ∧ x.choice = y.choice ∧ x.wanted = y.wanted := by
  simp only [Face.bare, Face.mk.injEq] at h
  simp [h]

/-- R130: an advance looks at the states for its choices only, and at the faces but for their waiting marks. -/
theorem Advanced.congr {s t : State} {r : FaceRec} {old old' new new' : Face} (a : Advanced t r old new)
    (h : SameChoices s t) (ho : old.bare = old'.bare) (hn : new'.bare = new.bare) : Advanced s r old' new' := by
  obtain ⟨tree, choice, wanted⟩ := a
  obtain ⟨tree', choice', wanted'⟩ := Face.choice_of_bare hn
  obtain ⟨oldTree, oldChoice, -⟩ := Face.choice_of_bare ho
  rw [oldChoice, oldTree] at tree choice
  rw [h.eligibleSet] at choice
  rw [h.choiceValue] at wanted
  exact ⟨tree'.trans tree, choice'.trans choice, by rw [wanted', wanted, choice']⟩

theorem faceOf_setFace (i f : Nat) (x : Face) (s : State) (j h : Nat) : faceOf (setFace i f x s) j h =
    if (j = i ∧ i < 24) ∧ h = f ∧ f < 4 then x else faceOf s j h := by
  rw [faceOf, setFace_guide, Guidance.setFace, Tab.nth_modify]
  by_cases hj : j = i ∧ i < 24
  · rw [if_pos hj]
    dsimp only
    rw [Tab.nth_put, hj.1]
    simp only [hj.2, and_true, true_and]
    rfl
  · rw [if_neg hj, if_neg fun k => hj k.1]
    rfl

theorem faceOf_putFace (i f : Nat) (x : Face) (s : State) (j h : Nat) : (faceOf (putFace i f x s) j h).bare =
    if (j = i ∧ i < 24) ∧ h = f ∧ f < 4 then x.bare else (faceOf s j h).bare := by
  rw [putFace, (marks_note _ _ _).face, faceOf_setFace]
  split <;> rfl

/-- From `s` to `t` just the DECISION faces of a list advance, at sign `i`. -/
structure FacesTurn (i : Nat) (l : List Nat) (s t : State) : Prop where
  same : SameChoices s t
  turned : ∀ f ∈ l, (faceRec s i f).kind = .decision → Advanced s (faceRec s i f) (faceOf s i f) (faceOf t i f)
  others : ∀ j f, ¬(j = i ∧ f ∈ l ∧ (faceRec s i f).kind = .decision) → (faceOf t j f).bare = (faceOf s j f).bare

theorem advanceFace_turned {i f : Nat} (hi : i < 24) (hf : f < 4) {s : State} (h : (faceRec s i f).kind = .decision) :
    Advanced s (faceRec s i f) (faceOf s i f) (faceOf (advanceFace i f s) i f) := by
  rw [advanceFace, if_pos h]
  refine Advanced.congr (old := faceOf s i f) ?_ (.of_quiet (.refl s)) rfl
    ((faceOf_putFace _ _ _ _ _ _).trans (if_pos ⟨⟨rfl, hi⟩, rfl, hf⟩))
  cases hc : (faceOf s i f).choice <;> simp only [Advanced, turnAway, hc, and_self]

theorem advanceFace_other {i f j h : Nat} {s : State} (n : ¬(j = i ∧ h = f ∧ (faceRec s i f).kind = .decision)) :
    (faceOf (advanceFace i f s) j h).bare = (faceOf s j h).bare := by
  dsimp only [advanceFace]
  split
  · rename_i k
    rw [faceOf_putFace, if_neg fun e => n ⟨e.1.1, e.2.1, k⟩]
  · rfl

theorem faceRec_congr {s t : State} (h : t.cfg.inForce = s.cfg.inForce) (i f : Nat) : faceRec t i f = faceRec s i f := by
  simp only [faceRec, h]

theorem facesTurn_foldl {i : Nat} (hi : i < 24) {l : List Nat} (hl : ∀ f ∈ l, f < 4) (hn : l.Nodup) (s : State) :
    FacesTurn i l s (l.foldl (fun t f => advanceFace i f t) s) := by
  induction l generalizing s with
  | nil => exact ⟨.of_quiet (.refl s), fun f h => absurd h (by simp), fun _ _ _ => rfl⟩
  | cons f l ih =>
    obtain ⟨hfl, hn⟩ := List.nodup_cons.mp hn
    have k := ih (fun g hg => hl g (by simp [hg])) hn (advanceFace i f s)
    have q := quiet_advanceFace i f s
    have hrec : ∀ g, faceRec (advanceFace i f s) i g = faceRec s i g := faceRec_congr q.inForce i
    have later : ∀ g, g ≠ f → (faceOf (advanceFace i f s) i g).bare = (faceOf s i g).bare := fun g n =>
      advanceFace_other fun e => n e.2.1
    refine ⟨.of_quiet (.foldl _ (fun t g => quiet_advanceFace i g t) _ s), fun g hg hd => ?_, fun j g hng => ?_⟩
    · rcases List.mem_cons.mp hg with rfl | hg
      · exact (advanceFace_turned hi (hl g (by simp)) hd).congr (.of_quiet (.refl s)) rfl
          (k.others i g fun e => hfl e.2.1)
      · have a := k.turned g hg (by rw [hrec]; exact hd)
        rw [hrec] at a
        exact a.congr (.of_quiet q) (later g fun e => hfl (e ▸ hg)) rfl
    · refine (k.others j g fun ⟨e, hg, hd⟩ => hng ⟨e, by simp [hg], by rwa [hrec] at hd⟩).trans ?_
      exact advanceFace_other fun ⟨e, eg, hd⟩ => hng ⟨e, by simp [eg], by rwa [eg]⟩

theorem mem_allFaces {s : State} {i f : Nat} :
    (i, f) ∈ allFaces s ↔ i ∈ presentSigns s ∧ f ∈ presentFaces (s.cfg.inForce.signs.nth i) := by
  simp [allFaces]

/-- R130: an advance of a sign turns its present DECISION faces and no other. -/
theorem advanceSign_faces (i : Nat) (s : State) :
    (∀ f, (i, f) ∈ allFaces s → (faceRec s i f).kind = .decision →
      Advanced s (faceRec s i f) (faceOf s i f) (faceOf (advanceSign i s) i f)) ∧
    (∀ j f, ¬(j = i ∧ (i, f) ∈ allFaces s ∧ (faceRec s i f).kind = .decision) →
      (faceOf (advanceSign i s) j f).bare = (faceOf s j f).bare) := by
  by_cases hp : i ∈ presentSigns s
  · obtain ⟨hi, hpres⟩ : i < 24 ∧ (s.cfg.inForce.signs.nth i).present = true := by simpa [presentSigns] using hp
    have h := facesTurn_foldl hi (l := presentFaces (s.cfg.inForce.signs.nth i))
      (fun f hf => List.mem_range.mp (List.mem_filter.mp hf).1) (List.nodup_range.filter _) s
    rw [advanceSign, if_pos hpres]
    simp only [mem_allFaces, hp, true_and]
    exact ⟨h.turned, h.others⟩
  · have hs : advanceSign i s = s := by
      refine if_neg fun hpres => hp ?_
      have hi : i < 24 := Nat.not_le.mp fun hge => by
        rw [Tab.nth_of_ge _ hge] at hpres
        exact absurd hpres (by decide)
      simp [presentSigns, hi, hpres]
    rw [hs]
    exact ⟨fun f hf => absurd (mem_allFaces.mp hf).1 hp, fun _ _ _ => rfl⟩

end Sys2Proof.Machine
end

section
/-! SUPPORT. Passages (R42, R97, R98, R111, R112, R114 to R116, R130): the tallies and the count of a passage, what it
announces, and which change of a loop brings one. -/

namespace Sys2Proof.Machine

/-! ## What a passage announces (R116) -/

/-- R130: the sign of a pair of role DECISION. -/
def pairSign (s : State) (p : Nat) : Option Nat :=
  if (s.cfg.inForce.pairs.nth p).role = .decision then (s.cfg.inForce.pairs.nth p).sign else none

theorem turnedBy_iff {s : State} {p i f : Nat} :
    turnedBy s p i f ↔ pairSign s p = some i ∧ (i, f) ∈ allFaces s ∧ (faceRec s i f).kind = .decision := by
  unfold turnedBy pairSign
  split <;> simp_all

/-- R42, R97: the credit and the started paths of a passage IN or undirected. -/
def creditAndStart (p : Nat) (s : State) : State :=
  startPaths p (credit (s.cfg.inForce.pairs.nth p).zone (params s).passage s)

theorem announcePassage_of_starts {d : Direction} (h : d = .into ∨ d = .undirected) (p : Nat) (s : State) :
    announcePassage p d s = (pairSign s p).elim (creditAndStart p s) (fun i => advanceSign i (creditAndStart p s)) := by
  rcases h with rfl | rfl <;> dsimp only [announcePassage, pairSign] <;>
    cases (s.cfg.inForce.pairs.nth p).role <;> cases (s.cfg.inForce.pairs.nth p).sign <;> rfl

theorem does_creditAndStart (p : Nat) (s : State) : Does [.air, .light, .slots] s (creditAndStart p s) :=
  ((does_credit _ _ s).mono rfl).trans ((does_startPaths p _).mono rfl)

theorem does_elim_advanceSign (j : Option Nat) (s : State) :
    Does [.guide, .slots] s (j.elim s (fun i => advanceSign i s)) := by
  cases j with
  | none => exact .refl s
  | some i => exact does_advanceSign i s

/-- R116: of the air monitor a passage touches the credit alone. -/
theorem announcePassage_air (p : Nat) (d : Direction) (s : State) : (announcePassage p d s).air =
    (credit (s.cfg.inForce.pairs.nth p).zone (params s).passage s).air := by
  have h : ∀ {d}, d = .into ∨ d = .undirected → (announcePassage p d s).air =
      (credit (s.cfg.inForce.pairs.nth p).zone (params s).passage s).air := fun hd => by
    rw [announcePassage_of_starts hd, (does_elim_advanceSign _ _).air rfl]
    exact (does_startPaths p _).air rfl
  cases d with
  | out => rfl
  | into => exact h (.inl rfl)
  | undirected => exact h (.inr rfl)

/-- R97: a passage IN or undirected starts the paths of its pair. -/
theorem announcePassage_paths {d : Direction} (h : d = .into ∨ d = .undirected) (p : Nat) {s : State}
    (hr : running s = true) : PathsStart (pairPaths s p) s (announcePassage p d s) := by
  have hc := does_credit (s.cfg.inForce.pairs.nth p).zone (params s).passage s
  have hk := (pathsStart_startPaths p ((hc.running rfl).trans hr)).of_light (hc.cfg rfl) (hc.light rfl)
  have hp : pairPaths (credit (s.cfg.inForce.pairs.nth p).zone (params s).passage s) p = pairPaths s p := by
    simp only [pairPaths, presentPaths, hc.cfg rfl]
  have ht := does_elim_advanceSign (pairSign s p) (creditAndStart p s)
  rw [hp] at hk
  rw [announcePassage_of_starts h]
  refine ⟨(ht.cfg rfl).trans hk.cfg, ?_, ?_, ?_⟩ <;> rw [ht.light rfl]
  · exact hk.paths
  · exact hk.lit
  · exact hk.others

theorem credit_airState (zone w : Nat) (s : State) (z : Nat) :
    ((credit zone w s).air.zones.nth z).state = (s.air.zones.nth z).state := by
  have h := congrArg ZoneAir.state ((credited_credit zone w s).zones z)
  exact h

theorem sameChoices_creditAndStart (p : Nat) (s : State) : SameChoices s (creditAndStart p s) := by
  have h := does_creditAndStart p s
  refine ⟨by rw [h.cfg rfl], by rw [h.guide rfl], by rw [h.occ rfl], fun z => ?_⟩
  rw [creditAndStart, (does_startPaths p _).air rfl, credit_airState]

/-- R130: a passage IN or undirected turns the arrows of its pair's sign. -/
theorem announcePassage_faces {d : Direction} (h : d = .into ∨ d = .undirected) (p : Nat) (s : State) (i f : Nat) :
    (turnedBy s p i f → Advanced s (faceRec s i f) (faceOf s i f) (faceOf (announcePassage p d s) i f)) ∧
    (¬turnedBy s p i f → (faceOf (announcePassage p d s) i f).bare = (faceOf s i f).bare) := by
  have hu := does_creditAndStart p s
  have hsame := sameChoices_creditAndStart p s
  have hface : faceOf (creditAndStart p s) = faceOf s := by
    unfold faceOf
    rw [hu.guide rfl]
  have hrec : faceRec (creditAndStart p s) = faceRec s := by
    unfold faceRec
    rw [hu.cfg rfl]
  have hall : allFaces (creditAndStart p s) = allFaces s := by
    simp only [allFaces, presentSigns, hu.cfg rfl]
  rw [announcePassage_of_starts h, turnedBy_iff]
  cases hj : pairSign s p with
  | none => exact ⟨fun k => absurd k.1 (by simp), fun _ => by rw [Option.elim_none, hface]⟩
  | some j =>
    obtain ⟨turned, others⟩ := advanceSign_faces j (creditAndStart p s)
    rw [hall, hface, hrec] at turned others
    rw [Option.elim_some]
    refine ⟨fun ⟨e, hm, hd⟩ => ?_, fun n => others i f fun ⟨e, hm, hd⟩ => n ⟨by rw [e], e ▸ hm, e ▸ hd⟩⟩
    cases e
    exact (turned f hm hd).congr hsame rfl rfl

theorem fillSlots_marks_air (s : State) : MarksOnly s (fillSlots s) ∧ (fillSlots s).air = s.air :=
  ⟨marks_fillSlots s, fillSlots_air s⟩

/-- R116: without a passage, or outside RUNNING, nothing is announced. -/
theorem passageTold_still {s : State} {d : Option Direction} (h : running s = true → d = none) (p : Nat) :
    PassageTold s (fillSlots s) p d := by
  obtain ⟨hm, ha⟩ := fillSlots_marks_air s
  exact {
    credited := fun hr hd => absurd (h hr) hd
    otherAir := fun _ => ha
    otherZones := by rw [ha]; exact ⟨rfl, fun _ _ => rfl⟩
    started := fun hr hd => by rw [h hr] at hd; simp at hd
    otherPaths := fun q _ => by rw [hm.paths]
    otherGroups := fun g _ => hm.group g
    otherFaces := fun i f _ => hm.face i f }

/-- R116: in RUNNING a passage is announced to the air monitor, and one that is not OUT to lighting and guidance. -/
theorem passageTold_announce {s : State} (hr : running s = true) (p : Nat) (d : Direction) :
    PassageTold s (fillSlots (announcePassage p d s)) p (some d) := by
  obtain ⟨hm, ha⟩ := fillSlots_marks_air (announcePassage p d s)
  rw [announcePassage_air] at ha
  have hz := credit_zones hr (s.cfg.inForce.pairs.nth p).zone (params s).passage
  have hstart : some d = some .into ∨ some d = some .undirected → d = .into ∨ d = .undirected := by simp
  have hout : ¬(d = .into ∨ d = .undirected) → announcePassage p d s =
      credit (s.cfg.inForce.pairs.nth p).zone (params s).passage s := fun n => by
    cases d with
    | out => rfl
    | into => simp at n
    | undirected => simp at n
  have hcredit := does_credit (s.cfg.inForce.pairs.nth p).zone (params s).passage s
  refine ⟨fun _ _ z e hp => ?_, fun n => ?_, ⟨?_, fun z n => ?_⟩,
    fun _ hd => ⟨fun q hq hp => ?_, fun g hg => ?_, fun i f hf => ?_⟩, fun q n => ?_, fun g n => ?_, fun i f n => ?_⟩
  · rw [ha, hz, if_pos ⟨e, hp⟩]
  · rw [ha, credit, n hr (by simp)]
    simp
  · rw [ha, credit]
    split <;> rfl
  · rw [ha, hz, if_neg fun k => n k.1]
  · rw [hm.paths, (announcePassage_paths (hstart hd) p hr).paths, if_pos (mem_pairPaths.mpr ⟨hq, hp⟩)]
  · rw [hm.stay, (announcePassage_paths (hstart hd) p hr).lit g (triggeredAtStart_iff.mp hg)]
  · exact ((announcePassage_faces (hstart hd) p s i f).1 hf).congr (.of_quiet (.refl s)) rfl (hm.face i f)
  · rw [hm.paths]
    by_cases hd : d = .into ∨ d = .undirected
    · rw [(announcePassage_paths hd p hr).paths, if_neg fun k => ?_]
      obtain ⟨hq, hp⟩ := mem_pairPaths.mp k
      exact n hr (by simpa using hd) hq hp
    · rw [hout hd, hcredit.light rfl]
  · refine (hm.group g).trans ?_
    by_cases hd : d = .into ∨ d = .undirected
    · refine (announcePassage_paths hd p hr).others g fun q hq k => ?_
      exact n hr (by simpa using hd) (triggeredAtStart_iff.mpr ⟨q, hq, k⟩)
    · rw [hout hd, hcredit.light rfl]
      rfl
  · refine (hm.face i f).trans ?_
    by_cases hd : d = .into ∨ d = .undirected
    · exact (announcePassage_faces hd p s i f).2 (n hr (by simpa using hd))
    · rw [hout hd, faceOf, hcredit.guide rfl]
      rfl

/-- What a passage announces does not look at the loop unit. -/
theorem PassageTold.of_loops {s t : State} {l : Loops} {p : Nat} {d : Option Direction}
    (h : PassageTold { s with loops := l } t p d) : PassageTold s t p d :=
  ⟨h.credited, h.otherAir, h.otherZones, h.started, h.otherPaths, h.otherGroups, h.otherFaces⟩

/-! ## A passage at a pair (R114, R115) -/

/-- The loop unit after a passage: the tally of the pair, and the count at an ENTRY pair. -/
def passedLoops (p : Nat) (d : Direction) (s : State) : Loops :=
  { s.loops with
    pairs := s.loops.pairs.put p (tallied d (s.loops.pairs.nth p))
    count := if (s.cfg.inForce.pairs.nth p).role = .entry then counted d s.loops.count else s.loops.count }

theorem passage_eq (p : Nat) (d : Direction) (s : State) : passage p d s =
    if running s then announcePassage p d { s with loops := passedLoops p d s }
    else { s with loops := passedLoops p d s } := by
  unfold passage passedLoops
  by_cases h : (s.cfg.inForce.pairs.nth p).role = .entry <;> simp only [h, if_true, if_false] <;> rfl

theorem fillSlots_loops (s : State) : (fillSlots s).loops = s.loops := (does_fillSlots s).loops rfl

theorem passage_loops (p : Nat) (d : Direction) (s : State) : (passage p d s).loops = passedLoops p d s := by
  rw [passage_eq]
  split
  · rw [(does_announcePassage _ _ _).loops rfl]
  · rfl

theorem passageTold_passage (p : Nat) (d : Direction) (s : State) :
    PassageTold s (fillSlots (passage p d s)) p (some d) := by
  rw [passage_eq]
  by_cases h : running s = true
  · rw [if_pos h]
    exact (passageTold_announce (s := { s with loops := passedLoops p d s }) h p d).of_loops
  · rw [if_neg h]
    exact (passageTold_still (s := { s with loops := passedLoops p d s }) (fun k => absurd k h) p).of_loops

/-- From `s` to `t` the record of pair `p` becomes `x` and the level vehicle count `n`; a passage `d`, or none, is told. -/
structure PairBecomes (s t : State) (p : Nat) (x : PairRun) (n : Nat) (d : Option Direction) : Prop where
  pair : t.loops.pairs.nth p = x
  count : t.loops.count = n
  others : ∀ q, q ≠ p → t.loops.pairs.nth q = s.loops.pairs.nth q
  told : PassageTold s t p d

/-- R112, R114, R115: a passage on what the change of a loop made of the loop unit. -/
theorem pairBecomes_passage {p : Nat} (hp : p < 4) (d : Direction) {s : State} {l : Loops}
    (hl : ∀ q, q ≠ p → l.pairs.nth q = s.loops.pairs.nth q) (hc : l.count = s.loops.count) :
    PairBecomes s (fillSlots (passage p d { s with loops := l })) p (tallied d (l.pairs.nth p))
      (if (s.cfg.inForce.pairs.nth p).role = .entry then counted d s.loops.count else s.loops.count) (some d) := by
  refine ⟨?_, ?_, fun q n => ?_, (passageTold_passage p d _).of_loops⟩ <;> rw [fillSlots_loops, passage_loops]
  · exact Tab.nth_put_self _ _ hp
  · rw [← hc]
    rfl
  · exact (Tab.nth_put_ne _ _ n).trans (hl q n)

/-- R112: a change of the loop unit without a passage. -/
theorem pairBecomes_loops (p : Nat) {s : State} {l : Loops} (hl : ∀ q, q ≠ p → l.pairs.nth q = s.loops.pairs.nth q)
    (hc : l.count = s.loops.count) :
    PairBecomes s (fillSlots { s with loops := l }) p (l.pairs.nth p) s.loops.count none := by
  refine ⟨?_, ?_, ?_, (passageTold_still (fun _ => rfl) p).of_loops⟩ <;> rw [fillSlots_loops]
  · exact hc
  · exact hl

/-! ## The loops of a pair (R107, R108, R111, R112) -/

theorem pairOf_lt {c : Cfg} {i p : Nat} (h : pairOf c i = some p) : p < 4 :=
  List.mem_range.mp (List.mem_of_find?_eq_some h)

theorem exec_loopRelease {i : Nat} (hi : i < 8) {s : State} (hl : loading s = false) :
    exec (.loopRelease i) s = .next (fillSlots (releaseLoop i s)) := by
  change within i 8 (if loading s then s else fillSlots (releaseLoop i s)) = _
  rw [within_of_lt hi, hl]
  rfl

theorem exec_loopOccupied {i : Nat} (hi : i < 8) {s : State} (hl : loading s = false)
    (hv : (s.loops.inputs.nth i).supervised = true) (hx : (s.loops.inputs.nth i).state = .clear)
    (hf : (s.loops.inputs.nth i).filter = 3) :
    exec (.loopOccupied i) s = .next (fillSlots (loopTapActive i s)) := by
  change execLoopOccupied i s = _
  rw [execLoopOccupied, within_of_lt hi, if_pos ⟨hl, hv, hx, hf⟩]

/-- R108, R112: the release that clears both loops of a pair completes its sequence. -/
theorem releaseLoop_completes {i p b : Nat} {s : State} (hp : pairOf s.cfg.inForce i = some p)
    (hb : (s.cfg.inForce.pairs.nth p).inB = some b) (ho : (s.loops.inputs.nth i).state = .occupied)
    (hc : (s.loops.inputs.nth (otherLoop (s.cfg.inForce.pairs.nth p) b i)).state ≠ .occupied)
    (hn : otherLoop (s.cfg.inForce.pairs.nth p) b i ≠ i) :
    ∃ y, releaseLoop i s = completeSequence p (setLoop i y s) := by
  refine ⟨{ s.loops.inputs.nth i with level := false, state := .clear, filter := 0, occupied := 0 }, ?_⟩
  simp only [releaseLoop, ho, pairCleared, setLoop_cfg, hp, hb]
  refine if_neg ?_
  rw [setLoop_loops, Tab.nth_put_ne _ _ hn]
  exact hc

/-- R107: the fourth active tap of a CLEAR loop. -/
theorem loopTapActive_occupies {i : Nat} {s : State} (hv : (s.loops.inputs.nth i).supervised = true)
    (hx : (s.loops.inputs.nth i).state = .clear) (hf : (s.loops.inputs.nth i).filter = 3) :
    loopTapActive i s = occupyLoop i (setLoop i { s.loops.inputs.nth i with level := true } s) := by
  simp only [loopTapActive, hv, hx, hf, and_self, if_true]
  exact if_pos (by omega)

/-- R114: a covered loop of a single-loop pair is a passage. -/
theorem pairCovered_single {i p : Nat} {s : State} (hp : pairOf s.cfg.inForce i = some p)
    (hb : (s.cfg.inForce.pairs.nth p).inB = none) : pairCovered i s = passage p .undirected s := by
  simp only [pairCovered, hp, hb]

/-- R107, R114: so the fourth active tap of the loop of a single-loop pair brings a passage. -/
theorem loopTapActive_passes {i p : Nat} {s : State} (hp : pairOf s.cfg.inForce i = some p)
    (hb : (s.cfg.inForce.pairs.nth p).inB = none) (hv : (s.loops.inputs.nth i).supervised = true)
    (hx : (s.loops.inputs.nth i).state = .clear) (hf : (s.loops.inputs.nth i).filter = 3) :
    ∃ x y, loopTapActive i s = passage p .undirected (setLoop i y (setLoop i x s)) :=
  ⟨_, _, (loopTapActive_occupies hv hx hf).trans (pairCovered_single hp hb)⟩

/-! ## A sequence completes (R112) -/

section Completion

variable {p : Nat} {s : State}

theorem completeSequence_into (h : (s.loops.pairs.nth p).sequence = .aFirst) (ho : (s.loops.pairs.nth p).otherSeen = true) :
    completeSequence p s = passage p .into (setPair p (idled (s.loops.pairs.nth p)) s) := by
  simp only [completeSequence, h, ho]

theorem completeSequence_out (h : (s.loops.pairs.nth p).sequence = .bFirst) (ho : (s.loops.pairs.nth p).otherSeen = true) :
    completeSequence p s = passage p .out (setPair p (idled (s.loops.pairs.nth p)) s) := by
  simp only [completeSequence, h, ho]

theorem completeSequence_back (h : (s.loops.pairs.nth p).sequence ≠ .idle) (ho : (s.loops.pairs.nth p).otherSeen = false) :
    completeSequence p s = setPair p { idled (s.loops.pairs.nth p) with
      backOut := saturate (s.loops.pairs.nth p).backOut } s := by
  cases hs : (s.loops.pairs.nth p).sequence with
  | idle => exact absurd hs h
  | aFirst | bFirst => simp only [completeSequence, hs, ho]

theorem completeSequence_idle (h : (s.loops.pairs.nth p).sequence = .idle) : completeSequence p s = s := by
  simp only [completeSequence, h]

variable {i : Nat} {y : LoopInput}

/-- R112: after a change of loop `i` the pair goes back to IDLE, and a passage follows. -/
theorem pairBecomes_idled (hp : p < 4) (d : Direction) :
    PairBecomes s (fillSlots (passage p d (setPair p (idled (s.loops.pairs.nth p)) (setLoop i y s)))) p
      (tallied d (idled (s.loops.pairs.nth p)))
      (if (s.cfg.inForce.pairs.nth p).role = .entry then counted d s.loops.count else s.loops.count) (some d) := by
  have h := pairBecomes_passage (s := s) hp d (l := (setPair p (idled (s.loops.pairs.nth p)) (setLoop i y s)).loops)
    (fun q n => Tab.nth_put_ne _ _ n) rfl
  have e : (setPair p (idled (s.loops.pairs.nth p)) (setLoop i y s)).loops.pairs.nth p = idled (s.loops.pairs.nth p) :=
    Tab.nth_put_self _ _ hp
  rwa [e] at h

/-- R112: the same for a pair that takes a record without a passage. -/
theorem pairBecomes_setPair (hp : p < 4) (x : PairRun) :
    PairBecomes s (fillSlots (setPair p x (setLoop i y s))) p x s.loops.count none := by
  have h := pairBecomes_loops p (s := s) (l := (setPair p x (setLoop i y s)).loops) (fun q n => Tab.nth_put_ne _ _ n) rfl
  have e : (setPair p x (setLoop i y s)).loops.pairs.nth p = x := Tab.nth_put_self _ _ hp
  rwa [e] at h

/-- R112: the four ways in which the sequence of a pair completes, after a change of loop `i`. -/
theorem pairBecomes_completed (hp : p < 4) :
    let x := s.loops.pairs.nth p
    let t := fillSlots (completeSequence p (setLoop i y s))
    let entry := fun n => if (s.cfg.inForce.pairs.nth p).role = .entry then n else s.loops.count
    (x.sequence = .aFirst → x.otherSeen = true →
      PairBecomes s t p (tallied .into (idled x)) (entry (min (s.loops.count + 1) 9999)) (some .into)) ∧
    (x.sequence = .bFirst → x.otherSeen = true →
      PairBecomes s t p (tallied .out (idled x)) (entry (s.loops.count - 1)) (some .out)) ∧
    (x.sequence ≠ .idle → x.otherSeen = false →
      PairBecomes s t p { idled x with backOut := saturate x.backOut } s.loops.count none) ∧
    (x.sequence = .idle → PairBecomes s t p x s.loops.count none) := by
  refine ⟨fun h ho => ?_, fun h ho => ?_, fun h ho => ?_, fun h => ?_⟩
  · rw [completeSequence_into (s := setLoop i y s) h ho]
    exact pairBecomes_idled hp .into
  · rw [completeSequence_out (s := setLoop i y s) h ho]
    exact pairBecomes_idled hp .out
  · rw [completeSequence_back (s := setLoop i y s) h ho]
    exact pairBecomes_setPair hp _
  · rw [completeSequence_idle (s := setLoop i y s) h]
    exact pairBecomes_loops p (fun _ _ => rfl) rfl

theorem completed_others (hp : p < 4) {q : Nat} (n : q ≠ p) :
    (fillSlots (completeSequence p (setLoop i y s))).loops.pairs.nth q = s.loops.pairs.nth q := by
  obtain ⟨into, out, back, idle⟩ := pairBecomes_completed (s := s) (i := i) (y := y) hp
  cases hs : (s.loops.pairs.nth p).sequence <;> cases ho : (s.loops.pairs.nth p).otherSeen
  case idle.false | idle.true => exact (idle hs).others q n
  case aFirst.true => exact (into hs ho).others q n
  case bFirst.true => exact (out hs ho).others q n
  case aFirst.false | bFirst.false => exact (back (by simp [hs]) ho).others q n

end Completion

/-- Settles O31: the release completes the sequence of its pair in the four ways of R112; a covered loop of a single-loop
pair is one undirected passage. -/
theorem sequencesBecomePassages : Obligations.SequencesBecomePassages := by
  intro i p s hi hl hp
  have hp4 := pairOf_lt hp
  refine ⟨fun b hb ho hc hn => ?_, fun hb hv hx hf => ?_⟩
  · obtain ⟨y, hy⟩ := releaseLoop_completes hp hb ho hc hn
    obtain ⟨into, out, back, idle⟩ := pairBecomes_completed (s := s) (i := i) (y := y) hp4
    refine ⟨_, exec_loopRelease hi hl, ?_⟩
    rw [hy]
    refine ⟨fun q n => completed_others hp4 n, fun h o => ?_, fun h o => ?_, fun h o => ?_, fun h => ?_⟩
    · exact ⟨(into h o).pair, (into h o).count, (into h o).told⟩
    · exact ⟨(out h o).pair, (out h o).count, (out h o).told⟩
    · exact ⟨(back h o).pair, (back h o).count, (back h o).told⟩
    · exact ⟨(idle h).pair, (idle h).count, (idle h).told⟩
  · obtain ⟨x, y, hpass⟩ := loopTapActive_passes hp hb hv hx hf
    obtain ⟨pair, count, others, told⟩ := pairBecomes_passage (s := s) hp4 .undirected
      (l := (setLoop i y (setLoop i x s)).loops) (fun _ _ => rfl) rfl
    refine ⟨_, exec_loopOccupied hi hl hv hx hf, ?_⟩
    rw [hpass]
    exact ⟨others, pair, count, told⟩

end Sys2Proof.Machine
end

section
/-! SUPPORT. The state step of a fan channel, line by line (R67 to R74). -/

namespace Sys2Proof.Machine

/-! ## Lines of the state step (R68 to R74) -/

/-- R70, R71: the call or the wanted direction turns a channel away from the direction that it drives. -/
def Channel.turnsAway (x : Channel) : Prop := x.aim.call = .stop ∨ ∃ w, x.aim.wanted = some w ∧ x.driven ≠ some w

theorem Channel.turnsAway_iff (x : Channel) :
    (x.aim.call = .stop ∨ (x.aim.wanted.isSome = true ∧ x.aim.wanted ≠ x.driven)) ↔ x.turnsAway := by
  rw [Channel.turnsAway]
  refine or_congr_right ⟨fun ⟨hw, hne⟩ => ?_, fun ⟨w, hw, hne⟩ => ?_⟩
  · obtain ⟨w, hw⟩ := Option.isSome_iff_exists.mp hw
    exact ⟨w, hw, fun e => hne (hw.trans e.symm)⟩
  · exact ⟨by rw [hw]; rfl, fun e => hne (e.symm.trans hw)⟩

section Lines

variable {p : Params} {x : Channel} {d : Dir}

theorem stepStopped_stays (h : x.aim.call ≠ .run) : stepStopped p x = x := by
  cases hc : x.aim.call with
  | run => exact absurd hc h
  | stop | hold => simp only [stepStopped, hc]

theorem stepStopped_run (h : x.aim.call = .run) (w : x.aim.wanted = some d) :
    stepStopped p x = if x.coast > 0 ∧ d ≠ x.last then { x with state := .dwell } else enterStarting p d x := by
  simp only [stepStopped, h, w]

theorem stepDwell_ends (h : x.aim.call ≠ .run) : stepDwell p x = { x with state := .stopped } := by
  cases hc : x.aim.call with
  | run => exact absurd hc h
  | stop | hold => simp only [stepDwell, hc]

theorem stepDwell_run (h : x.aim.call = .run) (w : x.aim.wanted = some d) :
    stepDwell p x = if x.coast = 0 ∨ d = x.last then enterStarting p d x else x := by
  simp only [stepDwell, h, w]

theorem stepStarting_away (h : x.turnsAway) : stepStarting p x = { x with state := .stopping, ready := 0 } :=
  if_pos (x.turnsAway_iff.mpr h)

theorem stepStarting_on (h : ¬x.turnsAway) : stepStarting p x =
    if x.rdy then { x with state := .running, ready := 0 }
    else if x.ready + 1 ≥ p.readyTimeout then enterFault p .noReady x
    else { x with ready := x.ready + 1 } := if_neg (mt x.turnsAway_iff.mp h)

theorem stepRunning_away (h : x.turnsAway) : stepRunning p x = { x with state := .stopping } :=
  if_pos (x.turnsAway_iff.mpr h)

theorem stepRunning_on (h : ¬x.turnsAway) :
    stepRunning p x = { x with reference := ramp p x.aim.target x.reference } := if_neg (mt x.turnsAway_iff.mp h)

/-- R71: the reference goes to its aim from either side; at the aim it stands. -/
theorem ramp_eq (p : Params) (target reference : Nat) : ramp p target reference =
    if reference ≤ max target p.minRun then min (max target p.minRun) (reference + p.rampStep)
    else max (max target p.minRun) (reference - p.rampStep) := by
  simp only [ramp]
  split_ifs <;> omega

/-- R73: the ready loss ends in FAULT. -/
theorem supervised_lost {rest : Channel → Channel} (h : x.rdy = false) (k : p.readyLoss ≤ x.ready + 1) :
    supervised p rest x = enterFault p .readyLost x := by
  rw [supervised, if_neg (by simp [h]), if_pos k]

/-- R73: otherwise the ready count is `n`, and the step goes on. -/
theorem supervised_kept {rest : Channel → Channel} {n : Nat} (hn : n = if x.rdy then 0 else x.ready + 1)
    (h : x.rdy = false → n < p.readyLoss) : supervised p rest x = rest { x with ready := n } := by
  by_cases hr : x.rdy = true
  · rw [if_pos hr] at hn
    rw [supervised, if_pos hr, hn]
  · rw [if_neg hr] at hn
    have hl := h (by simpa using hr)
    rw [supervised, if_neg hr, if_neg (by omega), hn]

/-- R74: the fault of a channel that drives `d`. -/
theorem enterFault_driven (why : FanFault) (h : x.driven = some d) : enterFault p why x = { x with
    state := .fault, reference := 0, last := d, driven := none, coast := p.dwell, ready := 0, reason := some why } := by
  rw [enterFault, h]
  rfl

end Lines

/-- Settles O10: each state's step by its lines; in RUNNING and STOPPING the ready supervision comes first. -/
theorem fanStepFollowsTheTables : Obligations.FanStepFollowsTheTables := by
  intro p x d y call turnsAway started faulted
  have hy : y = stepChannel p x := rfl
  unfold stepChannel at hy
  refine ⟨fun hs => ?_, fun hs => ?_, fun hs hd => ?_, fun hs hd => ⟨fun hr hl => ?_, fun n hn hk => ?_⟩, fun hs => ?_⟩
  · rw [hs] at hy
    refine ⟨fun hc => hy.trans (stepStopped_stays hc), fun hc hw => ?_⟩
    have e := hy.trans (stepStopped_run hc hw)
    exact ⟨fun h0 hd => e.trans (if_pos ⟨h0, hd⟩), fun h => e.trans (if_neg fun k => h.elim (fun h0 => by omega) k.2)⟩
  · rw [hs] at hy
    refine ⟨fun hc => hy.trans (stepDwell_ends hc), fun hc hw => ?_⟩
    have e := hy.trans (stepDwell_run hc hw)
    exact ⟨fun h => e.trans (if_pos h), fun h0 hd => e.trans (if_neg (not_or.mpr ⟨by omega, hd⟩))⟩
  · rw [hs] at hy
    have on := fun h : ¬turnsAway => hy.trans (stepStarting_on h)
    refine ⟨fun h => hy.trans (stepStarting_away h), fun h hr => (on h).trans (if_pos hr), fun h hr hl => ?_,
      fun h hr hl => ?_⟩
    · exact (on h).trans ((if_neg (by simp [hr])).trans (if_neg (by omega)))
    · exact (on h).trans ((if_neg (by simp [hr])).trans ((if_pos hl).trans (enterFault_driven _ hd)))
  · rcases hs with hs | hs <;> rw [hs] at hy <;>
      exact hy.trans ((supervised_lost hr hl).trans (enterFault_driven _ hd))
  · refine ⟨fun hs h => ?_, fun hs h => ?_, fun hs hc hw => ?_, fun hs h => ⟨fun hm => ?_, fun hm => ?_⟩⟩ <;>
      rw [hs] at hy <;> refine hy.trans ((supervised_kept hn hk).trans ?_)
    · exact stepRunning_away h
    · refine (stepRunning_on (x := { x with ready := n }) h).trans ?_
      rw [ramp_eq]
    · exact if_pos ⟨hc, hw.trans hd.symm⟩
    · refine (if_neg fun k => h ⟨k.1, k.2.trans hd⟩).trans ((if_pos hm).trans ?_)
      rw [release, hd]
      rfl
    · exact (if_neg fun k => h ⟨k.1, k.2.trans hd⟩).trans (if_neg hm)
  · rw [hs] at hy
    exact hy

end Sys2Proof.Machine
end

section
/-! SUPPORT. The law of a fan channel under its state step (R62, R67), and the bound of its target (R63, R65). -/

namespace Sys2Proof.Machine

/-! ## The law of a channel (R62, R67, R78) -/

namespace ChannelLaw

variable {p q : Params} {x y : Channel}

theorem driven_none (l : ChannelLaw p x) (h : ¬turns x.state) : x.driven = none := by
  have hd := mt l.driven.mp h
  simpa using hd

theorem reason_none (l : ChannelLaw p x) (h : x.state ≠ .fault) : x.reason = none := by
  have hr := mt l.reason.mp h
  simpa using hr

/-- A channel that comes to rest. -/
theorem rests (l : ChannelLaw p x) (hs : ¬turns y.state) (hd : y.driven = none) (h0 : y.reference = 0)
    (hr : y.reason.isSome = true ↔ y.state = .fault) (hf : y.fwd = x.fwd := by rfl) (hv : y.rev = x.rev := by rfl)
    (ho : y.force = x.force := by rfl) : ChannelLaw q y where
  driven := by simp [hd, hs]
  reason := hr
  resting _ := h0
  turning h := absurd h hs
  outputs := by
    rw [hf, hv]
    exact l.outputs
  force := by
    rw [ho]
    exact l.force

/-- A channel that turns. -/
theorem drives (l : ChannelLaw p x) (hs : turns y.state) (hd : y.driven.isSome = true) (hr : y.reason = none)
    (hm : p.minRun ≤ y.reference) (hb : y.reference ≤ 1000) (hf : y.fwd = x.fwd := by rfl)
    (hv : y.rev = x.rev := by rfl) (ho : y.force = x.force := by rfl) : ChannelLaw p y where
  driven := by simp [hd, hs]
  reason := by
    rcases hs with h | h | h <;> simp [hr, h]
  resting h := absurd hs h
  turning _ := ⟨hm, hb⟩
  outputs := by
    rw [hf, hv]
    exact l.outputs
  force := by
    rw [ho]
    exact l.force

/-- A channel whose state, reference, direction and reason stand. -/
theorem stands (l : ChannelLaw p x) (ho : y.fwd = 0 ∨ y.rev = 0) (hf : ∀ f, y.force = some f → f.2 ≤ 1000)
    (hs : y.state = x.state := by rfl) (hr : y.reference = x.reference := by rfl) (hd : y.driven = x.driven := by rfl)
    (hw : y.reason = x.reason := by rfl) : ChannelLaw p y where
  driven := by
    rw [hd, hs]
    exact l.driven
  reason := by
    rw [hw, hs]
    exact l.reason
  resting := by
    rw [hs, hr]
    exact l.resting
  turning := by
    rw [hs, hr]
    exact l.turning
  outputs := ho
  force := hf

/-- A channel at rest keeps its law under other tuning values. -/
theorem retuned (l : ChannelLaw p x) (h : ¬turns x.state) : ChannelLaw q x :=
  ⟨l.driven, l.reason, l.resting, fun k => absurd k h, l.outputs, l.force⟩

end ChannelLaw

section Step

variable {p : Params} {x : Channel}

theorem channelLaw_enterStarting {d : Dir} (hm : p.minRun ≤ 1000) (h : x.state ≠ .fault) (l : ChannelLaw p x) :
    ChannelLaw p (enterStarting p d x) := l.drives (.inl rfl) rfl (l.reason_none h) (Nat.le_refl _) hm

theorem channelLaw_enterFault (why : FanFault) (l : ChannelLaw p x) : ChannelLaw p (enterFault p why x) :=
  l.rests (by simp [enterFault, turns]) rfl rfl (by simp [enterFault])

theorem channelLaw_release (h : x.state ≠ .fault) (l : ChannelLaw p x) : ChannelLaw p (release p x) :=
  l.rests (by simp [release, turns]) rfl rfl (by simp [release, l.reason_none h])

theorem channelLaw_stepStopped (hm : p.minRun ≤ 1000) (hs : x.state = .stopped) (l : ChannelLaw p x) :
    ChannelLaw p (stepStopped p x) := by
  have rest : ¬turns x.state := by simp [hs, turns]
  have fine : x.state ≠ .fault := by simp [hs]
  unfold stepStopped
  split
  · split
    · exact l.rests (by simp [turns]) (l.driven_none rest) (l.resting rest) (by simp [l.reason_none fine])
    · exact channelLaw_enterStarting hm fine l
  · exact l

theorem channelLaw_stepDwell (hm : p.minRun ≤ 1000) (hs : x.state = .dwell) (l : ChannelLaw p x) :
    ChannelLaw p (stepDwell p x) := by
  have rest : ¬turns x.state := by simp [hs, turns]
  have fine : x.state ≠ .fault := by simp [hs]
  unfold stepDwell
  split
  · split
    · exact channelLaw_enterStarting hm fine l
    · exact l
  · exact l.rests (by simp [turns]) (l.driven_none rest) (l.resting rest) (by simp [l.reason_none fine])

/-- A turning channel that turns on, in another of the three states, with a reference in its range. -/
theorem channelLaw_turnsOn {y : Channel} (hs : turns x.state) (l : ChannelLaw p x) (ht : turns y.state)
    (hm : p.minRun ≤ y.reference) (hb : y.reference ≤ 1000) (hd : y.driven = x.driven := by rfl)
    (hr : y.reason = x.reason := by rfl) (hf : y.fwd = x.fwd := by rfl) (hv : y.rev = x.rev := by rfl)
    (ho : y.force = x.force := by rfl) : ChannelLaw p y :=
  l.drives ht (by rw [hd]; exact l.driven.mpr hs)
    (by rw [hr]; exact l.reason_none (by rcases hs with h | h | h <;> simp [h])) hm hb hf hv ho

theorem channelLaw_stepStarting (hs : x.state = .starting) (l : ChannelLaw p x) : ChannelLaw p (stepStarting p x) := by
  have ht : turns x.state := .inl hs
  obtain ⟨hm, hb⟩ := l.turning ht
  unfold stepStarting
  split
  · exact channelLaw_turnsOn ht l (.inr (.inr rfl)) hm hb
  · split
    · exact channelLaw_turnsOn ht l (.inr (.inl rfl)) hm hb
    · split
      · exact channelLaw_enterFault _ l
      · exact l.stands l.outputs l.force

/-- R71: the reference stays within the minimum run and 1000 on its way to the target. -/
theorem ramp_range {target reference : Nat} (hm : p.minRun ≤ reference) (hb : reference ≤ 1000) (hp : p.minRun ≤ 1000)
    (ht : target ≤ 1000) : p.minRun ≤ ramp p target reference ∧ ramp p target reference ≤ 1000 := by
  rw [ramp_eq]
  split <;> omega

theorem channelLaw_stepRunning (hp : p.minRun ≤ 1000) (ht : x.aim.target ≤ 1000) (hs : x.state = .running)
    (l : ChannelLaw p x) : ChannelLaw p (stepRunning p x) := by
  have hturns : turns x.state := .inr (.inl hs)
  obtain ⟨hm, hb⟩ := l.turning hturns
  unfold stepRunning
  split
  · exact channelLaw_turnsOn hturns l (.inr (.inr rfl)) hm hb
  · obtain ⟨rm, rb⟩ := ramp_range hm hb hp ht
    exact channelLaw_turnsOn hturns l hturns rm rb

theorem channelLaw_stepStopping (hp : p.minRun ≤ 1000) (hs : x.state = .stopping) (l : ChannelLaw p x) :
    ChannelLaw p (stepStopping p x) := by
  have hturns : turns x.state := .inr (.inr hs)
  obtain ⟨hm, hb⟩ := l.turning hturns
  unfold stepStopping
  split
  · exact channelLaw_turnsOn hturns l (.inr (.inl rfl)) hm hb
  · split
    · exact channelLaw_release (by simp [hs]) l
    · exact channelLaw_turnsOn hturns l hturns (Nat.le_max_left _ _) (by dsimp only; omega)

/-- R73: the ready supervision leaves to the rest of the step a channel with another ready count only. -/
theorem channelLaw_supervised {rest : Channel → Channel} (l : ChannelLaw p x)
    (h : ∀ n, ChannelLaw p { x with ready := n } → ChannelLaw p (rest { x with ready := n })) :
    ChannelLaw p (supervised p rest x) := by
  have counted : ∀ n, ChannelLaw p { x with ready := n } := fun n => l.stands l.outputs l.force
  unfold supervised
  split
  · exact h _ (counted _)
  · split
    · exact channelLaw_enterFault _ l
    · exact h _ (counted _)

/-- R67: the state step keeps the law of a channel. -/
theorem channelLaw_stepChannel (hp : p.minRun ≤ 1000) (ht : x.aim.target ≤ 1000) (l : ChannelLaw p x) :
    ChannelLaw p (stepChannel p x) := by
  unfold stepChannel
  split
  case h_1 hs => exact channelLaw_stepStopped hp hs l
  case h_2 hs => exact channelLaw_stepDwell hp hs l
  case h_3 hs => exact channelLaw_stepStarting hs l
  case h_4 hs => exact channelLaw_supervised l fun n => channelLaw_stepRunning (x := { x with ready := n }) hp ht hs
  case h_5 hs => exact channelLaw_supervised l fun n => channelLaw_stepStopping (x := { x with ready := n }) hp hs
  case h_6 => exact l

theorem channelLaw_coastTap (l : ChannelLaw p x) : ChannelLaw p (coastTap x) := by
  unfold coastTap
  split
  all_goals exact l.stands l.outputs l.force

/-- R78: an output takes the reference, the other one is 0. -/
theorem takeReference_eq (x : Channel) : takeReference x = { x with
    fwd := if x.driven = some .forward then x.reference else 0
    rev := if x.driven = some .reverse then x.reference else 0 } := by
  unfold takeReference
  split <;> rename_i h <;> simp [h]

theorem channelLaw_takeReference (l : ChannelLaw p x) : ChannelLaw p (takeReference x) := by
  rw [takeReference_eq]
  refine l.stands ?_ l.force
  cases x.driven with
  | none => exact .inl rfl
  | some d => cases d with
    | forward => exact .inr rfl
    | reverse => exact .inl rfl

end Step

/-! ## The bound of the target (R63, R65) -/

/-- R44: a demand is at most 1000, whatever the zone's index. -/
theorem demand_le {s : State} (l : AirLaw s) (z : Nat) : (s.air.zones.nth z).demand ≤ 1000 := by
  by_cases hz : z < 16
  · exact (l.zones z hz).demand
  · rw [Tab.nth_of_ge _ (by omega)]
    decide

/-- R63: the largest demand of the assist zones, 0 without one. -/
def assistDemand (s : State) (r : FanRec) : Nat := r.assist.foldl (fun m z => max m (s.air.zones.nth z).demand) 0

theorem computedTarget_eq (s : State) (r : FanRec) :
    computedTarget s r = max (s.air.zones.nth r.owner).demand (assistDemand s r * r.weight / 100) := rfl

theorem assistDemand_spec (s : State) (r : FanRec) :
    (∀ z ∈ r.assist, (s.air.zones.nth z).demand ≤ assistDemand s r) ∧
    (assistDemand s r = 0 ∨ ∃ z ∈ r.assist, assistDemand s r = (s.air.zones.nth z).demand) := by
  obtain ⟨-, hle, hmem⟩ := foldl_max_spec (fun z => (s.air.zones.nth z).demand) r.assist 0
  exact ⟨hle, hmem.imp id fun ⟨z, hz, e⟩ => ⟨z, hz, e.symm⟩⟩

theorem computedTarget_le {s : State} {r : FanRec} (l : AirLaw s) (hw : r.weight ≤ 100) : computedTarget s r ≤ 1000 := by
  have hm : assistDemand s r ≤ 1000 := foldl_max_le _ (Nat.zero_le _) fun z _ => demand_le l z
  have ho := demand_le l r.owner
  have hp : assistDemand s r * r.weight ≤ 1000 * 100 := Nat.mul_le_mul hm hw
  rw [computedTarget_eq]
  omega

theorem aimOf_target_le {p : Params} {computed : Nat} {force : Option (Nat × Nat)} {dir : Option Dir}
    (hp : p.minRun ≤ 1000) (hc : computed ≤ 1000) (hf : ∀ f, force = some f → f.2 ≤ 1000) :
    (aimOf p computed force dir).target ≤ 1000 := by
  dsimp only [aimOf]
  split
  · omega
  · cases force with
    | none => exact hc
    | some f =>
      have hv := hf f rfl
      simp only [Option.map_some, Option.getD_some, forcedTarget]
      split <;> omega

theorem channelAim_target_le {s : State} {n : Nat} (l : AirSound s) (hn : n < 12)
    (hf : ∀ f, (s.fan.channels.nth n).force = some f → f.2 ≤ 1000) : (channelAim s n).target ≤ 1000 := by
  have hp := l.cfg.inForce.minRun
  dsimp only [channelAim]
  split
  · exact aimOf_target_le hp (computedTarget_le l.air (l.cfg.inForce.weights n hn)) hf
  · exact aimOf_target_le hp l.cfg.inForce.fallbackSpeed hf

/-- R64: the value of an effective FAN_FORCE is that of an entry of the stack. -/
theorem effectiveForce_le {stack : List Entry} {b n : Nat} (h : ∀ e ∈ stack, e.value ≤ b) {f : Nat × Nat}
    (hf : effectiveForce stack n = some f) : f.2 ≤ b := by
  obtain ⟨e, he, rfl⟩ := Option.map_eq_some_iff.mp hf
  exact h e (List.mem_filter.mp (List.mem_of_getLast? he)).1

end Sys2Proof.Machine
end

section
/-! SUPPORT. What keeps the law of the fan channels (R62, R67, R78): the operations that leave the channels and the tuning
values, those of the fan drive itself, and the changes of the override stack that reach it (R64). -/

namespace Sys2Proof.Machine

/-! ## What leaves the channels -/

/-- From `s` to `t` everything stands that the law of the fan channels looks at. -/
structure SameDrive (s t : State) : Prop where
  state : t.cfg.state = s.cfg.state := by rfl
  params : t.cfg.inForce.params = s.cfg.inForce.params := by rfl
  channels : t.fan.channels = s.fan.channels := by rfl

namespace SameDrive

variable {s t u : State} {bs : List Block}

theorem refl (s : State) : SameDrive s s := {}

theorem trans (h : SameDrive s t) (k : SameDrive t u) : SameDrive s u :=
  ⟨k.state.trans h.state, k.params.trans h.params, k.channels.trans h.channels⟩

theorem ite {c : Prop} [Decidable c] (h : c → SameDrive s t) (k : ¬c → SameDrive s u) :
    SameDrive s (if c then t else u) := by
  split
  · exact h ‹_›
  · exact k ‹_›

theorem of_does (h : Does bs s t) (f : bs.contains .fan = false) (c : bs.contains .cfg = false) : SameDrive s t :=
  ⟨by rw [h.cfg c], by rw [h.cfg c], by rw [h.fan f]⟩

/-- A change of the configuration that leaves its state and the copy in force. -/
theorem of_cfg (hf : t.fan = s.fan) (hs : t.cfg.state = s.cfg.state) (hc : t.cfg.inForce = s.cfg.inForce) : SameDrive s t :=
  ⟨hs, by rw [hc], by rw [hf]⟩

theorem fanLaw (h : SameDrive s t) (l : FanLaw s) : FanLaw t where
  channels n hn := by
    rw [Machine.params, h.params, h.channels]
    exact l.channels n hn
  loading := by
    rw [Machine.loading, h.state, h.channels]
    exact l.loading

end SameDrive

/-! ## What keeps the law -/

/-- From `s` to `t` the law of the fan channels is kept, where demands, forces and tuning values are within their ranges. -/
structure KeepsFans (s t : State) : Prop where
  law : AirSound s → FanLaw s → FanLaw t

namespace KeepsFans

variable {s t u : State} {bs : List Block}

theorem same (h : SameDrive s t) : KeepsFans s t := ⟨fun _ => h.fanLaw⟩

theorem refl (s : State) : KeepsFans s s := same (.refl s)

theorem of_does (h : Does bs s t) (f : bs.contains .fan = false) (c : bs.contains .cfg = false) : KeepsFans s t :=
  same (.of_does h f c)

/-- The ranges have to be kept on the way (R44). -/
theorem trans (r : AirSound s → AirSound t) (h : KeepsFans s t) (k : KeepsFans t u) : KeepsFans s u :=
  ⟨fun a l => k.law (r a) (h.law a l)⟩

/-- What leaves the channels, after what keeps their law. -/
theorem after (h : KeepsFans s t) (k : SameDrive t u) : KeepsFans s u := ⟨fun a l => k.fanLaw (h.law a l)⟩

theorem afterDoes (h : KeepsFans s t) (k : Does bs t u) (f : bs.contains .fan = false) (c : bs.contains .cfg = false) :
    KeepsFans s u := h.after (.of_does k f c)

theorem ite {c : Prop} [Decidable c] (h : c → KeepsFans s t) (k : ¬c → KeepsFans s u) :
    KeepsFans s (if c then t else u) := by
  split
  · exact h ‹_›
  · exact k ‹_›

theorem foldl {α : Type} {f : State → α → State} {l : List α} (r : ∀ x ∈ l, ∀ t, AirSound t → AirSound (f t x))
    (h : ∀ x ∈ l, ∀ t, KeepsFans t (f t x)) (s : State) : KeepsFans s (l.foldl f s) := by
  induction l generalizing s with
  | nil => exact refl s
  | cons x l ih =>
    exact .trans (r x (by simp) s) (h x (by simp) s)
      (ih (fun y hy => r y (by simp [hy])) (fun y hy => h y (by simp [hy])) _)

/-- R165. -/
theorem fill (h : KeepsFans s t) : KeepsFans s (fillSlots t) := h.afterDoes (does_fillSlots t) rfl rfl

theorem answered (h : KeepsFans s t) (kind : Nat) (r : Result) (fields : List Byte) :
    KeepsFans s (answer kind r fields t) := h.afterDoes (does_answer t _ _ _) rfl rfl

/-- Channels that take new records, each with its law; in LOADING none of them may turn. -/
theorem of_channels (hs : t.cfg.state = s.cfg.state) (hc : t.cfg.inForce = s.cfg.inForce)
    (h : AirSound s → ∀ n, n < 12 → ChannelLaw (params s) (s.fan.channels.nth n) →
      ChannelLaw (params s) (t.fan.channels.nth n))
    (k : loading s = true → ∀ n, n < 12 → (t.fan.channels.nth n).state = (s.fan.channels.nth n).state) :
    KeepsFans s t where
  law a l := by
    refine ⟨fun n hn => ?_, fun hl n hn => ?_⟩
    · rw [params, hc]
      exact h a n hn (l.channels n hn)
    · rw [loading, hs] at hl
      rw [k hl n hn]
      exact l.loading hl n hn

/-- Every channel takes a new record with its old state. -/
theorem of_each {f : Channel → Channel} (h : ∀ p x, ChannelLaw p x → ChannelLaw p (f x)) (k : ∀ x, (f x).state = x.state)
    (s : State) : KeepsFans s { s with fan := { s.fan with channels := s.fan.channels.each f } } := by
  refine of_channels rfl rfl (fun _ n hn l => ?_) fun _ n hn => ?_
  · rw [Tab.nth_each _ _ hn]
    exact h _ _ l
  · rw [Tab.nth_each _ _ hn, k]

end KeepsFans

/-! ## Fan drive -/

/-- One channel takes a new record; in LOADING it keeps its state. -/
theorem keepsFans_setChannel {n : Nat} {x : Channel} {s : State}
    (h : AirSound s → n < 12 → ChannelLaw (params s) (s.fan.channels.nth n) → ChannelLaw (params s) x)
    (k : loading s = true → x.state = (s.fan.channels.nth n).state) : KeepsFans s (setChannel n x s) := by
  refine .of_channels rfl rfl (fun a m hm l => ?_) fun hl m hm => ?_ <;>
    rw [setChannel_fan, Tab.nth_put] <;> split
  · rename_i e
    obtain ⟨rfl, hn⟩ := e
    exact h a hn l
  · exact l
  · rename_i e
    rw [k hl, e.1]
  · rfl

/-- R77, R79: a channel's new record, its notice, and VENT_LOST. -/
theorem takeChannel_channels (n : Nat) (x : Channel) (s : State) :
    (takeChannel n x s).fan.channels = s.fan.channels.put n x := by
  dsimp only [takeChannel]
  split
  · rfl
  · split
    · rw [formVentLost_channels]
      rfl
    · rfl

theorem sameDrive_takeChannel (n : Nat) (x : Channel) (s : State) : SameDrive (setChannel n x s) (takeChannel n x s) := by
  have hc := (does_takeChannel n x s).cfg rfl
  exact ⟨by rw [hc]; rfl, by rw [hc]; rfl, takeChannel_channels n x s⟩

theorem not_loading_of_fanDriven {s : State} {n : Nat} (h : fanDriven s n = true) : loading s = false := by
  unfold fanDriven at h
  split at h <;> simp_all [loading]

/-- R67: the T4 tap of a channel. -/
theorem keepsFans_fanTap (n : Nat) (rdy : Bool) (s : State) : KeepsFans s (fanTap n rdy s) := by
  dsimp only [fanTap]
  refine .ite (fun hd => ?_) (fun _ => keepsFans_setChannel (fun _ _ l => l.stands l.outputs l.force) fun _ => rfl)
  refine .after (keepsFans_setChannel (fun a hn l => ?_) fun hl => ?_) (sameDrive_takeChannel n _ s)
  · exact channelLaw_stepChannel a.cfg.inForce.minRun (channelAim_target_le a hn l.force) (l.stands l.outputs l.force)
  · exact absurd hl (by simp [not_loading_of_fanDriven hd])

theorem keepsFans_testBelow (n : Nat) (s : State) : KeepsFans s (testBelow n s) := by
  have h : ∀ b, KeepsFans s (setChannel n { s.fan.channels.nth n with forcedBelow := b } s) := fun b =>
    keepsFans_setChannel (fun _ _ l => l.stands l.outputs l.force) fun _ => rfl
  dsimp only [testBelow]
  exact .ite (fun _ => (h _).afterDoes (does_post _ _) rfl rfl) (fun _ => h _)

theorem keepsFans_fansT4 (rdy : BitVec 12) (s : State) : KeepsFans s (fansT4 rdy s) := by
  have z : KeepsZones s ((List.range 12).foldl (fun u n => fanTap n (rdy.getLsbD n) u) s) :=
    .foldl _ (fun t n => keepsZones_fanTap n _ t) _ s
  have h : KeepsFans s ((List.range 12).foldl (fun u n => fanTap n (rdy.getLsbD n) u) s) :=
    .foldl (fun n _ t => (keepsZones_fanTap n _ t).air) (fun n _ t => keepsFans_fanTap n _ t) s
  refine .ite (fun _ => .trans z.air h ?_) (fun _ => h)
  exact .foldl (fun n _ t => (quiet_testBelow n t).airSound) (fun n _ t => keepsFans_testBelow n t) _

theorem keepsFans_fansT1 (s : State) : KeepsFans s (fansT1 s) :=
  .of_each (fun _ _ => channelLaw_coastTap) coastTap_state s

/-! ## Override stack (R64, R147) -/

theorem keepsFans_fanStack (s : State) : KeepsFans s (fanStack s) := by
  have hc := (does_fanStack s).cfg rfl
  refine .of_channels (by rw [hc]) (by rw [hc]) (fun a n hn l => ?_) fun _ n hn => ?_ <;>
    rw [fanStack_channels, Tab.nth_build, if_pos hn]
  exact l.stands l.outputs fun f => effectiveForce_le a.values

theorem keepsFans_announceStack (s : State) : KeepsFans s (announceStack s) :=
  ((((keepsFans_fanStack s).afterDoes (does_airStack _) rfl rfl).afterDoes (does_lightStack _) rfl rfl).afterDoes
    (does_guideStack _) rfl rfl).afterDoes (does_formSounder _) rfl rfl

/-- R147: a new stack, announced. -/
theorem keepsFans_restack {l : List Entry} {s : State}
    (hl : (∀ e ∈ s.ovr.stack, e.value ≤ 1000) → ∀ e ∈ l, e.value ≤ 1000) : KeepsFans s (announceStack (setStack l s)) where
  law a f := (keepsFans_announceStack _).law (airSound_setStack (hl a.values) a)
    ((SameDrive.of_does (does_setStack s l) rfl rfl).fanLaw f)

theorem keepsFans_pushEntry {e : Entry} {s : State} (he : e.value ≤ 1000) : KeepsFans s (pushEntry e s) :=
  keepsFans_restack (values_snoc he)

theorem keepsFans_keyPush (k : Nat) (s : State) : KeepsFans s (keyPush k s) := by
  dsimp only [keyPush]
  split
  · exact .refl s
  · exact .trans (quiet_setKey k _ s).airSound (.of_does (does_setKey s k _) rfl rfl)
      (keepsFans_restack (values_snoc (takeValue_le _ _)))

theorem keepsFans_pendingPush (k : Nat) (s : State) : KeepsFans s (pendingPush k s) :=
  .ite (fun _ => (keepsFans_keyPush k s).afterDoes (does_post _ _) rfl rfl) (fun _ => .refl s)

theorem keepsFans_removeEntries (p : Entry → Bool) (s : State) : KeepsFans s (removeEntries p s) :=
  .trans (keepsZones_restack (values_filter _)).air (keepsFans_restack (values_filter _))
    (.trans (keepsZones_pendingPush 0 _).air (keepsFans_pendingPush 0 _) (keepsFans_pendingPush 1 _))

theorem keepsFans_keyAct (k : Nat) (s : State) : KeepsFans s (keyAct k s) := by
  have h : KeepsFans s (setKey k { s.ovr.keys.nth k with filter := 0 } s) := .of_does (does_setKey s k _) rfl rfl
  dsimp only [keyAct]
  refine .ite (fun _ => .trans (quiet_setKey k _ s).airSound h (keepsFans_keyPush k _)) (fun _ => ?_)
  exact (h.afterDoes (does_setKey _ k _) rfl rfl).afterDoes (does_post _ _) rfl rfl

theorem keepsFans_keyRelease (k : Nat) (s : State) : KeepsFans s (keyRelease k s) := by
  have h : KeepsFans s (setKey k ⟨false, 0, .released⟩ s) := .of_does (does_setKey s k _) rfl rfl
  dsimp only [keyRelease]
  split
  · exact .trans (quiet_setKey k _ s).airSound h (keepsFans_removeEntries _ _)
  · exact h.afterDoes (does_post _ _) rfl rfl
  · exact h
  · exact h

theorem keepsFans_keyTapActive (k : Nat) (s : State) : KeepsFans s (keyTapActive k s) := by
  have h : ∀ x, KeepsFans s (setKey k x s) := fun x => .of_does (does_setKey s k x) rfl rfl
  dsimp only [keyTapActive]
  refine .ite (fun _ => h _) (fun _ => .ite (fun _ => ?_) (fun _ => h _))
  exact .ite (fun _ => .trans (quiet_setKey k _ s).airSound (h _) (keepsFans_keyAct k _))
    (fun _ => (h _).afterDoes (does_setKey _ k _) rfl rfl)

theorem keepsFans_keyTap (k : Nat) (active : Bool) (s : State) : KeepsFans s (keyTap k active s) :=
  .ite (fun _ => keepsFans_keyTapActive k s) (fun _ => keepsFans_keyRelease k s)

theorem keepsFans_expireEntries (s : State) : KeepsFans s (expireEntries s) := by
  dsimp only [expireEntries]
  exact .ite (fun _ => .refl s) (fun _ =>
    .trans (quiet_postAll _ s).airSound (.of_does (does_postAll _ s) rfl rfl) (keepsFans_removeEntries _ _))

/-- R146: remaining times move, then the entries that have run out are removed. -/
theorem keepsFans_expireMapped {f : Entry → Entry} (hk : ∀ e, (f e).kind = e.kind) (hs : ∀ e, (f e).scope = e.scope)
    (hv : ∀ e, (f e).value = e.value) (s : State) : KeepsFans s (expireEntries (setStack (s.ovr.stack.map f) s)) :=
  .trans (keepsZones_mapStack hk hs hv s).air (.of_does (does_setStack s _) rfl rfl) (keepsFans_expireEntries _)

theorem keepsFans_stackT1 (s : State) : KeepsFans s (stackT1 s) :=
  keepsFans_expireMapped (f := Entry.tick) (fun _ => rfl) (fun _ => rfl) (fun _ => rfl) s

theorem keepsFans_cancelMutes (s : State) : KeepsFans s (cancelMutes s) := by
  have d : ∀ ns ids, Does [.ovr, .notices] s (spendKey ids 1 (spendKey ids 0 (postAll ns s))) := fun ns ids =>
    ((does_postAll ns s).mono rfl).trans ((does_spendKey ids 0 _).trans (does_spendKey ids 1 _))
  have q : ∀ ns ids, Quiet s (spendKey ids 1 (spendKey ids 0 (postAll ns s))) := fun ns ids =>
    ((quiet_postAll ns s).trans (quiet_spendKey ids 0 _)).trans (quiet_spendKey ids 1 _)
  dsimp only [cancelMutes]
  exact .ite (fun _ => .of_does (d _ _) rfl rfl)
    (fun _ => .trans (q _ _).airSound (.of_does (d _ _) rfl rfl) (keepsFans_removeEntries _ _))

/-! ## The air sample (R31, R54) -/

theorem keepsFans_announceAir (z : Nat) (s : State) : KeepsFans s (announceAir z s) := by
  have d : ∀ n, Does [.guide, .light, .slots, .notices] s (lightAir z (guideAir z (post n s))) := fun n =>
    ((does_post n s).mono rfl).trans (((does_guideAir z _).mono rfl).trans ((does_lightAir z _).mono rfl))
  have h : ∀ n, KeepsFans s (lightAir z (guideAir z (post n s))) := fun n => .of_does (d n) rfl rfl
  refine .afterDoes ?_ (does_formSounder _) rfl rfl
  exact .ite (fun _ => .trans (airSound_of_does (d _) rfl) (h _) (keepsFans_cancelMutes _)) (fun _ => h _)

/-- R44: the zone stage of a zone leaves the ranges. -/
theorem airSound_zoneStage {z : Nat} (hz : 1 ≤ z) {s : State} (l : AirSound s) :
    AirSound (setZoneAir z (zoneStage (params s) (s.cfg.inForce.zones.nth z).fallbackDemand (contributions s z)
      (s.air.zones.nth z)) s) :=
  airSound_setZoneAir (fun h => zoneAirLaw_zoneStage l.cfg.inForce.curve (l.cfg.inForce.demands z hz h)
    (contributions_le l.air.sensors z) (l.air.zones z h)) l

theorem keepsFans_sampleZone (old : Tab Sensor 32) {z : Nat} (hz : 1 ≤ z) (s : State) :
    KeepsFans s (sampleZone old z s) := by
  have h : ∀ x, KeepsFans s (postSensors old (fun r => r.zone == z) (setZoneAir z x s)) := fun x =>
    .afterDoes (.of_does (does_setZoneAir s z x) rfl rfl) (does_postSensors old _ _) rfl rfl
  refine .ite (fun _ => h _) (fun _ => .trans (fun l => ?_) (h _) (keepsFans_announceAir z _))
  exact airSound_of_does (does_postSensors _ _ _) rfl (airSound_zoneStage hz l)

theorem keepsFans_airTap (ain : Tab (BitVec 10) 8) (s : State) : KeepsFans s (airTap ain s) := by
  have h : ∀ x, KeepsFans s { s with air := { s.air with sensors := x } } := fun x => .of_does (does_air s _) rfl rfl
  have zones : ∀ old t, KeepsFans t ((presentZones s).foldl (fun u z => sampleZone old z u) t) := fun old t =>
    .foldl (fun z hz t => (keepsZones_sampleZone old (zonePresent_pos (mem_presentZones.mp hz)) t).air)
      (fun z hz t => keepsFans_sampleZone old (zonePresent_pos (mem_presentZones.mp hz)) t) t
  dsimp only [airTap]
  refine .ite (fun _ => h _) (fun _ => .ite (fun _ => .trans (fun l => ?_) ?_ (zones _ _)) (fun _ => h _))
  · exact airSound_of_does (does_postSensors _ _ _) rfl ((keepsZones_tapSensors ain s).air l)
  · exact (h _).afterDoes (does_postSensors _ _ _) rfl rfl

/-! ## The parts of the taps (R174) -/

theorem keepsFans_runT32 (loops : BitVec 8) (keys : BitVec 2) (s : State) (p : T32Part) :
    KeepsFans s (runT32 loops keys s p) := by
  refine .ite (fun _ => .refl s) (fun _ => ?_)
  cases p with
  | loops => exact .of_does (does_loopsT32 loops s) rfl rfl
  | keys => exact .foldl (fun k _ t => (keepsZones_keyTap k _ t).air) (fun k _ t => keepsFans_keyTap k _ t) s
  | paths => exact .of_does (does_pathsT32 s) rfl rfl

theorem keepsFans_runT4 (rdy : BitVec 12) (s : State) (p : T4Part) : KeepsFans s (runT4 rdy s p) := by
  refine .ite (fun _ => .refl s) (fun _ => ?_)
  cases p with
  | bays => exact .of_does (does_bayT4 s) rfl rfl
  | fans => exact keepsFans_fansT4 rdy s
  | bus => exact .of_does (does_busT4 s) rfl rfl

theorem keepsFans_runT1 (ain : Tab (BitVec 10) 8) (s : State) (p : T1Part) : KeepsFans s (runT1 ain s p) := by
  cases p with
  | clock => exact .of_does (does_time s _) rfl rfl
  | sounder => exact .ite (fun _ => .refl s) (fun _ => .of_does (does_sounderTap s) rfl rfl)
  | air => exact keepsFans_airTap ain s
  | bays => exact .of_does (does_bayT1 s) rfl rfl
  | fans => exact .ite (fun _ => .refl s) (fun _ => keepsFans_fansT1 s)
  | lights => exact .ite (fun _ => .refl s) (fun _ => .of_does (does_lightsT1 s) rfl rfl)
  | loops => exact .of_does (does_loopT1 s) rfl rfl
  | guide => exact .ite (fun _ => .refl s) (fun _ => .of_does (does_guideT1 s) rfl rfl)
  | stack => exact .ite (fun _ => .refl s) (fun _ => keepsFans_stackT1 s)

theorem keepsFans_tapT32 (loops : BitVec 8) (keys : BitVec 2) (order : List T32Part) (s : State) :
    KeepsFans s (tapT32 loops keys order s) :=
  .fill (.foldl (fun p _ t => (keepsZones_runT32 loops keys t p).air) (fun p _ t => keepsFans_runT32 loops keys t p) s)

theorem keepsFans_tapT4 (rdy : BitVec 12) (order : List T4Part) (s : State) : KeepsFans s (tapT4 rdy order s) :=
  .fill (.foldl (fun p _ t => (keepsZones_runT4 rdy t p).air) (fun p _ t => keepsFans_runT4 rdy t p) s)

theorem keepsFans_tapT1 (ain : Tab (BitVec 10) 8) (order : List T1Part) (s : State) : KeepsFans s (tapT1 ain order s) :=
  .fill (.foldl (fun p _ t => (keepsZones_runT1 ain t p).air) (fun p _ t => keepsFans_runT1 ain t p) s)

end Sys2Proof.Machine
end

section
/-! SUPPORT. The resets, the entries to the configuration states and the end of a load keep the law of the fan channels (R84
to R86, R183). -/

namespace Sys2Proof.Machine

/-! ## Resets (R84) -/

/-- R84: after a reset every channel stands at its start. -/
theorem keepsFans_reset {s t : State} (h : t.fan = FanDrive.start) : KeepsFans s t where
  law _ _ := by
    have start : ∀ n, n < 12 → t.fan.channels.nth n = Channel.start := fun n hn => by
      rw [h]
      exact channel_reset hn
    refine ⟨fun n hn => ?_, fun _ n hn => ?_⟩ <;> rw [start n hn]
    · exact channelLaw_start _
    · simp [Channel.start, turns]

theorem keepsFans_resetPowerOn (straps : Straps) (s : State) : KeepsFans s (resetPowerOn straps s) := keepsFans_reset rfl

theorem keepsFans_resetCommanded (straps : Straps) (s : State) : KeepsFans s (resetCommanded straps s) :=
  keepsFans_reset rfl

/-! ## Entries -/

/-- R86: a channel as RUNNING is entered is at rest, whatever it did before. -/
theorem channelLaw_startChannel {p : Params} {dwell n : Nat} {stack : List Entry} (h : ∀ e ∈ stack, e.value ≤ 1000)
    (x : Channel) : ChannelLaw p (startChannel dwell stack n x) where
  driven := by simp [startChannel, turns]
  reason := by simp [startChannel]
  resting _ := rfl
  turning k := absurd k (by simp [startChannel, turns])
  outputs := .inl rfl
  force _ := effectiveForce_le h

theorem fanLaw_fanToRunning {s : State} (h : ∀ e ∈ s.ovr.stack, e.value ≤ 1000) : FanLaw (fanToRunning s) where
  channels n hn := by
    rw [show (fanToRunning s).fan.channels.nth n = startChannel (params s).dwell s.ovr.stack n (s.fan.channels.nth n) from
      (Tab.nth_build _ _).trans (if_pos hn)]
    exact channelLaw_startChannel h _
  loading _ n hn := by
    rw [stopped_fanToRunning s hn]
    simp [turns]

/-- R86, R187: every channel starts afresh from the stack as the entry leaves it. -/
theorem fanLaw_enterRunning {s : State} (a : AirSound s) : FanLaw (enterRunning s) := by
  have values : AirSound (occToRunning (ovrToRunning s.cfg.inForce (busToRunning (cfgToRunning s)))) :=
    airSound_of_does (does_occToRunning _) rfl (airSound_ovrToRunning _
      (airSound_of_does (does_busToRunning _) rfl (airSound_cfgToRunning a)))
  refine (SameDrive.of_does (does_formSounder _) rfl rfl).fanLaw ((SameDrive.of_does (does_guideToRunning _) rfl rfl).fanLaw ?_)
  refine (SameDrive.of_does (does_loopsToRunning _) rfl rfl).fanLaw ((SameDrive.of_does (does_lightToRunning _) rfl rfl).fanLaw ?_)
  exact fanLaw_fanToRunning (airSound_airToRunning _ values).values

theorem keepsFans_toRunning {s t : State} (h : AirSound s → AirSound t) : KeepsFans s (enterRunning t) :=
  ⟨fun a _ => fanLaw_enterRunning (h a)⟩

/-- R85: the entry to EDITING clears the forced-below marks. -/
theorem enterEditing_channels (s : State) :
    (enterEditing s).fan.channels = s.fan.channels.each (fun x => { x with forcedBelow := false }) := by
  dsimp only [enterEditing]
  rw [(does_guideToEditing _).fan rfl, (does_lightToEditing _).fan rfl, fanToEditing, formVentLosts_channels,
    (does_airToEditing _).fan rfl, (does_occToEditing _).fan rfl, (does_busEntry _ _ _).fan rfl,
    (does_cfgToEditing _).fan rfl]

theorem keepsFans_enterEditing (s : State) : KeepsFans s (enterEditing s) where
  law _ l := by
    refine ⟨fun n hn => ?_, fun h => absurd h (by simp [loading, enterEditing_cfg])⟩
    have h := l.channels n hn
    rw [enterEditing_channels, Tab.nth_each _ _ hn, params, enterEditing_cfg]
    exact h.stands h.outputs h.force

/-! ## The end of a load (R183) -/

/-- R84: the end of a load sets the coast of every channel. -/
theorem loadFallback_channels (why : FallbackReason) (s : State) : (loadFallback why s).fan.channels =
    s.fan.channels.each (fun x => { x with coast := defaultParams.dwell }) := by
  dsimp only [loadFallback]
  rw [(does_busEntry _ _ _).fan rfl]
  rfl

/-- R67, R84: in LOADING no fan turns, so the default tuning values come into force under channels at rest. -/
theorem fanLaw_loadFallback (why : FallbackReason) {s : State} (hl : loading s = true) (l : FanLaw s) :
    FanLaw (loadFallback why s) := by
  refine ⟨fun n hn => ?_, fun h => absurd h (by simp [loading, (loadFallback_cfg why s).1])⟩
  have h := l.channels n hn
  rw [loadFallback_channels, Tab.nth_each _ _ hn]
  exact (h.stands (y := { s.fan.channels.nth n with coast := defaultParams.dwell }) h.outputs h.force).retuned
    (l.loading hl n hn)

theorem keepsFans_endLoad (source : LoadSource) {s : State} (hl : loading s = true) : KeepsFans s (endLoad source s) where
  law a l := by
    have q : Quiet s { s with free := s.free + 1, cfg := { s.cfg with memory := memoryAfter s.cfg.memory source } } := {}
    have d : SameDrive s { s with free := s.free + 1, cfg := { s.cfg with memory := memoryAfter s.cfg.memory source } } := {}
    dsimp only [endLoad]
    split
    · rename_i b id he
      obtain ⟨im, hi⟩ := checkSource_image he
      have hb : Tuned b.cfg := tuned_image hi
      exact fanLaw_enterRunning (airSound_loadCoast _ (airSound_cfg tuned_emptyCfg hb
        (airSound_loadDetectors (airSound_cfg hb hb (q.airSound a)))))
    · exact fanLaw_loadFallback _ hl (d.fanLaw l)

end Sys2Proof.Machine
end

section
/-! SUPPORT. Every command keeps the law of the fan channels (R62, R67, R78). -/

namespace Sys2Proof.Machine

/-! ## Requests -/

theorem keepsFans_answer (kind : Nat) (r : Result) (fields : List Byte) (s : State) :
    KeepsFans s (answer kind r fields s) := (KeepsFans.refl s).answered _ _ _

theorem keepsFans_arrive (s : State) : KeepsFans s (arrive s) := by
  refine .after (t := if s.link.resetDue = true then resetCommanded s.link.pins s else s) ?_ {}
  exact .ite (fun _ => keepsFans_resetCommanded _ s) (fun _ => .refl s)

/-- R195: a request keeps the law when its rule does. -/
theorem keepsFans_request {α : Type} {kind : Nat} {always : Bool} {r : Req α} {rule : α → State → State} {s : State}
    (h : ∀ x t, KeepsFans t (rule x t)) : KeepsFans s (request kind always r rule s) := by
  have k := keepsFans_arrive s
  refine .ite (fun _ => .refl s) (fun _ => .ite (fun _ => k.answered _ _ _) (fun _ => ?_))
  cases r with
  | misfit => exact k.answered _ _ _
  | fits x => exact .trans (keepsZones_arrive s).air k (h x _)

theorem keepsFans_broadcastIn {α : Type} {r : Req α} {rule : α → State → State} {s : State}
    (h : ∀ x t, SameDrive t (rule x t)) : KeepsFans s (broadcastIn r rule s) := by
  have k : KeepsFans s { s with link := { s.link with receiver := .hunting } } := .same {}
  refine .ite (fun _ => .refl s) (fun _ => .ite (fun _ => k) (fun _ => ?_))
  cases r with
  | misfit => exact k
  | fits x => exact k.after (h x _)

theorem keepsFans_thenFill {α : Type} {rule : α → State → State} (h : ∀ x t, KeepsFans t (rule x t)) (x : α)
    (s : State) : KeepsFans s (thenFill rule x s) := (h x s).fill

/-- A rule that one condition of the part refuses. -/
theorem keepsFans_refusable {kind : Nat} {r : Result} {c : Prop} [Decidable c] {s t : State} (h : KeepsFans s t) :
    KeepsFans s (if c then answer kind r [] s else t) := .ite (fun _ => keepsFans_answer _ _ _ s) (fun _ => h)

theorem keepsFans_unlessStoring {kind : Nat} {rule : State → State} {s : State} (h : KeepsFans s (rule s)) :
    KeepsFans s (unlessStoring kind rule s) := keepsFans_refusable h

theorem keepsFans_notInFallback {kind : Nat} {rule : State → State} {s : State} (h : KeepsFans s (rule s)) :
    KeepsFans s (notInFallback kind rule s) := keepsFans_refusable h

theorem keepsFans_inRunning {kind : Nat} {rule : State → State} {s : State} (h : KeepsFans s (rule s)) :
    KeepsFans s (inRunning kind rule s) := .ite (fun _ => h) (fun _ => keepsFans_answer _ _ _ s)

/-- A request that only reads, with one refusal. -/
theorem keepsFans_read {kind : Nat} {r q : Result} {x y : List Byte} {c : Prop} [Decidable c] (s : State) :
    KeepsFans s (if c then answer kind r x s else answer kind q y s) :=
  .ite (fun _ => keepsFans_answer _ _ _ s) (fun _ => keepsFans_answer _ _ _ s)

theorem keepsFans_openConfig (s : State) : KeepsFans s (openConfig s) := by
  refine keepsFans_refusable ?_
  split
  · exact (keepsFans_enterEditing s).answered _ _ _
  · exact (keepsFans_enterEditing s).answered _ _ _
  · exact keepsFans_answer _ _ _ s
  · exact keepsFans_answer _ _ _ s

theorem keepsFans_closeConfig (s : State) : KeepsFans s (closeConfig s) := by
  refine .ite (fun _ => ?_) (fun _ => keepsFans_answer _ _ _ s)
  split
  · exact keepsFans_answer _ _ _ s
  · exact (keepsFans_toRunning (SameInputs.airSound {})).answered _ _ _

theorem keepsFans_writeConfig (q : Req CfgWrite) (s : State) : KeepsFans s (writeConfig q s) := by
  refine .ite (fun _ => ?_) (fun _ => keepsFans_answer _ _ _ s)
  split
  · exact keepsFans_answer _ _ _ s
  · split
    · exact .answered (.same {}) _ _ _
    · exact keepsFans_answer _ _ _ s

theorem keepsFans_readConfig (q : CfgRead) (s : State) : KeepsFans s (readConfig q s) := by
  dsimp only [readConfig]
  split
  · exact keepsFans_read s
  · exact keepsFans_answer _ _ _ s
  · exact keepsFans_read s

theorem keepsFans_takeCurve (block : Nat) (outputs : List Nat) (s : State) : KeepsFans s (takeCurve block outputs s) :=
  .afterDoes (t := { s with cfg := { s.cfg with dimming := writeOutputs block outputs s.cfg.dimming, imageCurrent := false } })
    (.same {}) (Does.foldl (fun u g => rewantGroup g u) (fun u g => does_rewantGroup g u) _ _) rfl rfl

theorem keepsFans_writeCurve (q : Req (Nat × Option (List Nat))) (s : State) : KeepsFans s (writeCurve q s) := by
  refine keepsFans_unlessStoring (keepsFans_inRunning ?_)
  split
  · exact keepsFans_answer _ _ _ s
  · refine keepsFans_refusable ?_
    split
    · exact keepsFans_answer _ _ _ s
    · exact keepsFans_refusable ((keepsFans_takeCurve _ _ s).answered _ _ _)

theorem sameDrive_bindAddress (a b way : Nat) (s : State) : SameDrive s (bindAddress a b way s) := by
  obtain ⟨t, ht, -, -, h⟩ := does_bindAddress a b way s
  refine .of_cfg ?_ (by rw [bindAddress_cfg]) (by rw [bindAddress_cfg])
  rw [h.fan rfl, (does_bindBay b a t).fan rfl, ht.fan rfl]

theorem sameDrive_unbindAddress (a b way : Nat) (s : State) : SameDrive s (unbindAddress a b way s) := by
  obtain ⟨t, ht, -, h⟩ := does_unbindAddress a b way s
  refine .of_cfg ?_ (by rw [unbindAddress_cfg]) (by rw [unbindAddress_cfg])
  rw [h.fan rfl, (does_unbindBay b t).fan rfl, ht.fan rfl]

theorem keepsFans_mapChecks (a b : Nat) (s : State) : KeepsFans s (mapChecks a b s) := by
  refine keepsFans_refusable ?_
  split
  · exact keepsFans_read s
  · split
    · exact keepsFans_answer _ _ _ s
    · refine .ite (fun _ => keepsFans_answer _ _ _ s) (fun _ => ?_)
      split
      · exact keepsFans_answer _ _ _ s
      · exact (KeepsFans.same (sameDrive_bindAddress _ _ _ s)).answered _ _ _

theorem keepsFans_removeMapping (a : Addr) (s : State) : KeepsFans s (removeMapping a s) := by
  dsimp only [removeMapping]
  split
  · exact .ite (fun _ => (KeepsFans.same (sameDrive_unbindAddress _ _ _ s)).answered _ _ _)
      (fun _ => keepsFans_answer _ _ _ s)
  · exact keepsFans_answer _ _ _ s

theorem keepsFans_lookupMapping (a : Addr) (s : State) : KeepsFans s (lookupMapping a s) := by
  dsimp only [lookupMapping]
  split <;> exact keepsFans_answer _ _ _ s

theorem keepsFans_reserveRequest (b time : Nat) (s : State) : KeepsFans s (reserveRequest b time s) := by
  have h : ∀ n, KeepsFans s (reserveBay b n s) := fun n => .of_does (does_reserveBay b n s) rfl rfl
  refine keepsFans_refusable ?_
  split
  · exact (h _).answered _ _ _
  · exact (h _).answered _ _ _
  all_goals exact keepsFans_answer _ _ _ s

theorem keepsFans_releaseRequest (b : Nat) (s : State) : KeepsFans s (releaseRequest b s) :=
  keepsFans_refusable (.ite (fun _ => .answered (.of_does (does_cancelReservation b s) rfl rfl) _ _ _)
    (fun _ => keepsFans_answer _ _ _ s))

theorem keepsFans_closeRequest (b : Nat) (s : State) : KeepsFans s (closeRequest b s) := by
  have h : SameDrive s (closeBay b s) :=
    .of_cfg ((does_closeBay b s).fan rfl) (by rw [closeBay_cfg]) (by rw [closeBay_cfg])
  exact keepsFans_refusable (keepsFans_refusable (.answered (.same h) _ _ _))

theorem keepsFans_openRequest (b : Nat) (s : State) : KeepsFans s (openRequest b s) := by
  have h : SameDrive s (openBay b s) :=
    .of_cfg ((does_openBay b s).fan rfl) (by rw [openBay_cfg]) (by rw [openBay_cfg])
  exact keepsFans_refusable (.ite (fun _ => .answered (.same h) _ _ _) (fun _ => keepsFans_answer _ _ _ s))

/-- R76: a cleared fan is at rest. -/
theorem keepsFans_clearFan (n : Nat) (s : State) : KeepsFans s (clearFan n s) := by
  refine keepsFans_refusable (.ite (fun hf => .answered (.after ?_ (sameDrive_takeChannel n _ s)) _ _ _)
    (fun _ => keepsFans_answer _ _ _ s))
  have rest : ¬turns (s.fan.channels.nth n).state := by simp [hf, turns]
  refine ⟨fun a l => ⟨fun m hm => ?_, fun hl m hm => ?_⟩⟩ <;> rw [setChannel_fan, Tab.nth_put] <;> split
  · rename_i e
    obtain ⟨rfl, hn⟩ := e
    have h := l.channels m hn
    exact h.rests (by simp [turns]) (h.driven_none rest) rfl (by simp)
  · exact l.channels m hm
  · simp [turns]
  · exact l.loading hl m hm

theorem keepsFans_levelCountsRule (q : Req (List (Nat × Nat))) (s : State) : KeepsFans s (levelCountsRule q s) := by
  refine keepsFans_inRunning ?_
  split
  · exact keepsFans_answer _ _ _ s
  · refine keepsFans_refusable ?_
    exact .ite (fun _ => .answered (.of_does (does_writeLevels _ s) rfl rfl) _ _ _) (fun _ => keepsFans_answer _ _ _ s)

theorem sameDrive_levelCountsBroadcast (items : List (Nat × Nat)) (s : State) :
    SameDrive s (levelCountsBroadcast items s) :=
  .ite (fun _ => .of_does (does_writeLevels items s) rfl rfl) (fun _ => .refl s)

theorem keepsFans_pushRule (q : PushReq) (s : State) : KeepsFans s (pushRule q s) := by
  dsimp only [pushRule]
  split
  · exact keepsFans_answer _ _ _ s
  · exact keepsFans_refusable (keepsFans_refusable ((keepsFans_pushEntry (takeValue_le _ _)).answered _ _ _))

theorem keepsFans_popRule (s : State) : KeepsFans s (popRule s) := by
  dsimp only [popRule]
  split
  · exact keepsFans_answer _ _ _ s
  · exact (keepsFans_removeEntries _ s).answered _ _ _

theorem keepsFans_removeRule (id : Nat) (s : State) : KeepsFans s (removeRule id s) := by
  dsimp only [removeRule]
  split
  · exact keepsFans_answer _ _ _ s
  · exact .ite (fun _ => (keepsFans_removeEntries _ s).answered _ _ _) (fun _ => keepsFans_answer _ _ _ s)

/-! ## Frames and events -/

theorem keepsFans_deliver {a : Addr} {effect : State → State} {s : State} (d : Does busBlocks s (effect s)) :
    KeepsFans s (deliver a effect s) := .ite (fun _ => .fill (.of_does d rfl rfl)) (fun _ => .refl s)

theorem keepsFans_endAttempt {effect : Nat → Slot → State → State} (h : ∀ i x s, SameDrive s (effect i x s))
    (s : State) : KeepsFans s (endAttempt effect s) := by
  dsimp only [endAttempt]
  split
  · exact .ite (fun _ => .fill (.same (h _ _ s))) (fun _ => .refl s)
  · exact .refl s

theorem keepsFans_receiverTo (r : Receiver) (s : State) : KeepsFans s (receiverTo r s) :=
  .ite (fun _ => .refl s) (fun _ => .same {})

theorem sameDrive_endWarmup (n : Nat) (raw : BitVec 10) (s : State) : SameDrive s (endWarmup n raw s) :=
  .ite (fun _ => .ite (fun _ => .of_does (does_takeSensorState n _ s) rfl rfl)
    (fun _ => .of_does (does_setSensor s n _) rfl rfl)) (fun _ => .refl s)

/-- An event that, when it is due, keeps the law. -/
theorem keepsFans_event {c : Prop} [Decidable c] {s u : State} (h : KeepsFans s u) :
    KeepsFans s (if c then u else s) := .ite (fun _ => h) (fun _ => .refl s)

/-- The same, with the slots filled after it. -/
theorem keepsFans_eventFill {c : Prop} [Decidable c] {s u : State} (h : KeepsFans s u) :
    KeepsFans s (if c then fillSlots u else s) := keepsFans_event h.fill

/-- An event that the part does not take in one condition. -/
theorem keepsFans_unless {c : Prop} [Decidable c] {s u : State} (h : KeepsFans s u) :
    KeepsFans s (if c then s else u) := .ite (fun _ => .refl s) (fun _ => h)

/-- An event of another block, due or not. -/
theorem keepsFans_other {bs : List Block} {c : Prop} [Decidable c] {s u : State} (d : Does bs s u)
    (f : bs.contains .fan = false) (k : bs.contains .cfg = false) : KeepsFans s (if c then fillSlots u else s) :=
  keepsFans_eventFill (.of_does d f k)

/-! ## Every command -/

/-- A command that answers a next state keeps the law of the fan channels. -/
def OutKeepsFans (s : State) (o : Out) : Prop := ∀ t, o = .next t → KeepsFans s t

namespace OutKeepsFans

variable {s u : State}

theorem next (k : KeepsFans s u) : OutKeepsFans s (.next u) := fun t h => by
  rw [← Host.Outcome.next.inj h]
  exact k

theorem within {i n : Nat} (k : KeepsFans s u) : OutKeepsFans s (Machine.within i n u) := by
  unfold Machine.within
  split
  · exact next k
  · exact fun t h => absurd h (by simp)

end OutKeepsFans

theorem keepsFans_exec (i : Instr) (s : State) : OutKeepsFans s (exec i s) := by
  cases i with
  | powerOnReset straps => exact .next (keepsFans_resetPowerOn straps s)
  | commandedReset straps => exact .next (keepsFans_event (keepsFans_resetCommanded straps s))
  | loadEnd source => exact .next (.ite (fun hl => (keepsFans_endLoad source hl).fill) (fun _ => .refl s))
  | t32Tap loops keys order => exact .next (keepsFans_tapT32 loops keys order s)
  | t4Tap rdy order => exact .next (keepsFans_tapT4 rdy order s)
  | t1Tap ain order => exact .next (keepsFans_tapT1 ain order s)
  | correctionWindow => exact .next (keepsFans_event (.of_does (does_time s _) rfl rfl))
  | warmupEnd slot raw => exact .within (.same (sameDrive_endWarmup slot raw s))
  | sensorSilent slot => exact .within (keepsFans_event (.of_does (does_takeSensorState slot _ s) rfl rfl))
  | doseRingAdvance zone => exact .within (keepsFans_event (.of_does (does_setZoneAir s zone _) rfl rfl))
  | creditDecay zone => exact .within (keepsFans_event (.of_does (does_setZoneAir s zone _) rfl rfl))
  | alarmHoldEnd zone => exact .within (keepsFans_event (.of_does (does_setZoneAir s zone _) rfl rfl))
  | bayState a d x => exact .next (keepsFans_deliver (does_takeBayState a d x s))
  | gasValue a g => exact .next (keepsFans_deliver (does_takeGasValue a g s))
  | pedPresence a p => exact .next (keepsFans_deliver (does_takePed a p s))
  | lumState a x => exact .next (keepsFans_deliver (does_takeLumState a x s))
  | signState a x => exact .next (keepsFans_deliver (does_takeSignState a x s))
  | announce a type => exact .next (keepsFans_deliver (does_takeAnnounce a type s))
  | fieldFrameDiscarded why =>
    cases why with
    | malformed => exact .next (keepsFans_event (.of_does (does_busOnly s _ _ _ _ _ _ _ _) rfl rfl))
    | sentKind | unknownKind | notDevice => exact .next (.refl s)
  | settleExpiry bay => exact .within (keepsFans_other (does_settleTap bay s) rfl rfl)
  | silenceScan => exact .next (keepsFans_other (does_scanTap s) rfl rfl)
  | reservationExpiry bay => exact .within (keepsFans_other (does_reservationTap bay s) rfl rfl)
  | stayLitEnd g => exact .within (keepsFans_other (does_stayTap g s) rfl rfl)
  | pathStep p => exact .within (keepsFans_other (does_pathTap p s) rfl rfl)
  | lightResend => exact .next (keepsFans_other (does_lightResendTap s) rfl rfl)
  | readyTimeout n => exact .within (keepsFans_eventFill (keepsFans_fanTap n false s))
  | readyLoss n => exact .within (keepsFans_eventFill (keepsFans_fanTap n false s))
  | coastEnd n =>
    exact .within (keepsFans_event (keepsFans_setChannel (fun _ _ => channelLaw_coastTap) fun _ => coastTap_state _))
  | loopOccupied i => exact .within (keepsFans_other (does_loopTapActive i s) rfl rfl)
  | loopRelease i => exact .within (keepsFans_unless (.fill (.of_does (does_releaseLoop i s) rfl rfl)))
  | loopStuck i => exact .within (keepsFans_other (does_occupiedTap i s) rfl rfl)
  | sequenceTimeout p => exact .within (keepsFans_event (.of_does (does_timeoutSequence p s) rfl rfl))
  | rotationAdvance => exact .next (keepsFans_other (does_rotationTap s) rfl rfl)
  | guidanceResend => exact .next (keepsFans_other (does_guideResendTap s) rfl rfl)
  | levelStale v => exact .within (keepsFans_other (does_levelTap v s) rfl rfl)
  | overrideExpiry =>
    refine .next (keepsFans_unless (.fill (keepsFans_expireMapped ?_ ?_ ?_ s))) <;> intro e <;> split <;> rfl
  | inputActive k => exact .within (keepsFans_eventFill (keepsFans_keyTapActive k s))
  | inputRelease k => exact .within (keepsFans_unless (keepsFans_keyRelease k s).fill)
  | frameOffer =>
    refine .next (keepsFans_event ?_)
    split
    · exact .of_does (does_putSlot s _ _) rfl rfl
    · exact .refl s
  | arbitrationLost => exact .next (keepsFans_endAttempt (fun i x s => .of_does (does_arbitrationLoses i x s) rfl rfl) s)
  | attemptSuccess => exact .next (keepsFans_endAttempt (fun i x s => .of_does (does_attemptSucceeds i x s) rfl rfl) s)
  | attemptFailed => exact .next (keepsFans_endAttempt (fun i x s => .of_does (does_attemptFails i x s) rfl rfl) s)
  | busOffRecovery => exact .next (keepsFans_other (does_recoverBus s) rfl rfl)
  | storePageDone =>
    refine .next ?_
    split
    · exact keepsFans_event (.same {})
    · exact .refl s
  | storeReadbackDone agrees =>
    refine .next ?_
    split
    · exact keepsFans_event (.ite (fun _ => .same {}) (fun _ => .same {}))
    · exact .refl s
  | storePageTimeout =>
    refine .next ?_
    split
    · exact keepsFans_event (.same {})
    · exact .refl s
  | frameSync | frameGapTimeout | frameCrcMismatch => exact .next (keepsFans_receiverTo _ s)
  | frameIgnored a k => exact .next (keepsFans_event (keepsFans_receiverTo _ s))
  | frameLenAbandoned len => exact .next (keepsFans_event (keepsFans_receiverTo _ s))
  | unknownKind k => exact .next (keepsFans_unless ((keepsFans_arrive s).answered _ _ _))
  | replyStart =>
    refine .next (keepsFans_unless ?_)
    split
    · exact .same {}
    · exact .refl s
  | replyEnd => exact .next (keepsFans_event (.same {}))
  | identify r | getStatus r | getClock r | listUnknown r | readLoops r | overrideList r =>
    exact .next (keepsFans_request fun _ t => keepsFans_answer _ _ _ t)
  | reset r | clearUnknown r | fetchNotices r | noticeClasses r => exact .next (keepsFans_request fun _ t => .same {})
  | curveRead r | mapReadSet r | readBays r | readSensor r | readFan r | readGroup r | readSign r =>
    exact .next (keepsFans_request fun _ t => keepsFans_read t)
  | setClock broadcast r =>
    exact .next (.ite (fun _ => keepsFans_broadcastIn fun _ t => {}) (fun _ => keepsFans_request fun _ t => .same {}))
  | configOpen r => exact .next (keepsFans_request (keepsFans_thenFill fun _ t => keepsFans_openConfig t))
  | configWrite r => exact .next (keepsFans_request keepsFans_writeConfig)
  | configRead r => exact .next (keepsFans_request keepsFans_readConfig)
  | configClose r => exact .next (keepsFans_request (keepsFans_thenFill fun _ t => keepsFans_closeConfig t))
  | configStore r =>
    exact .next (keepsFans_request fun id t => keepsFans_unlessStoring (keepsFans_inRunning (.answered (.same {}) _ _ _)))
  | curveWrite r => exact .next (keepsFans_request (keepsFans_thenFill keepsFans_writeCurve))
  | mapWrite r =>
    exact .next (keepsFans_request (keepsFans_thenFill fun x t =>
      keepsFans_unlessStoring (keepsFans_notInFallback (keepsFans_mapChecks x.1 x.2 t))))
  | mapRemove r =>
    exact .next (keepsFans_request (keepsFans_thenFill fun a t =>
      keepsFans_unlessStoring (keepsFans_notInFallback (keepsFans_removeMapping a t))))
  | mapLookup r => exact .next (keepsFans_request keepsFans_lookupMapping)
  | readZone r =>
    exact .next (keepsFans_request fun z t => keepsFans_refusable (keepsFans_inRunning (keepsFans_answer _ _ _ t)))
  | bayReserve r =>
    exact .next (keepsFans_request (keepsFans_thenFill fun x t =>
      keepsFans_inRunning (keepsFans_reserveRequest x.1 x.2 t)))
  | bayRelease r =>
    exact .next (keepsFans_request (keepsFans_thenFill fun b t => keepsFans_inRunning (keepsFans_releaseRequest b t)))
  | bayClose r =>
    exact .next (keepsFans_request (keepsFans_thenFill fun b t =>
      keepsFans_unlessStoring (keepsFans_inRunning (keepsFans_closeRequest b t))))
  | bayOpen r =>
    exact .next (keepsFans_request (keepsFans_thenFill fun b t =>
      keepsFans_unlessStoring (keepsFans_inRunning (keepsFans_openRequest b t))))
  | fanClear r => exact .next (keepsFans_request (keepsFans_thenFill keepsFans_clearFan))
  | levelCounts broadcast r =>
    exact .next (.ite (fun _ => keepsFans_broadcastIn fun x t => (sameDrive_levelCountsBroadcast x t).trans
        (.of_does (does_fillSlots _) rfl rfl))
      (fun _ => keepsFans_request (keepsFans_thenFill keepsFans_levelCountsRule)))
  | overridePush r => exact .next (keepsFans_request (keepsFans_thenFill keepsFans_pushRule))
  | overridePop r => exact .next (keepsFans_request (keepsFans_thenFill fun _ t => keepsFans_popRule t))
  | overrideRemove r => exact .next (keepsFans_request (keepsFans_thenFill keepsFans_removeRule))
  | pwmPeriodStart => exact .next (.of_each (fun _ _ => channelLaw_takeReference) takeReference_state s)

/-- Every step keeps the law of the fan channels. -/
theorem keepsFans_step {s t : State} (h : step s = .next t) : KeepsFans s t := by
  unfold step at h
  split at h
  · rw [← Host.Outcome.next.inj h]
    exact .same {}
  · rename_i c rest _
    exact .trans (t := { s with pending := rest }) (SameInputs.airSound {}) (.same {}) (keepsFans_exec c _ t h)

/-- Settles O51: every command keeps the law of the channels, with the ranges of demands, forces and tuning values kept on
the way: the state step by its lines, the entry to RUNNING and the resets afresh, all else by what it leaves. -/
theorem fanReferencesKeepTheirLaw : Obligations.FanReferencesKeepTheirLaw :=
  fun _ _ hc hs ha hf h => (keepsFans_step h).law ⟨hc, hs.values, ha⟩ hf

end Sys2Proof.Machine
end

section
/-! SUPPORT. The T4 tap of the fan drive (R63, R66, R67, R81): every channel's step reads values that the rest of the tap
leaves. -/

namespace Sys2Proof.Machine

/-! ## The step of one channel at a tap -/

/-- What the state step of a channel takes from the tap and leaves. -/
def Channel.given (x : Channel) : FanAim × Bool := (x.aim, x.forcedBelow)

theorem supervised_given {p : Params} {rest : Channel → Channel} (h : ∀ y, (rest y).given = y.given) (x : Channel) :
    (supervised p rest x).given = x.given := by
  unfold supervised
  split
  · exact h _
  · split
    · rfl
    · exact h _

/-- R67: the state step leaves the values of the tap and the forced-below mark. -/
theorem stepChannel_given (p : Params) (x : Channel) : (stepChannel p x).given = x.given := by
  unfold stepChannel
  split
  case h_1 =>
    unfold stepStopped
    split
    · split <;> rfl
    · rfl
  case h_2 =>
    unfold stepDwell
    split
    · split <;> rfl
    · rfl
  case h_3 =>
    unfold stepStarting
    split_ifs <;> rfl
  case h_4 =>
    refine supervised_given (fun y => ?_) x
    unfold stepRunning
    split <;> rfl
  case h_5 =>
    refine supervised_given (fun y => ?_) x
    unfold stepStopping
    split_ifs <;> rfl
  case h_6 => rfl

/-- R66, R67: channel `n` after its T4 tap with its RDY input as found. -/
def tapped (n : Nat) (rdy : Bool) (s : State) : Channel :=
  let x := { s.fan.channels.nth n with rdy := rdy }
  if fanDriven s n then stepChannel (params s) { x with aim := channelAim s n } else x

theorem tapped_forcedBelow (n : Nat) (rdy : Bool) (s : State) :
    (tapped n rdy s).forcedBelow = (s.fan.channels.nth n).forcedBelow := by
  unfold tapped
  split
  · exact congrArg Prod.snd (stepChannel_given _ _)
  · rfl

theorem tapped_aim {n : Nat} {s : State} (h : fanDriven s n = true) (rdy : Bool) :
    (tapped n rdy s).aim = channelAim s n := by
  rw [tapped, if_pos h]
  exact congrArg Prod.fst (stepChannel_given _ _)

theorem fanTap_channels (n : Nat) (rdy : Bool) (s : State) :
    (fanTap n rdy s).fan.channels = s.fan.channels.put n (tapped n rdy s) := by
  unfold fanTap tapped
  split
  · exact takeChannel_channels _ _ _
  · rfl

/-! ## What the step of a channel reads -/

/-- R63 to R66: what the T4 tap of a channel reads beside its RDY input. -/
structure TapInput where
  cfg : ConfigUnit
  demand : Nat → Nat
  profile : Nat
  channel : Channel

/-- What the T4 tap of channel `n` reads. -/
def tapInput (n : Nat) (s : State) : TapInput :=
  ⟨s.cfg, fun z => (s.air.zones.nth z).demand, s.fan.profile, s.fan.channels.nth n⟩

theorem tapInput_of {n : Nat} {s t : State} (hc : t.cfg = s.cfg)
    (hd : ∀ z, (t.air.zones.nth z).demand = (s.air.zones.nth z).demand) (hp : t.fan.profile = s.fan.profile)
    (hx : t.fan.channels.nth n = s.fan.channels.nth n) : tapInput n t = tapInput n s := by
  rw [tapInput, tapInput, hc, hp, hx, funext hd]

theorem tapInput_of_does {bs : List Block} {n : Nat} {s t : State} (h : Does bs s t) (c : bs.contains .cfg = false)
    (a : bs.contains .air = false) (f : bs.contains .fan = false) : tapInput n t = tapInput n s :=
  tapInput_of (h.cfg c) (fun z => by rw [h.air a]) (by rw [h.fan f]) (by rw [h.fan f])

theorem channelAim_congr {n : Nat} {s t : State} (h : tapInput n t = tapInput n s) :
    channelAim t n = channelAim s n := by
  obtain ⟨hc, hd, hp, hx⟩ := TapInput.mk.inj h
  have hd' := fun z => congrFun hd z
  unfold channelAim computedTarget running params
  rw [hc, hp, hx]
  simp only [hd']

theorem tapped_congr {n : Nat} {s t : State} (h : tapInput n t = tapInput n s) (rdy : Bool) :
    tapped n rdy t = tapped n rdy s := by
  obtain ⟨hc, -, -, hx⟩ := TapInput.mk.inj h
  unfold tapped fanDriven params
  rw [channelAim_congr h, hx, hc]

/-! ## What the rest of the tap leaves -/

theorem formVentLost_profile (z : Nat) (s : State) : (formVentLost z s).fan.profile = s.fan.profile := by
  rcases formVentLost_cases z s with ⟨e, -⟩ | e <;> rw [e]
  rw [(does_guideZone z _).fan rfl, (does_post _ _).fan rfl]
  rfl

theorem takeChannel_profile (n : Nat) (x : Channel) (s : State) : (takeChannel n x s).fan.profile = s.fan.profile := by
  dsimp only [takeChannel]
  split
  · rfl
  · split
    · rw [formVentLost_profile]
      rfl
    · rfl

theorem fanTap_profile (n : Nat) (rdy : Bool) (s : State) : (fanTap n rdy s).fan.profile = s.fan.profile := by
  unfold fanTap
  split
  · exact takeChannel_profile _ _ _
  · rfl

/-- R67: the step of another channel leaves what the step of channel `n` reads. -/
theorem tapInput_fanTap {n m : Nat} (h : m ≠ n) (rdy : Bool) (s : State) : tapInput n (fanTap m rdy s) = tapInput n s := by
  have hd := does_fanTap m rdy s
  refine tapInput_of (hd.cfg rfl) (fun z => by rw [hd.air rfl]) (fanTap_profile m rdy s) ?_
  rw [fanTap_channels, Tab.nth_put_ne _ _ h.symm]

theorem credit_demand (z w y : Nat) (s : State) :
    ((credit z w s).air.zones.nth y).demand = (s.air.zones.nth y).demand := by
  dsimp only [credit]
  split
  · rw [setZoneAir_air, Tab.nth_put]
    split
    · rename_i e
      rw [e.1]
    · rfl
  · rfl

/-- R42: the settle of a bay brings a credit, which no demand looks at. -/
theorem tapInput_settleTap (n b : Nat) (s : State) : tapInput n (settleTap b s) = tapInput n s := by
  have settled : ∀ d, tapInput n (settleBay b d s) = tapInput n s := fun d => by
    have after := fun t : State => ((does_lightSensed b t).mono (bs := [.light, .guide, .slots]) rfl).trans
      ((does_guideSensed b _).mono rfl)
    refine (tapInput_of_does (after _) rfl rfl rfl).trans (.trans ?_ (tapInput_of_does (does_takeSensed b d s) rfl rfl rfl))
    have hc := fun z w => does_credit z w (takeSensed b d s)
    exact tapInput_of ((hc _ _).cfg rfl) (fun z => credit_demand _ _ z _) (by rw [(hc _ _).fan rfl])
      (by rw [(hc _ _).fan rfl])
  dsimp only [settleTap]
  split
  · split
    · exact settled _
    · exact tapInput_of_does (does_setBay s b _) rfl rfl rfl
  · rfl

/-- R174: the other parts of a T4 tap leave what the step of a channel reads. -/
theorem tapInput_runT4 (rdy : BitVec 12) {q : T4Part} (h : q ≠ .fans) (n : Nat) (s : State) :
    tapInput n (runT4 rdy s q) = tapInput n s := by
  dsimp only [runT4]
  split
  · rfl
  · cases q with
    | fans => exact absurd rfl h
    | bus => exact tapInput_of_does (does_busT4 s) rfl rfl rfl
    | bays =>
      dsimp only [bayT4]
      split
      · exact foldl_keeps fun _ b _ _ => tapInput_settleTap n b _
      · rfl

/-! ## The channels after a T4 tap -/

/-- R81: the forced-below test sets the mark alone. -/
theorem testBelow_channel (m n : Nat) (c : Bool) (s : State) :
    { (testBelow m s).fan.channels.nth n with forcedBelow := c } = { s.fan.channels.nth n with forcedBelow := c } := by
  have h : ∀ b, { (setChannel m { s.fan.channels.nth m with forcedBelow := b } s).fan.channels.nth n with
      forcedBelow := c } = { s.fan.channels.nth n with forcedBelow := c } := fun b => by
    rw [setChannel_fan, Tab.nth_put]
    split
    · rename_i e
      rw [e.1]
    · rfl
  dsimp only [testBelow]
  split
  · rw [(does_post _ _).fan rfl]
    exact h _
  · exact h _

theorem fansT4_channel {n : Nat} (hn : n < 12) (rdy : BitVec 12) (c : Bool) (s : State) :
    { (fansT4 rdy s).fan.channels.nth n with forcedBelow := c } =
      { tapped n (rdy.getLsbD n) s with forcedBelow := c } := by
  obtain ⟨l₁, -, -, hv, hf⟩ := foldl_once (f := fun u m => fanTap m (rdy.getLsbD m) u) (π := tapInput n) (s := s)
    List.nodup_range (List.mem_range.mpr hn) fun _ q _ _ hq => tapInput_fanTap hq _ _
  have stepped : ((List.range 12).foldl (fun u m => fanTap m (rdy.getLsbD m) u) s).fan.channels.nth n =
      tapped n (rdy.getLsbD n) s := by
    refine (congrArg TapInput.channel hf).trans ?_
    change (fanTap n _ _).fan.channels.nth n = _
    rw [fanTap_channels, Tab.nth_put_self _ _ hn, tapped_congr hv]
  rw [← stepped]
  dsimp only [fansT4]
  split
  · exact foldl_keeps (f := fun u m => testBelow m u)
      (π := fun t : State => ({ t.fan.channels.nth n with forcedBelow := c } : Channel)) fun _ m _ _ => testBelow_channel m n c _
  · rfl

/-- Every part of a T4 tap takes its turn, whatever order is given. -/
theorem mem_t4Order (given : List T4Part) (p : T4Part) : p ∈ orderOf given t4Default := by
  rw [orderOf, List.mem_eraseDups, List.mem_append]
  right
  cases p <;> decide

/-- R67: every channel after a T4 tap but for its forced-below mark, whatever the order of its parts. -/
theorem tapT4_channel (rdy : BitVec 12) (order : List T4Part) {s : State} (hl : loading s = false) {n : Nat} (hn : n < 12)
    (c : Bool) : { (tapT4 rdy order s).fan.channels.nth n with forcedBelow := c } =
      { tapped n (rdy.getLsbD n) s with forcedBelow := c } := by
  obtain ⟨l₁, -, -, hv, hf⟩ := foldl_once (f := runT4 rdy) (π := tapInput n) (s := s)
    (nodup_orderOf order t4Default) (mem_t4Order order .fans) fun _ q _ _ hq => tapInput_runT4 rdy hq n _
  have hu : loading (l₁.foldl (runT4 rdy) s) = false := by
    exact (congrArg (fun v : TapInput => v.cfg.state == .loading) hv).trans hl
  have he : runT4 rdy (l₁.foldl (runT4 rdy) s) .fans = fansT4 rdy (l₁.foldl (runT4 rdy) s) := if_neg (by simp [hu])
  have hx := congrArg TapInput.channel hf
  rw [he] at hx
  rw [tapT4, (does_fillSlots _).fan rfl, ← tapped_congr hv, ← fansT4_channel hn]
  exact congrArg (fun x : Channel => { x with forcedBelow := c }) hx

/-- Settles O8: the other parts and channels leave what a channel's step reads, and the tests after it set marks alone. -/
theorem t4TapStepsEveryDrivenFan : Obligations.T4TapStepsEveryDrivenFan := by
  refine fun rdy order s hl => ⟨_, rfl, (does_tapT4 rdy order s).frame, fun n hn => ?_⟩
  exact (tapT4_channel rdy order hl hn _).trans (congrArg
    (fun b => ({ tapped n (rdy.getLsbD n) s with forcedBelow := b } : Channel)) (tapped_forcedBelow n _ s).symm)

/-- Settles O9: the values of the tap are `channelAim`'s, whose assist demand is the largest of its zones. -/
theorem computedTargetComesFromTheDemands : Obligations.ComputedTargetComesFromTheDemands := by
  intro rdy order s n hr hn hp
  have hs : s.cfg.state = .running := by simpa [running] using hr
  have hd : fanDriven s n = true := by rw [fanDriven, hs]; exact hp
  have aim : ((tapT4 rdy order s).fan.channels.nth n).aim.computed = computedTarget s (s.cfg.inForce.fans.nth n) := by
    have h := congrArg Channel.aim (tapT4_channel rdy order (not_loading_of_fanDriven hd) hn false)
    refine (congrArg FanAim.computed (h.trans (tapped_aim hd _))).trans ?_
    rw [channelAim, if_pos hr]
    rfl
  obtain ⟨hle, hmem⟩ := assistDemand_spec s (s.cfg.inForce.fans.nth n)
  refine ⟨_, rfl, ⟨_, hle, hmem, aim.trans (computedTarget_eq s _)⟩, fun hc ha => ?_⟩
  exact aim.trans_le (computedTarget_le ha (hc.inForce.weights n hn))

end Sys2Proof.Machine
end

section
/-! SUPPORT. The events of the fan drive (R70, R73 to R75, R78): a ready count runs out, a coast ends, a PWM period begins. -/

namespace Sys2Proof.Machine

/-! ## The notices of a channel (R77, R79) -/

/-- R79: forming VENT_LOST again announces VENT_LOST and guidance statuses only. -/
theorem announced_formVentLost {s t : State} {n : Notice} (h : announced s t n)
    (hv : ∀ z v, sameNotice n (.ventLost z v) = false) (hg : ∀ z st, sameNotice n (.zoneGuidance z st) = false)
    (z : Nat) : announced s (formVentLost z t) n := by
  have hp : announced s (putVentLost z t) n := h
  rcases formVentLost_cases z t with ⟨e, -⟩ | e <;> rw [e]
  · exact h
  · exact (hp.post_other (hv z _)).guideArrival hg _ _

/-- R77: a channel's changed state is announced. -/
theorem takeChannel_announced {n : Nat} {x : Channel} {s : State} (h : (s.fan.channels.nth n).state ≠ x.state) :
    announced s (takeChannel n x s) (.fanState n x.state x.reason) := by
  have posted : announced s (post (fanNotice n x) (setChannel n x s)) (fanNotice n x) :=
    (does_setChannel s n x).announced_post _ rfl rfl
  dsimp only [takeChannel]
  rw [if_neg h]
  split
  · exact announced_formVentLost posted (fun _ _ => rfl) (fun _ _ => rfl) _
  · exact posted

/-! ## A ready count that runs out (R70, R73, R74) -/

/-- What a channel's step sees at a tap that finds its ready input inactive. -/
def unready (s : State) (n : Nat) : Channel := { s.fan.channels.nth n with rdy := false, aim := channelAim s n }

theorem unreadyStep_starting {s : State} {n : Nat} (hs : (s.fan.channels.nth n).state = .starting)
    (hc : (channelAim s n).call ≠ .stop)
    (hw : (channelAim s n).wanted = none ∨ (channelAim s n).wanted = (s.fan.channels.nth n).driven)
    (hr : (params s).readyTimeout ≤ (s.fan.channels.nth n).ready + 1) :
    unreadyStep s n = enterFault (params s) .noReady (unready s n) := by
  have stays : ¬(unready s n).turnsAway := by
    rintro (h | ⟨w, h, hd⟩)
    · exact hc h
    · exact hw.elim (fun e => by simp [unready, e] at h) (fun e => hd (e.symm.trans h))
  have step : unreadyStep s n = stepStarting (params s) (unready s n) := by
    rw [unreadyStep, stepChannel, hs]
    rfl
  exact step.trans ((stepStarting_on stays).trans ((if_neg Bool.false_ne_true).trans (if_pos hr)))

theorem unreadyStep_turning {s : State} {n : Nat}
    (hs : (s.fan.channels.nth n).state = .running ∨ (s.fan.channels.nth n).state = .stopping)
    (hr : (params s).readyLoss ≤ (s.fan.channels.nth n).ready + 1) :
    unreadyStep s n = enterFault (params s) .readyLost (unready s n) := by
  have lost := fun rest => supervised_lost (rest := rest) (x := unready s n) rfl hr
  rw [unreadyStep, stepChannel]
  rcases hs with hs | hs <;> rw [hs] <;> exact lost _

theorem faultDue_of {s : State} {n : Nat} {l : List FanState} {why : FanFault} (hd : fanDriven s n = true)
    (hl : (s.fan.channels.nth n).state ∈ l) (h : unreadyStep s n = enterFault (params s) why (unready s n)) :
    faultDue s n l = true := by
  rw [faultDue, hd, h]
  simpa [enterFault] using hl

/-- R74, R75, R77: a channel enters FAULT at the tap that finds its ready input inactive. -/
theorem fanTap_faults {s : State} {n : Nat} {why : FanFault} (hn : n < 12) (hd : fanDriven s n = true)
    (ht : (s.fan.channels.nth n).state ≠ .fault) (h : unreadyStep s n = enterFault (params s) why (unready s n)) :
    let t := fillSlots (fanTap n false s)
    changesOnly [.fan, .light, .guide, .slots, .notices] s t ∧
      t.fan.channels.nth n = enterFault (params s) why (unready s n) ∧
      (∀ m, m ≠ n → t.fan.channels.nth m = s.fan.channels.nth m) ∧ announced s t (.fanState n .fault (some why)) := by
  have ht' : (s.fan.channels.nth n).state ≠ (enterFault (params s) why (unready s n)).state := ht
  have step : fanTap n false s = takeChannel n (enterFault (params s) why (unready s n)) s := by
    rw [← h]
    exact if_pos hd
  have chan : (fillSlots (fanTap n false s)).fan.channels =
      s.fan.channels.put n (enterFault (params s) why (unready s n)) := by
    rw [(does_fillSlots _).fan rfl, step, takeChannel_channels]
  have frame : Does [.fan, .light, .guide, .slots, .notices] s (fillSlots (fanTap n false s)) :=
    ((does_fanTap n false s).mono rfl).trans ((does_fillSlots _).mono rfl)
  dsimp only
  refine ⟨frame.frame, ?_, fun m hm => ?_, ?_⟩
  · rw [chan, Tab.nth_put_self _ _ hn]
  · rw [chan, Tab.nth_put_ne _ _ hm]
  · rw [step]
    exact (takeChannel_announced ht').kept (does_fillSlots _) rfl

/-- R75: the coast of a channel at rest runs down. -/
theorem coastTap_rests {x : Channel} (h : ¬turns x.state) : coastTap x = { x with coast := x.coast - 1 } := by
  unfold coastTap
  cases hs : x.state <;> simp_all [turns]

/-- Settles O29: the ready counts end in `enterFault`, the coast in its last decrement, and the PWM period takes the
reference into the output of the direction. -/
theorem fanEventsFaultCoastAndDrive : Obligations.FanEventsFaultCoastAndDrive := by
  intro s
  refine ⟨fun n hn hd => ⟨fun hs hc hw hr => ?_, fun hs hr => ?_⟩, fun n hn hl ht hc => ?_, ?_⟩
  · have e := unreadyStep_starting hs hc hw hr
    obtain ⟨frame, chan, others, told⟩ := fanTap_faults hn hd (by simp [hs]) e
    have due := faultDue_of (l := [.starting]) hd (by simp [hs]) e
    refine ⟨_, (within_of_lt hn _).trans (congrArg _ (if_pos due)), frame, ?_, others, told⟩
    rw [chan]
    exact ⟨rfl, rfl, rfl, rfl, rfl, rfl, rfl⟩
  · have e := unreadyStep_turning hs hr
    obtain ⟨frame, chan, others, told⟩ := fanTap_faults hn hd (by rcases hs with hs | hs <;> simp [hs]) e
    have due := faultDue_of (l := [.running, .stopping]) hd (by rcases hs with hs | hs <;> simp [hs]) e
    refine ⟨_, (within_of_lt hn _).trans (congrArg _ (if_pos due)), frame, ?_, others, told⟩
    rw [chan]
    exact ⟨rfl, rfl, rfl, rfl, rfl, rfl, rfl⟩
  · refine (within_of_lt hn _).trans (congrArg _ ((if_pos ⟨hl, hc⟩).trans ?_))
    rw [coastTap_rests ht, hc]
    rfl
  · refine ⟨_, rfl, (does_fan s _).frame, rfl, rfl, fun n hn => ?_⟩
    exact (Tab.nth_each _ _ hn).trans (takeReference_eq _)

end Sys2Proof.Machine
end

section
/-! SUPPORT. FAN_CLEAR and the requests on the override stack (R76, R141 to R144): the lowest free id, the entry that a
removal takes, and what the announcement leaves of the stack. -/

namespace Sys2Proof.Machine

/-! ## Ids (R141) -/

/-- R141: fewer than 255 entries leave an id free. -/
theorem exists_freeId {stack : List Entry} (h : stack.length < 255) : ∃ i ∈ span 1 256, ∀ e ∈ stack, e.id ≠ i := by
  by_contra hno
  push Not at hno
  have hsub : span 1 256 ⊆ stack.map (·.id) := fun i hi => List.mem_map.mpr (hno i hi)
  have hnodup : (span 1 256).Nodup := List.nodup_range.map (add_left_injective 1)
  have hle := (List.subperm_of_subset hnodup hsub).length_le
  rw [List.length_map, span_length 1 255] at hle
  omega

/-- R141: the id of a new entry is free, within 1..255, and the lowest such. -/
theorem lowestFreeId_spec {stack : List Entry} (h : stack.length < 255) :
    1 ≤ lowestFreeId stack ∧ lowestFreeId stack ≤ 255 ∧ (∀ e ∈ stack, e.id ≠ lowestFreeId stack) ∧
      ∀ i, 1 ≤ i → i < lowestFreeId stack → ∃ e ∈ stack, e.id = i := by
  obtain ⟨i, hi, hfree⟩ := exists_freeId h
  have hsome : ((span 1 256).find? fun i => !stack.any fun e => e.id == i).isSome = true :=
    List.find?_isSome.mpr ⟨i, hi, by simpa using hfree⟩
  obtain ⟨id, hid⟩ := Option.isSome_iff_exists.mp hsome
  have hlow : lowestFreeId stack = id := by rw [lowestFreeId, hid, Option.getD_some]
  rw [span, List.find?_map, Option.map_eq_some_iff] at hid
  obtain ⟨k, hk, rfl⟩ := hid
  obtain ⟨hp, hm, hless⟩ := List.find?_range_eq_some.mp hk
  have hk255 := List.mem_range.mp hm
  rw [hlow]
  refine ⟨by omega, by omega, by simpa using hp, fun j h1 hj => ?_⟩
  have hj' := hless (j - 1) (by omega)
  simpa [Nat.sub_add_cancel h1] using hj'

/-! ## The entry that a removal takes (R143, R144) -/

section Removal

variable {below above : List Entry} {e : Entry}

theorem topLink_none {stack : List Entry} (h : ∀ e ∈ stack, e.source ≠ .link) : topLink stack = none := by
  rw [topLink, topmost, List.filter_eq_nil_iff.mpr (by simpa using h)]
  rfl

theorem topLink_middle (he : e.source = .link) (h : ∀ x ∈ above, x.source ≠ .link) :
    topLink (below ++ e :: above) = some e := by
  have hnone : above.filter (fun x => x.source == .link) = [] := List.filter_eq_nil_iff.mpr (by simpa using h)
  rw [topLink, topmost, List.filter_append, List.filter_cons_of_pos (by simp [he]), hnone, List.getLast?_concat]

/-- R141: the ids are distinct, so that an id names one entry. -/
theorem find_id {stack : List Entry} (hd : (stack.map (·.id)).Nodup) (he : e ∈ stack) :
    stack.find? (fun x => x.id == e.id) = some e := by
  have hsome : (stack.find? fun x => x.id == e.id).isSome = true := List.find?_isSome.mpr ⟨e, he, by simp⟩
  obtain ⟨x, hx⟩ := Option.isSome_iff_exists.mp hsome
  have hid : x.id = e.id := by simpa using List.find?_some hx
  rw [hx, List.inj_on_of_nodup_map hd (List.mem_of_find?_eq_some hx) he hid]

theorem filter_id (hd : ((below ++ e :: above).map (·.id)).Nodup) :
    (below ++ e :: above).filter (fun x => !(x.id == e.id)) = below ++ above := by
  rw [List.map_append, List.map_cons, List.nodup_middle, List.nodup_cons, ← List.map_append] at hd
  have hother : ∀ x ∈ below ++ above, (!(x.id == e.id)) = true := fun x hx => by
    have hne : x.id ≠ e.id := fun h => hd.1 (List.mem_map.mpr ⟨x, hx, h⟩)
    simpa using hne
  rw [List.filter_append, List.filter_cons_of_neg (by simp), ← List.filter_append, List.filter_eq_self.mpr hother]

end Removal

/-! ## What an announcement leaves of the stack and the inputs (R147, R151) -/

/-- R147, R152: of the override unit an announcement touches the sounder alone. -/
theorem announceStack_ovr (s : State) :
    (announceStack s).ovr.stack = s.ovr.stack ∧ (announceStack s).ovr.keys = s.ovr.keys := by
  have h : Does [.air, .fan, .light, .guide, .slots, .notices] s (guideStack (lightStack (airStack (fanStack s)))) :=
    (((does_fanStack s).mono rfl).trans ((does_airStack _).mono rfl)).trans
      (((does_lightStack _).mono rfl).trans ((does_guideStack _).mono rfl))
  rw [announceStack, formSounder_ovr, h.ovr rfl]
  exact ⟨rfl, rfl⟩

theorem pushEntry_ovr (e : Entry) (s : State) :
    (pushEntry e s).ovr.stack = s.ovr.stack ++ [e] ∧ (pushEntry e s).ovr.keys = s.ovr.keys := announceStack_ovr _

theorem pendingPush_calm {k : Nat} {s : State} (h : (s.ovr.keys.nth k).state ≠ .pending) : pendingPush k s = s :=
  if_neg fun hp => h hp.1

/-- R151: without a PENDING input a removal takes its entries, and nothing pushes into the room. -/
theorem removeEntries_stack {p : Entry → Bool} {s : State} (h : ∀ k, k < 2 → (s.ovr.keys.nth k).state ≠ .pending) :
    (removeEntries p s).ovr.stack = s.ovr.stack.filter fun e => !p e := by
  obtain ⟨hstack, hkeys⟩ := announceStack_ovr (setStack (s.ovr.stack.filter fun e => !p e) s)
  have calm : ∀ k, k < 2 →
      ((announceStack (setStack (s.ovr.stack.filter fun e => !p e) s)).ovr.keys.nth k).state ≠ .pending := fun k hk => by
    rw [hkeys]
    exact h k hk
  rw [removeEntries, pendingPushes, pendingPush_calm (calm 0 (by omega)), pendingPush_calm (calm 1 (by omega)), hstack]
  rfl

/-! ## The rules of the requests, case by case -/

/-- R76: a faulted channel comes to STOPPED. -/
def Channel.cleared (x : Channel) : Channel := { x with state := .stopped, reason := none, reference := 0 }

theorem clearFan_faulted {n : Nat} {s : State} (hn : n < 12) (h : (s.fan.channels.nth n).state = .fault) :
    clearFan n s = answer 0x44 .ok [] (takeChannel n (s.fan.channels.nth n).cleared s) :=
  (if_neg (by omega)).trans (if_pos h)

section Rules

variable {s : State} {q : PushReq} {k : OverrideKind} {e : Entry}

theorem pushRule_badIndex (h : ∀ k, overrideKindOf q.kind = some k → emptyScope k q.scope = true) :
    pushRule q s = answer 0x50 .badIndex [] s := by
  unfold pushRule
  split
  · rfl
  · rename_i k hk
    exact if_pos (h k hk)

theorem pushRule_full (hk : overrideKindOf q.kind = some k) (he : emptyScope k q.scope = false)
    (h : 8 ≤ s.ovr.stack.length) : pushRule q s = answer 0x50 .full [] s := by
  simp only [pushRule, hk, he]
  exact if_pos h

theorem pushRule_pushes (hk : overrideKindOf q.kind = some k) (he : emptyScope k q.scope = false)
    (h : s.ovr.stack.length < 8) :
    pushRule q s = answer 0x50 .ok (entryBytes (linkEntry s k q)) (pushEntry (linkEntry s k q) s) := by
  simp only [pushRule, hk, he]
  exact if_neg (Nat.not_le.mpr h)

theorem popRule_notFound (h : topLink s.ovr.stack = none) : popRule s = answer 0x51 .notFound [] s := by
  rw [popRule, h]

theorem popRule_takes (h : topLink s.ovr.stack = some e) :
    popRule s = answer 0x51 .ok (entryBytes e) (removeEntries (fun x => x.id == e.id) s) := by rw [popRule, h]

theorem removeRule_notFound {id : Nat} (h : ∀ e ∈ s.ovr.stack, e.id ≠ id) :
    removeRule id s = answer 0x52 .notFound [] s := by
  have hf : s.ovr.stack.find? (fun e => e.id == id) = none := List.find?_eq_none.mpr (by simpa using h)
  rw [removeRule, hf]

theorem removeRule_badState (hf : s.ovr.stack.find? (fun x => x.id == e.id) = some e) (h : e.source ≠ .link) :
    removeRule e.id s = answer 0x52 .badState [] s := by
  rw [removeRule, hf]
  exact if_neg h

theorem removeRule_takes (hf : s.ovr.stack.find? (fun x => x.id == e.id) = some e) (h : e.source = .link) :
    removeRule e.id s = answer 0x52 .ok (entryBytes e) (removeEntries (fun x => x.id == e.id) s) := by
  rw [removeRule, hf]
  exact if_pos h

end Rules

/-- R143, R144: the entry `e` is taken out of the stack, given back and announced. -/
theorem finished_removal {s : State} {below above : List Entry} {e : Entry} (kind : Nat)
    (calm : ∀ k, k < 2 → (s.ovr.keys.nth k).state ≠ .pending) (hd : StackLaw s.ovr.stack)
    (hs : s.ovr.stack = below ++ e :: above) :
    let t := finished kind .ok (entryBytes e) (removeEntries (fun x => x.id == e.id) (received s))
    changesOnly [.ovr, .air, .fan, .light, .guide, .slots, .notices, .link] s t ∧
      answers s t kind .ok (entryBytes e) ∧ t.ovr.stack = below ++ above := by
  have frame := does_removeEntries (fun x => x.id == e.id) (received s)
  have distinct := hd.distinct
  rw [hs] at distinct
  refine ⟨(finished_frame frame).mono rfl, answers_finished frame rfl, ?_⟩
  rw [(does_finished _ _ _ _).ovr rfl, removeEntries_stack (s := received s) calm, received_ovr, hs, filter_id distinct]

/-- Settles O45: the rule of each request by its cases; the refusals answer alone, the others change the channel or the
stack and announce it. -/
theorem fansAreClearedAndOverridesMoved : Obligations.FansAreClearedAndOverridesMoved := by
  intro s h blocks calm
  refine ⟨fun hf => ⟨fun n hn => ?_, fun n hn hs => ?_, fun q hq => ?_, fun q k hk he hl => ?_, fun hno => ?_,
    fun id hno => ?_, fun e he hd hs => ?_⟩, fun n hn hs => ?_, fun q k hk he hl => ?_,
    fun below e above hc hd hs he hab => ?_, fun below e above hc hd hs he => ?_⟩
  · exact taken_answer h hf (if_pos hn)
  · exact taken_answer h hf ((if_neg (by omega)).trans (if_neg hs))
  · exact taken_answer h hf (pushRule_badIndex hq)
  · exact taken_answer h hf (pushRule_full hk he hl)
  · exact taken_answer h hf (popRule_notFound (topLink_none hno))
  · exact taken_answer h hf (removeRule_notFound hno)
  · exact taken_answer h hf (removeRule_badState (s := received s) (find_id hd.distinct he) hs)
  · have frame := does_takeChannel n (s.fan.channels.nth n).cleared (received s)
    have told := takeChannel_announced (n := n) (x := (s.fan.channels.nth n).cleared) (s := received s)
      (by simp [hs, Channel.cleared])
    refine ⟨_, taken_finished h (clearFan_faulted (s := received s) hn hs), (finished_frame frame).mono rfl,
      answers_finished frame rfl, ?_, fun m hm => ?_, told.finished⟩
    · rw [(does_finished _ _ _ _).fan rfl, takeChannel_channels]
      exact Tab.nth_put_self _ _ hn
    · rw [(does_finished _ _ _ _).fan rfl, takeChannel_channels]
      exact Tab.nth_put_ne _ _ hm
  · have frame := does_pushEntry (linkEntry (received s) k q) (received s)
    obtain ⟨hlo, hhi, hfree, hlow⟩ := lowestFreeId_spec (stack := s.ovr.stack) (by omega)
    obtain ⟨hstack, hkeys⟩ := pushEntry_ovr (linkEntry (received s) k q) (received s)
    refine ⟨_, _, taken_finished h (pushRule_pushes (s := received s) hk he hl), (finished_frame frame).mono rfl, hlo, hhi,
      hfree, hlow, answers_finished frame rfl, ?_, ?_⟩
    · rw [(does_finished _ _ _ _).ovr rfl, hstack]
      rfl
    · rw [(does_finished _ _ _ _).ovr rfl, hkeys]
      rfl
  · have top := topLink_middle (below := below) he hab
    rw [← hs] at top
    exact ⟨_, taken_finished h (popRule_takes (s := received s) top), finished_removal 0x51 hc hd hs⟩
  · have found := find_id hd.distinct (e := e) (by simp [hs])
    exact ⟨_, taken_finished h (removeRule_takes (s := received s) found he), finished_removal 0x52 hc hd hs⟩

end Sys2Proof.Machine
end

section
/-! SUPPORT. The formed values of a luminaire group (R93, R94): what its level, its fade and its wanted value are read from,
and the rules of the lighting operations on them. -/

namespace Sys2Proof.Machine

/-! ## The values of a group -/

/-- The values of a group that its inputs give (R89, R93, R94): stay-lit time, level, fade in use and wanted value. -/
def Group.lit (x : Group) : Nat × Nat × Nat × Drive := (x.stay, x.level, x.fade, x.wanted)

/-- The values of group `g`. -/
abbrev litOf (s : State) (g : Nat) : Nat × Nat × Nat × Drive := (s.light.groups.nth g).lit

/-- R93, R94: group `g` has the values its inputs give. -/
def Formed (s : State) (g : Nat) : Prop := litOf s g = (formedGroup s g).lit

theorem formed_iff (s : State) (g : Nat) : Formed s g ↔ s.light.groups.nth g = formedGroup s g := by
  refine ⟨fun h => ?_, fun h => congrArg Group.lit h⟩
  simp only [Formed, Group.lit, formedGroup, Prod.mk.injEq, true_and] at h
  obtain ⟨hl, hf, hw⟩ := h
  rw [formedGroup, ← hw, ← hl, ← hf]

theorem groupLaw_iff (s : State) : GroupLaw s ↔ (running s = true → ∀ g ∈ presentGroups s,
    (s.light.groups.nth g).stay ≤ (s.cfg.inForce.groups.nth g).stayLit ∧ Formed s g) := by
  simp only [GroupLaw, formed_iff]

theorem MarksOnly.lit {s t : State} (h : MarksOnly s t) (g : Nat) : litOf t g = litOf s g := by
  have k := congrArg Group.lit (h.group g)
  exact k

/-- R93: what an override tells the level of a zone's groups. -/
def toldLevel (stack : List Entry) (z : Nat) : Option Nat := (lightEntry stack z).map (·.value)

/-- R93: the level of a group that nothing overrides. -/
def restLevel (r : GroupRec) (air : AirState) (lit : Bool) : Nat :=
  let rest := if lit then r.presence else r.base
  if air = .high then max rest r.presence else rest

theorem groupLevel_eq (s : State) (g : Nat) : groupLevel s g =
    (let r := s.cfg.inForce.groups.nth g
     let air := (s.air.zones.nth r.zone).state
     if air = .alarm then 255
     else (toldLevel s.ovr.stack r.zone).getD (restLevel r air (decide (0 < (s.light.groups.nth g).stay)))) := by
  unfold groupLevel toldLevel restLevel
  cases he : lightEntry s.ovr.stack (s.cfg.inForce.groups.nth g).zone <;> simp [he]

section Congr

variable {s t : State} {g : Nat}

/-- R93: the level looks at the configuration in force, the air state of the zone, the stack, and whether the group is lit. -/
theorem groupLevel_congr (hc : t.cfg.inForce = s.cfg.inForce)
    (ha : (t.air.zones.nth (s.cfg.inForce.groups.nth g).zone).state = (s.air.zones.nth (s.cfg.inForce.groups.nth g).zone).state)
    (ho : toldLevel t.ovr.stack (s.cfg.inForce.groups.nth g).zone = toldLevel s.ovr.stack (s.cfg.inForce.groups.nth g).zone)
    (hs : 0 < (t.light.groups.nth g).stay ↔ 0 < (s.light.groups.nth g).stay) : groupLevel t g = groupLevel s g := by
  simp only [groupLevel_eq, hc, ha, ho, hs]

theorem groupFade_congr (hc : t.cfg.inForce = s.cfg.inForce)
    (ha : (t.air.zones.nth (s.cfg.inForce.groups.nth g).zone).state = (s.air.zones.nth (s.cfg.inForce.groups.nth g).zone).state) :
    groupFade t g = groupFade s g := by
  simp only [groupFade, hc, ha]

end Congr

/-! ## What leaves the values of the groups and all they are formed from -/

/-- From `s` to `t` everything stands that the law of the groups looks at. -/
structure SameLevels (s t : State) : Prop where
  state : t.cfg.state = s.cfg.state := by rfl
  inForce : t.cfg.inForce = s.cfg.inForce := by rfl
  dimming : t.cfg.dimming = s.cfg.dimming := by rfl
  airState : ∀ z, (t.air.zones.nth z).state = (s.air.zones.nth z).state := by exact fun _ => rfl
  told : ∀ z, toldLevel t.ovr.stack z = toldLevel s.ovr.stack z := by exact fun _ => rfl
  lit : ∀ g, litOf t g = litOf s g := by exact fun _ => rfl

namespace SameLevels

variable {s t u : State} {bs : List Block}

theorem refl (s : State) : SameLevels s s := {}

theorem trans (h : SameLevels s t) (k : SameLevels t u) : SameLevels s u where
  state := k.state.trans h.state
  inForce := k.inForce.trans h.inForce
  dimming := k.dimming.trans h.dimming
  airState z := (k.airState z).trans (h.airState z)
  told z := (k.told z).trans (h.told z)
  lit g := (k.lit g).trans (h.lit g)

theorem ite {c : Prop} [Decidable c] (h : c → SameLevels s t) (k : ¬c → SameLevels s u) :
    SameLevels s (if c then t else u) := by
  split
  · exact h ‹_›
  · exact k ‹_›

theorem foldl {α : Type} (f : State → α → State) (h : ∀ t x, SameLevels t (f t x)) (l : List α) (s : State) :
    SameLevels s (l.foldl f s) := by
  induction l generalizing s with
  | nil => exact refl s
  | cons x l ih => exact (h s x).trans (ih _)

/-- The blocks in which the law of the groups looks at nothing. -/
abbrev otherBlocks : List Block := [.time, .occ, .fan, .loops, .guide, .slots, .bus, .notices, .link, .free, .pending]

theorem of_does (h : Does bs s t) (k : bs.all (fun b => otherBlocks.contains b) = true) : SameLevels s t := by
  have d := h.mono k
  exact ⟨by rw [d.cfg rfl], by rw [d.cfg rfl], by rw [d.cfg rfl], fun z => by rw [d.air rfl], fun z => by rw [d.ovr rfl],
    fun g => by rw [litOf, litOf, d.light rfl]⟩

/-- A change of the configuration unit that leaves its state, the copy in force and the dimming table. -/
theorem of_cfg (h : Does bs s t) (k : bs.all (fun b => (Block.cfg :: otherBlocks).contains b) = true)
    (hs : t.cfg.state = s.cfg.state) (hc : t.cfg.inForce = s.cfg.inForce) (hd : t.cfg.dimming = s.cfg.dimming) :
    SameLevels s t := by
  have d := h.mono k
  exact ⟨hs, hc, hd, fun z => by rw [d.air rfl], fun z => by rw [d.ovr rfl], fun g => by rw [litOf, litOf, d.light rfl]⟩

/-- What changes only waiting marks in lighting. -/
theorem of_marks (h : Does bs s t) (k : bs.all (fun b => (Block.light :: otherBlocks).contains b) = true)
    (m : MarksOnly s t) : SameLevels s t := by
  have d := h.mono k
  exact ⟨by rw [d.cfg rfl], by rw [d.cfg rfl], by rw [d.cfg rfl], fun z => by rw [d.air rfl], fun z => by rw [d.ovr rfl],
    m.lit⟩

theorem stay (h : SameLevels s t) (g : Nat) : (t.light.groups.nth g).stay = (s.light.groups.nth g).stay :=
  congrArg Prod.fst (h.lit g)

theorem running (h : SameLevels s t) : running t = running s := by simp only [Machine.running, h.state]

theorem presentGroups (h : SameLevels s t) : presentGroups t = presentGroups s := by
  simp only [Machine.presentGroups, h.inForce]

theorem groupLevel (h : SameLevels s t) (g : Nat) : groupLevel t g = Machine.groupLevel s g :=
  groupLevel_congr h.inForce (h.airState _) (h.told _) (by rw [h.stay])

theorem groupFade (h : SameLevels s t) (g : Nat) : groupFade t g = Machine.groupFade s g :=
  groupFade_congr h.inForce (h.airState _)

theorem formed (h : SameLevels s t) (g : Nat) : Formed t g ↔ Formed s g := by
  have e : (formedGroup t g).lit = (formedGroup s g).lit := by
    simp only [formedGroup, Group.lit, h.stay, h.groupLevel, h.groupFade, h.dimming]
  rw [Formed, Formed, h.lit, e]

end SameLevels

/-! ## Levels formed again (R94) -/

theorem setGroup_lit (g h : Nat) (x : Group) (s : State) :
    litOf (setGroup g x s) h = if h = g ∧ g < 48 then x.lit else litOf s h := by
  rw [litOf, setGroup_light, Tab.nth_put]
  split <;> rfl

/-- R94: group `g` takes the values its inputs give, and the others keep theirs. -/
theorem formGroup_lit (g h : Nat) (s : State) :
    litOf (formGroup g s) h = if h = g ∧ g < 48 then (formedGroup s g).lit else litOf s h := by
  rw [formGroup, (marks_note (.group g) _ _).lit]
  exact setGroup_lit g h _ s

/-- R93: what the values of the groups are formed from does not look at levels, fades and wanted values. -/
theorem formedGroup_formGroup (g h : Nat) (s : State) :
    (formedGroup (formGroup g s) h).lit = (formedGroup s h).lit := by
  have d := does_formGroup g s
  have hl : groupLevel (formGroup g s) h = groupLevel s h :=
    groupLevel_congr (by rw [d.cfg rfl]) (by rw [d.air rfl]) (by rw [d.ovr rfl]) (by rw [formGroup_stay])
  have hf : groupFade (formGroup g s) h = groupFade s h := groupFade_congr (by rw [d.cfg rfl]) (by rw [d.air rfl])
  simp only [formedGroup, Group.lit, formGroup_stay, hl, hf, d.cfg rfl]

/-- R94: after it group `g` has the values its inputs give, and so has every other group that had them. -/
theorem formed_formGroup {g h : Nat} {s : State} (k : (h = g ∧ g < 48) ∨ Formed s h) : Formed (formGroup g s) h := by
  rw [Formed, formGroup_lit, formedGroup_formGroup]
  split
  · rename_i e
    rw [e.1]
  · rename_i n
    exact k.resolve_left n

/-- In RUNNING the stay-lit time of every present group is within its bound, and every one outside the list `gs` has the
values its inputs give. -/
def LawBut (gs : List Nat) (s : State) : Prop :=
  running s = true → ∀ g ∈ presentGroups s,
    (s.light.groups.nth g).stay ≤ (s.cfg.inForce.groups.nth g).stayLit ∧ (g ∈ gs ∨ Formed s g)

theorem groupLaw_iff_lawBut (s : State) : GroupLaw s ↔ LawBut [] s := by
  simp only [groupLaw_iff, LawBut, List.not_mem_nil, false_or]

theorem SameLevels.lawBut {gs : List Nat} {s t : State} (h : SameLevels s t) (l : LawBut gs s) : LawBut gs t := by
  intro hr g hg
  rw [h.stay, h.inForce, h.formed]
  exact l (h.running ▸ hr) g (h.presentGroups ▸ hg)

theorem SameLevels.groupLaw {s t : State} (h : SameLevels s t) (l : GroupLaw s) : GroupLaw t :=
  (groupLaw_iff_lawBut t).mpr (h.lawBut ((groupLaw_iff_lawBut s).mp l))

theorem lawBut_formGroup {g : Nat} {gs : List Nat} {s : State} (l : LawBut (g :: gs) s) : LawBut gs (formGroup g s) := by
  have d := does_formGroup g s
  intro hr h hp
  rw [presentGroups_congr (d.cfg rfl)] at hp
  obtain ⟨hb, hf⟩ := l (by rw [← d.running rfl]; exact hr) h hp
  rw [formGroup_stay, d.cfg rfl]
  refine ⟨hb, ?_⟩
  rw [List.mem_cons, or_assoc] at hf
  rcases hf with rfl | hm | hf
  · exact .inr (formed_formGroup (.inl ⟨rfl, (mem_presentGroups.mp hp).1⟩))
  · exact .inl hm
  · exact .inr (formed_formGroup (.inr hf))

/-- R94: after the groups of a list are formed again, none is left with other values than its inputs give. -/
theorem groupLaw_formGroups {gs : List Nat} {s : State} (l : LawBut gs s) : GroupLaw (formGroups gs s) := by
  rw [groupLaw_iff_lawBut]
  dsimp only [formGroups]
  split
  · clear * - l
    induction gs generalizing s with
    | nil => exact l
    | cons g gs ih => exact ih (lawBut_formGroup l)
  · rename_i hr
    exact fun k => absurd k hr

end Sys2Proof.Machine
end

section
/-! SUPPORT. What keeps the law of the luminaire groups (R89, R92 to R94, R98): stay-lit times, paths, air states and the
override stack. -/

namespace Sys2Proof.Machine

/-- From `s` to `t` the law of the groups is kept. -/
structure KeepsGroups (s t : State) : Prop where
  law : GroupLaw s → GroupLaw t

namespace KeepsGroups

variable {s t u : State} {bs : List Block}

theorem same (h : SameLevels s t) : KeepsGroups s t := ⟨h.groupLaw⟩

theorem refl (s : State) : KeepsGroups s s := ⟨id⟩

theorem trans (h : KeepsGroups s t) (k : KeepsGroups t u) : KeepsGroups s u := ⟨k.law ∘ h.law⟩

/-- What leaves everything the law looks at, after what keeps it. -/
theorem after (h : KeepsGroups s t) (k : SameLevels t u) : KeepsGroups s u := h.trans (same k)

theorem of_does (h : Does bs s t) (k : bs.all (fun b => SameLevels.otherBlocks.contains b) = true) : KeepsGroups s t :=
  same (.of_does h k)

theorem afterDoes (h : KeepsGroups s t) (d : Does bs t u)
    (k : bs.all (fun b => SameLevels.otherBlocks.contains b) = true) : KeepsGroups s u := h.after (.of_does d k)

theorem ite {c : Prop} [Decidable c] (h : c → KeepsGroups s t) (k : ¬c → KeepsGroups s u) :
    KeepsGroups s (if c then t else u) := by
  split
  · exact h ‹_›
  · exact k ‹_›

theorem foldl {α : Type} (f : State → α → State) (h : ∀ t x, KeepsGroups t (f t x)) (l : List α) (s : State) :
    KeepsGroups s (l.foldl f s) := by
  induction l generalizing s with
  | nil => exact refl s
  | cons x l ih => exact (h s x).trans (ih _)

/-- Outside RUNNING the law asks nothing. -/
theorem of_untracked (h : running t = false) : KeepsGroups s t := ⟨fun _ k => absurd k (by simp [h])⟩

theorem answered (h : KeepsGroups s t) (kind : Nat) (r : Result) (fields : List Byte) :
    KeepsGroups s (answer kind r fields t) := h.afterDoes (does_answer t _ _ _) rfl

end KeepsGroups

/-! ## Marks -/

theorem sameLevels_fillSlots (s : State) : SameLevels s (fillSlots s) := .of_marks (does_fillSlots s) rfl (marks_fillSlots s)

theorem sameLevels_noteLight (d : Dest) (mark : Bool) (s : State) (h : destBlock d = .light) : SameLevels s (note d mark s) :=
  .of_marks (does_note_light d mark s h) rfl (marks_note d mark s)

theorem sameLevels_resendLight (s : State) : SameLevels s (resendLight s) :=
  .ite (fun _ => .foldl _ (fun t _ => sameLevels_noteLight _ _ t rfl) _ s) (fun _ => sameLevels_noteLight _ _ s rfl)

theorem sameLevels_lightResendTap (s : State) : SameLevels s (lightResendTap s) := by
  have h : SameLevels s { s with light := { s.light with resend := (s.light.resend + 1) % 64 } } := {}
  exact .ite (fun _ => h.trans (sameLevels_resendLight _)) (fun _ => h)

/-- R165. -/
theorem KeepsGroups.fill {s t : State} (h : KeepsGroups s t) : KeepsGroups s (fillSlots t) := h.after (sameLevels_fillSlots t)

/-! ## Group states (R101, R102, R168) -/

/-- A group's record written with the values that it has. -/
theorem sameLevels_setGroup {g : Nat} {x : Group} {s : State} (h : x.lit = litOf s g) : SameLevels s (setGroup g x s) where
  lit k := by
    rw [setGroup_lit]
    split
    · rename_i e
      rw [e.1, h]
    · rfl

theorem sameLevels_formDark (z : Nat) (s : State) : SameLevels s (formDark z s) := by
  dsimp only [formDark]
  refine .ite (fun _ => .ite (fun _ => {}) (fun _ => ?_)) (fun _ => .refl s)
  exact .trans {} (.of_does (((does_post _ _).mono rfl).trans (does_guideZone z _)) rfl)

theorem sameLevels_setGroupState (g : Nat) (st : GroupState) (s : State) : SameLevels s (setGroupState g st s) := by
  dsimp only [setGroupState]
  refine .ite (fun _ => .refl s) (fun _ => ?_)
  have h : SameLevels s (setGroup g { s.light.groups.nth g with state := st } s) := sameLevels_setGroup rfl
  exact (h.trans (.of_does (does_post _ _) rfl)).trans (sameLevels_formDark _ _)

theorem sameLevels_groupSent (g : Nat) (v : Drive) (s : State) : SameLevels s (groupSent g v s) := by
  have h : SameLevels s (setGroup g { s.light.groups.nth g with sent := some v } s) := sameLevels_setGroup rfl
  have k : SameLevels s (if (s.light.groups.nth g).state = .noResponse
      then setGroupState g .ok (setGroup g { s.light.groups.nth g with sent := some v } s)
      else setGroup g { s.light.groups.nth g with sent := some v } s) :=
    .ite (fun _ => h.trans (sameLevels_setGroupState g _ _)) (fun _ => h)
  exact .ite (fun _ => k.trans (sameLevels_noteLight _ _ _ rfl)) (fun _ => k)

/-! ## Stay-lit times (R89, R92) -/

/-- Group `g` with another stay-lit time. -/
def setStay (g n : Nat) (s : State) : State := setGroup g { s.light.groups.nth g with stay := n } s

section SetStay

variable {g n : Nat} {s : State}

theorem setStay_stay (h : Nat) : ((setStay g n s).light.groups.nth h).stay
    = if h = g ∧ g < 48 then n else (s.light.groups.nth h).stay := setGroup_stay g h _ s

/-- R93: a stay-lit time that stays above 0, or at 0, leaves the values of every group formed. -/
theorem formed_setStay {h : Nat} (k : h = g → (0 < n ↔ 0 < (s.light.groups.nth g).stay)) (f : Formed s h) :
    Formed (setStay g n s) h := by
  have hs : 0 < ((setStay g n s).light.groups.nth h).stay ↔ 0 < (s.light.groups.nth h).stay := by
    rw [setStay_stay]
    split
    · rename_i e
      rw [k e.1, e.1]
    · rfl
  have hl : groupLevel (setStay g n s) h = groupLevel s h := groupLevel_congr rfl rfl rfl hs
  have hf : groupFade (setStay g n s) h = groupFade s h := groupFade_congr rfl rfl
  have hd : (setStay g n s).cfg = s.cfg := rfl
  have hx : (litOf (setStay g n s) h).2 = (litOf s h).2 := by
    rw [setStay, setGroup_lit]
    split
    · rename_i e
      rw [e.1]
      rfl
    · rfl
  simp only [Formed, Group.lit, formedGroup, Prod.mk.injEq, true_and, litOf] at f hx ⊢
  rw [hl, hf, hd, hx.1, hx.2.1, hx.2.2]
  exact f

/-- R89: a stay-lit time within its bound: only its own group may have to be formed again. -/
theorem lawBut_setStay (hb : g ∈ presentGroups s →
      (s.light.groups.nth g).stay ≤ (s.cfg.inForce.groups.nth g).stayLit → n ≤ (s.cfg.inForce.groups.nth g).stayLit) (l : GroupLaw s) : LawBut [g] (setStay g n s) := by
  intro hr h hp
  obtain ⟨hs, hf⟩ := (groupLaw_iff s).mp l hr h hp
  rw [setStay_stay, List.mem_singleton]
  by_cases e : h = g
  · subst e
    refine ⟨?_, .inl rfl⟩
    split
    · exact hb hp hs
    · exact hs
  · rw [if_neg fun k => e k.1]
    exact ⟨hs, .inr (formed_setStay (fun k => absurd k e) hf)⟩

theorem keepsGroups_reformStay (hb : g ∈ presentGroups s →
      (s.light.groups.nth g).stay ≤ (s.cfg.inForce.groups.nth g).stayLit → n ≤ (s.cfg.inForce.groups.nth g).stayLit) : KeepsGroups s (formGroup g (setStay g n s)) :=
  ⟨fun l => (groupLaw_iff_lawBut _).mpr (lawBut_formGroup (lawBut_setStay hb l))⟩

/-- R89, R92: a stay-lit time that stays above 0, or at 0, and within its bound. -/
theorem keepsGroups_setStay (hb : g ∈ presentGroups s →
      (s.light.groups.nth g).stay ≤ (s.cfg.inForce.groups.nth g).stayLit →
      n ≤ (s.cfg.inForce.groups.nth g).stayLit ∧ (0 < n ↔ 0 < (s.light.groups.nth g).stay)) :
    KeepsGroups s (setStay g n s) := by
  refine ⟨fun l => (groupLaw_iff_lawBut _).mpr fun hr h hp => ?_⟩
  obtain ⟨hs, hf⟩ := (groupLaw_iff s).mp l hr h hp
  refine ⟨((lawBut_setStay (fun k e => (hb k e).1) l) hr h hp).1, .inr (formed_setStay ?_ hf)⟩
  rintro rfl
  exact (hb hp hs).2

end SetStay

/-- R89. -/
theorem keepsGroups_trigger (g : Nat) (s : State) : KeepsGroups s (trigger g s) := by
  dsimp only [trigger]
  refine .ite (fun _ => .ite (fun _ => ?_) (fun hn => ?_)) (fun _ => .refl s)
  · exact keepsGroups_reformStay fun _ _ => Nat.le_refl _
  · exact keepsGroups_setStay fun _ hb => ⟨Nat.le_refl _, by omega⟩

/-- R92. -/
theorem keepsGroups_stayTap (g : Nat) (s : State) : KeepsGroups s (stayTap g s) := by
  dsimp only [stayTap]
  refine .ite (fun _ => .refl s) (fun h0 => .ite (fun _ => ?_) (fun h1 => ?_))
  · exact keepsGroups_reformStay fun _ hb => (Nat.sub_le _ _).trans hb
  · exact keepsGroups_setStay fun _ hb => ⟨(Nat.sub_le _ _).trans hb, by omega⟩

theorem keepsGroups_lightsT1 (s : State) : KeepsGroups s (lightsT1 s) :=
  .after (.ite (fun _ => .foldl _ (fun t g => keepsGroups_stayTap g t) _ s) (fun _ => .refl s)) (sameLevels_lightResendTap _)

theorem keepsGroups_lightSensed (b : Nat) (s : State) : KeepsGroups s (lightSensed b s) :=
  .foldl _ (fun t g => keepsGroups_trigger g t) _ s

/-! ## Paths (R97, R98) -/

theorem sameLevels_setPath (p : Nat) (x : PathRun) (s : State) : SameLevels s (setPath p x s) := {}

theorem keepsGroups_pathFire (p : Nat) (s : State) : KeepsGroups s (pathFire p s) := by
  dsimp only [pathFire]
  split
  · refine .after ?_ (sameLevels_setPath p _ _)
    split
    · exact keepsGroups_trigger _ s
    · exact .refl s
  · exact .refl s
  · exact .refl s

theorem keepsGroups_pathTap (p : Nat) (s : State) : KeepsGroups s (pathTap p s) := by
  dsimp only [pathTap]
  split
  · exact .trans (.same (sameLevels_setPath p _ s)) (keepsGroups_pathFire p _)
  · exact .refl s

theorem keepsGroups_startPaths (pair : Nat) (s : State) : KeepsGroups s (startPaths pair s) :=
  .foldl (fun t p => startPath p t) (fun t p => .trans (.same (sameLevels_setPath p _ t)) (keepsGroups_pathFire p _)) _ s

theorem keepsGroups_pathsT32 (s : State) : KeepsGroups s (pathsT32 s) :=
  .ite (fun _ => .foldl _ (fun t p => keepsGroups_pathTap p t) _ s) (fun _ => .refl s)

/-! ## The override stack (R93, R147) -/

theorem sameLevels_formSounder (s : State) : SameLevels s (formSounder s) := {}

/-- R94: after a change of the stack every present group is formed again. -/
theorem groupLaw_lightStack {s : State} (h : running s = true → ∀ g ∈ presentGroups s,
    (s.light.groups.nth g).stay ≤ (s.cfg.inForce.groups.nth g).stayLit) : GroupLaw (lightStack s) :=
  groupLaw_formGroups fun hr g hg => ⟨h hr g hg, .inl hg⟩

/-- R147: a new stack, announced. -/
theorem keepsGroups_restack (l : List Entry) (s : State) : KeepsGroups s (announceStack (setStack l s)) where
  law k := by
    have d := (does_fanStack (setStack l s)).cfg rfl
    refine SameLevels.groupLaw (.trans (.of_does (does_guideStack _) rfl) (sameLevels_formSounder _)) ?_
    refine groupLaw_lightStack fun hr g hg => ?_
    have hl : (airStack (fanStack (setStack l s))).light = s.light := (does_fanStack (setStack l s)).light rfl
    have hc : (airStack (fanStack (setStack l s))).cfg = s.cfg := d
    rw [running, hc] at hr
    rw [presentGroups_congr hc] at hg
    rw [hl, hc]
    exact (k hr g hg).1

theorem keepsGroups_pushEntry (e : Entry) (s : State) : KeepsGroups s (pushEntry e s) := keepsGroups_restack _ s

theorem sameLevels_setKey (k : Nat) (x : Key) (s : State) : SameLevels s (setKey k x s) := {}

theorem keepsGroups_keyPush (k : Nat) (s : State) : KeepsGroups s (keyPush k s) := by
  dsimp only [keyPush]
  split
  · exact .refl s
  · exact .trans (.same (sameLevels_setKey k _ s)) (keepsGroups_restack _ _)

theorem keepsGroups_pendingPush (k : Nat) (s : State) : KeepsGroups s (pendingPush k s) :=
  .ite (fun _ => (keepsGroups_keyPush k s).afterDoes (does_post _ _) rfl) (fun _ => .refl s)

theorem keepsGroups_removeEntries (p : Entry → Bool) (s : State) : KeepsGroups s (removeEntries p s) :=
  (keepsGroups_restack _ s).trans ((keepsGroups_pendingPush 0 _).trans (keepsGroups_pendingPush 1 _))

theorem keepsGroups_keyAct (k : Nat) (s : State) : KeepsGroups s (keyAct k s) := by
  have h : SameLevels s (setKey k { s.ovr.keys.nth k with filter := 0 } s) := sameLevels_setKey k _ s
  dsimp only [keyAct]
  refine .ite (fun _ => .trans (.same h) (keepsGroups_keyPush k _)) (fun _ => ?_)
  exact .same ((h.trans (sameLevels_setKey k _ _)).trans (.of_does (does_post _ _) rfl))

theorem keepsGroups_keyRelease (k : Nat) (s : State) : KeepsGroups s (keyRelease k s) := by
  have h : KeepsGroups s (setKey k ⟨false, 0, .released⟩ s) := .same (sameLevels_setKey k _ s)
  dsimp only [keyRelease]
  split
  · exact h.trans (keepsGroups_removeEntries _ _)
  · exact h.afterDoes (does_post _ _) rfl
  · exact h
  · exact h

theorem keepsGroups_keyTapActive (k : Nat) (s : State) : KeepsGroups s (keyTapActive k s) := by
  have h : ∀ x, KeepsGroups s (setKey k x s) := fun x => .same (sameLevels_setKey k x s)
  dsimp only [keyTapActive]
  refine .ite (fun _ => h _) (fun _ => .ite (fun _ => ?_) (fun _ => h _))
  exact .ite (fun _ => (h _).trans (keepsGroups_keyAct k _)) (fun _ => (h _).after (sameLevels_setKey k _ _))

theorem keepsGroups_keyTap (k : Nat) (active : Bool) (s : State) : KeepsGroups s (keyTap k active s) :=
  .ite (fun _ => keepsGroups_keyTapActive k s) (fun _ => keepsGroups_keyRelease k s)

theorem keepsGroups_expireEntries (s : State) : KeepsGroups s (expireEntries s) := by
  dsimp only [expireEntries]
  exact .ite (fun _ => .refl s) (fun _ =>
    .trans (.of_does (does_postAll _ s) rfl) (keepsGroups_removeEntries _ _))

/-- R93: a change of the remaining times leaves what the stack tells the groups of a zone. -/
theorem toldLevel_map {f : Entry → Entry} (hk : ∀ e, (f e).kind = e.kind) (hs : ∀ e, (f e).scope = e.scope)
    (hv : ∀ e, (f e).value = e.value) (l : List Entry) (z : Nat) : toldLevel (l.map f) z = toldLevel l z := by
  have hc : (fun e => Entry.coversZone e .lightLevel z) ∘ f = fun e => Entry.coversZone e .lightLevel z := by
    funext e
    simp only [Function.comp, Entry.coversZone, hk, hs]
  simp only [toldLevel, lightEntry, topmost, List.filter_map, hc, List.getLast?_map, Option.map_map, Function.comp_def, hv]

/-- R146: remaining times move, then the entries that have run out are removed. -/
theorem keepsGroups_expireMapped {f : Entry → Entry} (hk : ∀ e, (f e).kind = e.kind) (hs : ∀ e, (f e).scope = e.scope)
    (hv : ∀ e, (f e).value = e.value) (s : State) : KeepsGroups s (expireEntries (setStack (s.ovr.stack.map f) s)) :=
  .trans (t := setStack (s.ovr.stack.map f) s) (.same { told := toldLevel_map hk hs hv _ }) (keepsGroups_expireEntries _)

theorem keepsGroups_stackT1 (s : State) : KeepsGroups s (stackT1 s) :=
  keepsGroups_expireMapped (f := Entry.tick) (fun _ => rfl) (fun _ => rfl) (fun _ => rfl) s

theorem sameLevels_spendKey (ids : List Nat) (k : Nat) (s : State) : SameLevels s (spendKey ids k s) := by
  dsimp only [spendKey]
  refine .ite (fun _ => ?_) (fun _ => .refl s)
  split
  · exact .ite (fun _ => sameLevels_setKey k _ s) (fun _ => .refl s)
  · exact (sameLevels_setKey k _ s).trans (.of_does (does_post _ _) rfl)
  · exact .refl s
  · exact .refl s

theorem keepsGroups_cancelMutes (s : State) : KeepsGroups s (cancelMutes s) := by
  have h : ∀ ns ids, KeepsGroups s (spendKey ids 1 (spendKey ids 0 (postAll ns s))) := fun ns ids =>
    .same ((SameLevels.of_does (does_postAll ns s) rfl).trans ((sameLevels_spendKey ids 0 _).trans (sameLevels_spendKey ids 1 _)))
  dsimp only [cancelMutes]
  exact .ite (fun _ => h _ _) (fun _ => (h _ _).trans (keepsGroups_removeEntries _ _))

theorem sameLevels_sounderTap (s : State) : SameLevels s (sounderTap s) := by
  dsimp only [sounderTap]
  split
  · exact {}
  · exact .refl s
  · exact .refl s

/-! ## The air monitor (R31, R42, R54) -/

/-- A zone's air record written with the air state that it has. -/
theorem sameLevels_setZoneAir {z : Nat} {x : ZoneAir} {s : State} (h : x.state = (s.air.zones.nth z).state := by rfl) :
    SameLevels s (setZoneAir z x s) where
  airState y := by
    rw [setZoneAir_air, Tab.nth_put]
    split
    · rename_i e
      rw [e.1, h]
    · rfl

theorem sameLevels_credit (z w : Nat) (s : State) : SameLevels s (credit z w s) :=
  .ite (fun _ => sameLevels_setZoneAir) (fun _ => .refl s)

theorem sameLevels_takeSensorState (n : Nat) (x : Sensor) (s : State) : SameLevels s (takeSensorState n x s) := by
  have h : SameLevels s (setSensor n x s) := {}
  exact .ite (fun _ => h) (fun _ => h.trans (.of_does (does_post _ _) rfl))

/-- R93: a change of the air record of zone `z` leaves the values of the groups of every other zone formed. -/
theorem formed_setZoneAir {z g : Nat} {x : ZoneAir} {s : State} (h : (s.cfg.inForce.groups.nth g).zone ≠ z)
    (f : Formed s g) : Formed (setZoneAir z x s) g := by
  have ha : (((setZoneAir z x s).air.zones.nth (s.cfg.inForce.groups.nth g).zone).state) =
      (s.air.zones.nth (s.cfg.inForce.groups.nth g).zone).state := by
    rw [setZoneAir_air, Tab.nth_put_ne _ _ h]
  have hl : groupLevel (setZoneAir z x s) g = groupLevel s g := groupLevel_congr rfl ha rfl Iff.rfl
  have hf : groupFade (setZoneAir z x s) g = groupFade s g := groupFade_congr rfl ha
  simp only [Formed, Group.lit, formedGroup, litOf] at f ⊢
  rw [hl, hf]
  exact f

/-- R54, R94: a zone takes a new air record, and its groups are formed again at the announcement. -/
theorem keepsGroups_announceAir {z : Nat} {x : ZoneAir} {s u : State} (h : SameLevels (setZoneAir z x s) u) :
    KeepsGroups s (announceAir z u) := by
  dsimp only [announceAir]
  refine .after (.trans ⟨fun l => ?_⟩ (.ite (fun _ => keepsGroups_cancelMutes _) (fun _ => .refl _))) (sameLevels_formSounder _)
  have k : SameLevels (setZoneAir z x s) (guideAir z (post (.airState z (u.air.zones.nth z).state) u)) :=
    h.trans (.of_does (((does_post _ _).mono rfl).trans (does_guideAir z _)) rfl)
  refine groupLaw_formGroups (k.lawBut fun hr g hg => ?_)
  obtain ⟨hs, hf⟩ := (groupLaw_iff s).mp l hr g hg
  refine ⟨hs, ?_⟩
  simp only [zoneGroups, List.mem_filter, k.presentGroups, k.inForce, beq_iff_eq]
  by_cases hz : (s.cfg.inForce.groups.nth g).zone = z
  · exact .inl ⟨hg, hz⟩
  · exact .inr (formed_setZoneAir hz hf)

theorem keepsGroups_sampleZone (old : Tab Sensor 32) (z : Nat) (s : State) : KeepsGroups s (sampleZone old z s) := by
  have h : ∀ x, SameLevels (setZoneAir z x s) (postSensors old (fun r => r.zone == z) (setZoneAir z x s)) := fun x =>
    .of_does (does_postSensors old _ _) rfl
  dsimp only [sampleZone]
  exact .ite (fun e => .same ((sameLevels_setZoneAir e.symm).trans (h _))) (fun _ => keepsGroups_announceAir (h _))

theorem keepsGroups_airTap (ain : Tab (BitVec 10) 8) (s : State) : KeepsGroups s (airTap ain s) := by
  have h : ∀ x, SameLevels s { s with air := { s.air with sensors := x } } := fun x => {}
  dsimp only [airTap]
  refine .ite (fun _ => .same (h _)) (fun _ => .ite (fun _ => ?_) (fun _ => .same (h _)))
  exact ((KeepsGroups.same (h _)).afterDoes (does_postSensors _ _ _) rfl).trans
    (.foldl _ (fun t z => keepsGroups_sampleZone _ z t) _ _)

end Sys2Proof.Machine
end

section
/-! SUPPORT. The occupancy unit, the loop unit, the field bus controller, the taps and the entries to the configuration
states keep the law of the luminaire groups (R12, R91, R101, R105, R116, R174, R187). -/

namespace Sys2Proof.Machine

/-! ## Sensed changes and detector reports (section 1.3) -/

theorem keepsGroups_settleBay (b : Nat) (d : Det) (s : State) : KeepsGroups s (settleBay b d s) := by
  refine .afterDoes (.trans (.after ?_ (sameLevels_credit _ _ _)) (keepsGroups_lightSensed b _)) (does_guideSensed b _) rfl
  exact .of_does (does_takeSensed b d s) rfl

theorem keepsGroups_compareReport (b : Nat) (d : Det) (s : State) : KeepsGroups s (compareReport b d s) := by
  have h : ∀ x, KeepsGroups s (setBay b x s) := fun x => .of_does (does_setBay s b x) rfl
  dsimp only [compareReport]
  refine .ite (fun _ => h _) (fun _ => .ite (fun _ => .refl s) (fun _ => ?_))
  exact .ite (fun _ => keepsGroups_settleBay b d s) (fun _ => h _)

theorem keepsGroups_okReport (b : Nat) (d : Det) (s : State) : KeepsGroups s (okReport b d s) := by
  have h : KeepsGroups s (setBay b { bayOf s b with health := .ok, lastHeard := 0 } s) := .of_does (does_setBay s b _) rfl
  have k := h.trans (.ite (c := (bayOf s b).sensed = .nothing) (fun _ => .of_does (does_takeSensed b d _) rfl)
    (fun _ => keepsGroups_compareReport b d _))
  dsimp only [okReport]
  exact .ite (fun _ => k.afterDoes (does_post _ _) rfl) (fun _ => k)

theorem keepsGroups_bayReport (b : Nat) (d : Det) (h : Health) (s : State) : KeepsGroups s (bayReport b d h s) := by
  cases h with
  | ok => exact keepsGroups_okReport b d s
  | fault => exact .of_does (does_faultReport b s) rfl

theorem keepsGroups_settleTap (b : Nat) (s : State) : KeepsGroups s (settleTap b s) := by
  dsimp only [settleTap]
  split
  · exact .ite (fun _ => keepsGroups_settleBay b _ s) (fun _ => .of_does (does_setBay s b _) rfl)
  · exact .refl s

theorem keepsGroups_bayT4 (s : State) : KeepsGroups s (bayT4 s) :=
  .ite (fun _ => .foldl _ (fun t b => keepsGroups_settleTap b t) _ s) (fun _ => .refl s)

/-! ## Passages (R111 to R116) -/

theorem keepsGroups_creditAndStart (p : Nat) (s : State) : KeepsGroups s (creditAndStart p s) :=
  .trans (.same (sameLevels_credit _ _ s)) (keepsGroups_startPaths p _)

theorem keepsGroups_announcePassage (p : Nat) (d : Direction) (s : State) : KeepsGroups s (announcePassage p d s) := by
  have h : ∀ {d}, d = .into ∨ d = .undirected → KeepsGroups s (announcePassage p d s) := fun hd => by
    rw [announcePassage_of_starts hd]
    cases pairSign s p with
    | none => exact keepsGroups_creditAndStart p s
    | some i => exact (keepsGroups_creditAndStart p s).afterDoes (does_advanceSign i _) rfl
  cases d with
  | into => exact h (.inl rfl)
  | undirected => exact h (.inr rfl)
  | out => exact .same (sameLevels_credit _ _ s)

theorem keepsGroups_setPair (p : Nat) (x : PairRun) (s : State) : KeepsGroups s (setPair p x s) :=
  .of_does (does_setPair s p x) rfl

theorem keepsGroups_setLoop (i : Nat) (x : LoopInput) (s : State) : KeepsGroups s (setLoop i x s) :=
  .of_does (does_setLoop s i x) rfl

theorem keepsGroups_passage (p : Nat) (d : Direction) (s : State) : KeepsGroups s (passage p d s) := by
  have h := keepsGroups_setPair p (tallied d (s.loops.pairs.nth p)) s
  dsimp only [passage]
  refine .ite (fun _ => .trans ?_ (keepsGroups_announcePassage p d _)) (fun _ => ?_) <;>
    exact .ite (fun _ => h.afterDoes (does_loops _ _) rfl) (fun _ => h)

theorem keepsGroups_completeSequence (p : Nat) (s : State) : KeepsGroups s (completeSequence p s) := by
  dsimp only [completeSequence]
  split
  · exact (keepsGroups_setPair p _ s).trans (keepsGroups_passage p _ _)
  · exact (keepsGroups_setPair p _ s).trans (keepsGroups_passage p _ _)
  · exact keepsGroups_setPair p _ s
  · exact keepsGroups_setPair p _ s
  · exact .refl s

theorem keepsGroups_pairCovered (i : Nat) (s : State) : KeepsGroups s (pairCovered i s) := by
  dsimp only [pairCovered]
  split
  · exact .refl s
  · split
    · exact keepsGroups_passage _ _ s
    · exact keepsGroups_setPair _ _ s

theorem keepsGroups_pairCleared (i : Nat) (s : State) : KeepsGroups s (pairCleared i s) := by
  dsimp only [pairCleared]
  split
  · exact .refl s
  · split
    · exact .refl s
    · exact .ite (fun _ => .refl s) (fun _ => keepsGroups_completeSequence _ s)

theorem keepsGroups_loopTapActive (i : Nat) (s : State) : KeepsGroups s (loopTapActive i s) := by
  have h : ∀ x t, KeepsGroups t (setLoop i x t) := keepsGroups_setLoop i
  dsimp only [loopTapActive]
  refine .ite (fun _ => .ite (fun _ => ?_) (fun _ => (h _ s).trans (h _ _))) (fun _ => h _ s)
  exact (h _ s).trans ((h _ _).trans (keepsGroups_pairCovered i _))

theorem keepsGroups_releaseLoop (i : Nat) (s : State) : KeepsGroups s (releaseLoop i s) := by
  have h : ∀ x, KeepsGroups s (setLoop i x s) := fun x => keepsGroups_setLoop i x s
  dsimp only [releaseLoop]
  split
  · exact h _
  · exact (h _).trans (keepsGroups_pairCleared i _)
  · exact (h _).afterDoes (does_post _ _) rfl

theorem keepsGroups_loopTap (i : Nat) (active : Bool) (s : State) : KeepsGroups s (loopTap i active s) :=
  .ite (fun _ => keepsGroups_loopTapActive i s) (fun _ => keepsGroups_releaseLoop i s)

theorem keepsGroups_occupiedTap (i : Nat) (s : State) : KeepsGroups s (occupiedTap i s) := by
  have h : ∀ x, KeepsGroups s (setLoop i x s) := fun x => keepsGroups_setLoop i x s
  dsimp only [occupiedTap]
  refine .ite (fun _ => .ite (fun _ => ?_) (fun _ => h _)) (fun _ => .refl s)
  exact ((h _).afterDoes (does_post _ _) rfl).trans (keepsGroups_pairCleared i _)

theorem keepsGroups_loopT1 (s : State) : KeepsGroups s (loopT1 s) := by
  refine .ite (fun _ => .refl s) (fun _ => ?_)
  exact (KeepsGroups.foldl _ (fun t i => keepsGroups_occupiedTap i t) _ s).trans
    (.foldl _ (fun t p => .of_does (does_sequenceTap p t) rfl) _ _)

/-! ## Field frames (sections 8.1 to 8.4) -/

theorem keepsGroups_takeBayState (a : Addr) (d : Det) (h : Health) (s : State) : KeepsGroups s (takeBayState a d h s) := by
  dsimp only [takeBayState]
  split
  · exact .of_does (does_addUnknown _ _ s) rfl
  · exact .ite (fun _ => keepsGroups_bayReport _ d h s) (fun _ => .refl s)

theorem keepsGroups_takeGasValue (a : Addr) (g : GasReport) (s : State) : KeepsGroups s (takeGasValue a g s) := by
  dsimp only [takeGasValue]
  split
  · exact .of_does (does_addUnknown _ _ s) rfl
  · exact .ite (fun _ => .same (sameLevels_takeSensorState _ _ s)) (fun _ => .refl s)

theorem keepsGroups_takePed (a : Addr) (p : Ped) (s : State) : KeepsGroups s (takePed a p s) := by
  dsimp only [takePed]
  split
  · exact .of_does (does_addUnknown _ _ s) rfl
  · split
    · exact keepsGroups_trigger _ s
    · exact .refl s

theorem keepsGroups_takeLumState (a : Addr) (h : Health) (s : State) : KeepsGroups s (takeLumState a h s) := by
  dsimp only [takeLumState]
  split
  · exact .of_does (does_addUnknown _ _ s) rfl
  · exact .ite (fun _ => .same (sameLevels_setGroupState _ _ s)) (fun _ => .refl s)

theorem keepsGroups_takeSignState (a : Addr) (h : Health) (s : State) : KeepsGroups s (takeSignState a h s) := by
  dsimp only [takeSignState]
  split
  · exact .of_does (does_addUnknown _ _ s) rfl
  · exact .ite (fun _ => .of_does (does_setSignState _ _ s) rfl) (fun _ => .refl s)

theorem keepsGroups_takeAnnounce (a : Addr) (type : DeviceType) (s : State) : KeepsGroups s (takeAnnounce a type s) := by
  dsimp only [takeAnnounce]
  split
  · exact .of_does (does_announceBay _ s) rfl
  · exact .ite (fun _ => .same (sameLevels_takeSensorState _ _ s)) (fun _ => .refl s)
  · exact .same (.ite (fun _ => sameLevels_noteLight _ _ s rfl) (fun _ => sameLevels_noteLight _ _ s rfl))
  · exact .refl s
  · exact .of_does (does_announceSign _ s) rfl
  · exact .of_does (does_addUnknown _ _ s) rfl

/-! ## Attempts (R168, R169) -/

theorem sameLevels_reportSuccess (x : Slot) (s : State) : SameLevels s (reportSuccess x s) := by
  dsimp only [reportSuccess]
  split
  · split
    · exact .of_does (does_faceSent _ _ _ s) rfl
    · exact .refl s
  · split
    · exact sameLevels_groupSent _ _ s
    · exact .refl s
  · split
    · exact .of_does (does_lampSent _ _ s) rfl
    · exact .refl s
  · exact .refl s

theorem sameLevels_reportGiveUp (x : Slot) (s : State) : SameLevels s (reportGiveUp x s) := by
  dsimp only [reportGiveUp]
  split
  · split
    · exact .of_does (does_setSignState _ _ s) rfl
    · exact .refl s
  · split
    · exact sameLevels_setGroupState _ _ s
    · exact .refl s
  · split
    · exact .of_does (does_lampLost _ s) rfl
    · exact .refl s
  all_goals exact .refl s

theorem sameLevels_putSlot (i : Nat) (x : Option Slot) (s : State) : SameLevels s (putSlot i x s) :=
  .of_does (does_putSlot s i x) rfl

theorem sameLevels_setErrors (n : Nat) (s : State) : SameLevels s (setErrors n s) := .of_does (does_setErrors n s) rfl

theorem sameLevels_attemptSucceeds (i : Nat) (x : Slot) (s : State) : SameLevels s (attemptSucceeds i x s) := by
  have h := (sameLevels_setErrors (s.bus.errors - 1) s).trans (sameLevels_putSlot i none _)
  exact .ite (fun _ => h) (fun _ => h.trans (sameLevels_reportSuccess x _))

theorem sameLevels_attemptFails (i : Nat) (x : Slot) (s : State) : SameLevels s (attemptFails i x s) := by
  dsimp only [attemptFails, giveUp]
  refine .trans (.ite (fun _ => ?_) (fun _ => .ite (fun _ => sameLevels_putSlot i _ s) (fun _ => sameLevels_putSlot i _ s)))
    (sameLevels_setErrors _ _)
  have h : SameLevels s (putSlot i none { s with bus := { s.bus with givenUp := min (s.bus.givenUp + 1) 65535 } }) := {}
  exact .ite (fun _ => h) (fun _ => h.trans (sameLevels_reportGiveUp x _))

/-! ## The parts of the taps (R174) -/

theorem keepsGroups_runT32 (loops : BitVec 8) (keys : BitVec 2) (s : State) (p : T32Part) :
    KeepsGroups s (runT32 loops keys s p) := by
  refine .ite (fun _ => .refl s) (fun _ => ?_)
  cases p with
  | loops => exact .foldl _ (fun t i => keepsGroups_loopTap i _ t) _ s
  | keys => exact .foldl _ (fun t k => keepsGroups_keyTap k _ t) _ s
  | paths => exact keepsGroups_pathsT32 s

theorem keepsGroups_runT4 (rdy : BitVec 12) (s : State) (p : T4Part) : KeepsGroups s (runT4 rdy s p) := by
  refine .ite (fun _ => .refl s) (fun _ => ?_)
  cases p with
  | bays => exact keepsGroups_bayT4 s
  | fans => exact .of_does (does_fansT4 rdy s) rfl
  | bus => exact .of_does (does_busT4 s) rfl

theorem keepsGroups_runT1 (ain : Tab (BitVec 10) 8) (s : State) (p : T1Part) : KeepsGroups s (runT1 ain s p) := by
  cases p with
  | clock => exact .of_does (does_time s _) rfl
  | sounder => exact .ite (fun _ => .refl s) (fun _ => .same (sameLevels_sounderTap s))
  | air => exact keepsGroups_airTap ain s
  | bays => exact .of_does (does_bayT1 s) rfl
  | fans => exact .ite (fun _ => .refl s) (fun _ => .of_does (does_fan s _) rfl)
  | lights => exact .ite (fun _ => .refl s) (fun _ => keepsGroups_lightsT1 s)
  | loops => exact keepsGroups_loopT1 s
  | guide => exact .ite (fun _ => .refl s) (fun _ => .of_does (does_guideT1 s) rfl)
  | stack => exact .ite (fun _ => .refl s) (fun _ => keepsGroups_stackT1 s)

/-! ## Resets and entries -/

theorem keepsGroups_resetCommanded (straps : Straps) (s : State) : KeepsGroups s (resetCommanded straps s) :=
  .of_untracked rfl

theorem keepsGroups_enterEditing (s : State) : KeepsGroups s (enterEditing s) :=
  .of_untracked (by rw [running, enterEditing_cfg]; rfl)

/-- R105: as RUNNING is entered every present group is unlit and has the values its inputs give. -/
theorem groupLaw_lightToRunning (s : State) : GroupLaw (lightToRunning s) := by
  rw [groupLaw_iff]
  intro _ g hg
  obtain ⟨hlt, hp⟩ := mem_presentGroups.mp hg
  have cleared : (lightCleared s).light.groups.nth g = Group.start := (Tab.nth_fill _ _).trans (if_pos hlt)
  have hx : (lightToRunning s).light.groups.nth g = { formedGroup (lightCleared s) g with waiting := true } := by
    refine (Tab.nth_build _ _).trans ?_
    rw [if_pos hlt]
    exact if_pos hp
  have hs : ((lightToRunning s).light.groups.nth g).stay = ((lightCleared s).light.groups.nth g).stay := by
    rw [hx]
    rfl
  have hl : groupLevel (lightToRunning s) g = groupLevel (lightCleared s) g := groupLevel_congr rfl rfl rfl (by rw [hs])
  have hf : groupFade (lightToRunning s) g = groupFade (lightCleared s) g := groupFade_congr rfl rfl
  refine ⟨by rw [hs, cleared]; exact Nat.zero_le _, ?_⟩
  have hd : (lightToRunning s).cfg = (lightCleared s).cfg := rfl
  simp only [Formed, Group.lit, formedGroup, hl, hf, hd, litOf, hx]

/-- R105, R187: every present group starts afresh from the stack and the zones as the entry leaves them. -/
theorem groupLaw_enterRunning (s : State) : GroupLaw (enterRunning s) := by
  dsimp only [enterRunning]
  refine SameLevels.groupLaw (sameLevels_formSounder _) (SameLevels.groupLaw (.of_does (does_guideToRunning _) rfl) ?_)
  exact SameLevels.groupLaw (.of_does (does_loopsToRunning _) rfl) (groupLaw_lightToRunning _)

theorem keepsGroups_endLoad (source : LoadSource) (s : State) : KeepsGroups s (endLoad source s) := by
  dsimp only [endLoad]
  split
  · exact ⟨fun _ => groupLaw_enterRunning _⟩
  · exact .of_untracked (by rw [running, (loadFallback_cfg _ _).1]; rfl)

end Sys2Proof.Machine
end

section
/-! SUPPORT. A CURVE_WRITE that is taken (R95): the entries of the dimming table, and the wanted values of the groups whose
level lies in the block. -/

namespace Sys2Proof.Machine

/-! ## Tables written from a list; the dimming table -/

/-- A list written into a table from an entry on, one value after another. -/
theorem nth_writeFrom {α β : Type} [Inhabited β] {n : Nat} (f : α → β) (d : α) (base k : Nat) (l : List α) (t : Tab β n)
    (i : Nat) : ((l.zipIdx k).foldl (fun t x => t.put (base + x.2) (f x.1)) t).nth i =
      if base + k ≤ i ∧ i < base + k + l.length ∧ i < n then f (l.getD (i - (base + k)) d) else t.nth i := by
  induction l generalizing t k with
  | nil =>
    rw [if_neg (by simp; omega)]
    rfl
  | cons v vs ih =>
    rw [List.zipIdx_cons, List.foldl_cons, ih, Tab.nth_put]
    by_cases h0 : i = base + k
    · subst h0
      simp
    · have hi : ¬(i = base + k ∧ base + k < n) := fun e => h0 e.1
      have hc : (base + (k + 1) ≤ i ∧ i < base + (k + 1) + vs.length ∧ i < n) ↔
          (base + k ≤ i ∧ i < base + k + (v :: vs).length ∧ i < n) := by
        rw [List.length_cons]
        omega
      rw [if_neg hi]
      by_cases hr : base + k ≤ i ∧ i < base + k + (v :: vs).length ∧ i < n
      · rw [if_pos hr, if_pos (hc.mpr hr), show i - (base + k) = (i - (base + (k + 1))) + 1 by omega, List.getD_cons_succ]
      · rw [if_neg hr, if_neg (hc.not.mpr hr)]

/-- R95: the sixteen entries of a block are replaced, each clamped to 1023, and the others stand. -/
theorem nth_writeOutputs {block : Nat} (hb : block ≤ 15) {outputs : List Nat} (hl : outputs.length = 16)
    (t : Tab Nat 256) (i : Nat) : (writeOutputs block outputs t).nth i =
      if i / 16 = block then min (outputs.getD (i % 16) 0) 1023 else t.nth i := by
  have h := nth_writeFrom (clamp 0 1023) 0 (16 * block) 0 outputs t i
  rw [writeOutputs, h, hl]
  by_cases he : i / 16 = block
  · rw [if_pos he, if_pos (by omega), show i - (16 * block + 0) = i % 16 by omega, clamp, Nat.max_eq_right (Nat.zero_le _),
      Nat.min_comm]
  · rw [if_neg he, if_neg (by omega)]

/-! ## The wanted values -/

/-- R95: the values of a group with its wanted value formed again for the level that it has. -/
def rewant (d : Tab Nat 256) (x : Nat × Nat × Nat × Drive) : Nat × Nat × Nat × Drive :=
  (x.1, x.2.1, x.2.2.1, ⟨d.nth x.2.1, x.2.2.1⟩)

theorem rewantGroup_lit (g h : Nat) (s : State) : litOf (rewantGroup g s) h =
    if h = g ∧ g < 48 then rewant s.cfg.dimming (litOf s g) else litOf s h := by
  rw [rewantGroup, (marks_note (.group g) _ _).lit]
  exact setGroup_lit g h _ s

theorem rewantGroups_lit {gs : List Nat} {s : State} (hg : ∀ g ∈ gs, g < 48) (h : Nat) :
    litOf (gs.foldl (fun u g => rewantGroup g u) s) h =
      if h ∈ gs then rewant s.cfg.dimming (litOf s h) else litOf s h := by
  induction gs generalizing s with
  | nil => simp
  | cons g gs ih =>
    rw [List.foldl_cons, ih fun k hk => hg k (by simp [hk]), rewantGroup_lit, (does_rewantGroup g s).cfg rfl]
    have hg := hg g (by simp)
    by_cases e : h = g
    · subst e
      by_cases hm : h ∈ gs <;> simp [hm, hg, rewant]
    · simp [e]

theorem does_rewantGroups (gs : List Nat) (s : State) :
    Does [.light, .slots] s (gs.foldl (fun u g => rewantGroup g u) s) :=
  .foldl (fun u g => rewantGroup g u) (fun u g => does_rewantGroup g u) gs s

/-- R95: the dimming table with the sixteen entries of a block, before any group is formed again. -/
def curveWritten (block : Nat) (outputs : List Nat) (s : State) : State :=
  { s with cfg := { s.cfg with dimming := writeOutputs block outputs s.cfg.dimming, imageCurrent := false } }

theorem takeCurve_eq (block : Nat) (outputs : List Nat) (s : State) : takeCurve block outputs s =
    (blockGroups (curveWritten block outputs s) block).foldl (fun u g => rewantGroup g u) (curveWritten block outputs s) := rfl

theorem mem_blockGroups {s : State} {block g : Nat} :
    g ∈ blockGroups s block ↔ g ∈ presentGroups s ∧ (s.light.groups.nth g).level / 16 = block := by
  rw [blockGroups, List.mem_filter, beq_iff_eq]

section TakeCurve

variable (block : Nat) (outputs : List Nat) (s : State)

theorem takeCurve_cfg : (takeCurve block outputs s).cfg =
    { s.cfg with dimming := writeOutputs block outputs s.cfg.dimming, imageCurrent := false } :=
  (does_rewantGroups _ _).cfg rfl

/-- What the writing of the dimming table can change: the configuration unit, the wanted values, and the slots. -/
theorem does_takeCurve : Does [.cfg, .light, .slots] s (takeCurve block outputs s) :=
  ((does_cfg s _).mono rfl).trans ((does_rewantGroups _ _).mono rfl)

theorem takeCurve_lit (g : Nat) : litOf (takeCurve block outputs s) g =
    if g ∈ presentGroups s ∧ (s.light.groups.nth g).level / 16 = block
    then rewant (writeOutputs block outputs s.cfg.dimming) (litOf s g) else litOf s g := by
  rw [takeCurve_eq, rewantGroups_lit fun k hk => (mem_presentGroups.mp (mem_blockGroups.mp hk).1).1]
  simp only [mem_blockGroups]
  rfl

end TakeCurve

/-- R95: every present group wants the new output for its level. -/
theorem keepsGroups_takeCurve {block : Nat} (hb : block ≤ 15) {outputs : List Nat} (hl : outputs.length = 16) (s : State) :
    KeepsGroups s (takeCurve block outputs s) where
  law l := by
    have d := does_takeCurve block outputs s
    have hc := takeCurve_cfg block outputs s
    have hi : (takeCurve block outputs s).cfg.inForce = s.cfg.inForce := by rw [hc]
    have stay : ∀ g, ((takeCurve block outputs s).light.groups.nth g).stay = (s.light.groups.nth g).stay := fun g => by
      have e := congrArg Prod.fst (takeCurve_lit block outputs s g)
      split at e <;> exact e
    rw [groupLaw_iff]
    intro hr g hg
    rw [running, hc] at hr
    have hp : g ∈ presentGroups s := by
      simp only [presentGroups, hi] at hg
      exact hg
    obtain ⟨hs, hf⟩ := (groupLaw_iff s).mp l hr g hp
    rw [stay, hi]
    refine ⟨hs, ?_⟩
    have level : groupLevel (takeCurve block outputs s) g = groupLevel s g :=
      groupLevel_congr hi (by rw [d.air rfl]) (by rw [d.ovr rfl]) (by rw [stay])
    have fade : groupFade (takeCurve block outputs s) g = groupFade s g := groupFade_congr hi (by rw [d.air rfl])
    have held : (s.light.groups.nth g).level = groupLevel s g := congrArg (fun x => x.2.1) hf
    rw [Formed, takeCurve_lit, held, hf]
    simp only [formedGroup, Group.lit, stay, level, fade, hc, rewant, hp, true_and]
    split
    · rfl
    · rename_i hn
      rw [nth_writeOutputs hb hl, if_neg hn]

end Sys2Proof.Machine
end

section
/-! SUPPORT. Every command keeps the law of the luminaire groups (R89, R93 to R95). -/

namespace Sys2Proof.Machine

/-! ## Requests -/

theorem keepsGroups_answer (kind : Nat) (r : Result) (fields : List Byte) (s : State) :
    KeepsGroups s (answer kind r fields s) := (KeepsGroups.refl s).answered _ _ _

theorem keepsGroups_arrive (s : State) : KeepsGroups s (arrive s) := by
  refine .after (t := if s.link.resetDue = true then resetCommanded s.link.pins s else s) ?_ {}
  exact .ite (fun _ => keepsGroups_resetCommanded _ s) (fun _ => .refl s)

/-- R195: a request keeps the law when its rule does. -/
theorem keepsGroups_request {α : Type} {kind : Nat} {always : Bool} {r : Req α} {rule : α → State → State} {s : State}
    (h : ∀ x t, KeepsGroups t (rule x t)) : KeepsGroups s (request kind always r rule s) := by
  have k := keepsGroups_arrive s
  refine .ite (fun _ => .refl s) (fun _ => .ite (fun _ => k.answered _ _ _) (fun _ => ?_))
  cases r with
  | misfit => exact k.answered _ _ _
  | fits x => exact k.trans (h x _)

theorem keepsGroups_broadcastIn {α : Type} {r : Req α} {rule : α → State → State} {s : State}
    (h : ∀ x t, SameLevels t (rule x t)) : KeepsGroups s (broadcastIn r rule s) := by
  have k : KeepsGroups s { s with link := { s.link with receiver := .hunting } } := .same {}
  refine .ite (fun _ => .refl s) (fun _ => .ite (fun _ => k) (fun _ => ?_))
  cases r with
  | misfit => exact k
  | fits x => exact k.after (h x _)

theorem keepsGroups_thenFill {α : Type} {rule : α → State → State} (h : ∀ x t, KeepsGroups t (rule x t)) (x : α)
    (s : State) : KeepsGroups s (thenFill rule x s) := (h x s).fill

/-- A rule that one condition of the part refuses. -/
theorem keepsGroups_refusable {kind : Nat} {r : Result} {c : Prop} [Decidable c] {s t : State} (h : KeepsGroups s t) :
    KeepsGroups s (if c then answer kind r [] s else t) := .ite (fun _ => keepsGroups_answer _ _ _ s) (fun _ => h)

theorem keepsGroups_unlessStoring {kind : Nat} {rule : State → State} {s : State} (h : KeepsGroups s (rule s)) :
    KeepsGroups s (unlessStoring kind rule s) := keepsGroups_refusable h

theorem keepsGroups_notInFallback {kind : Nat} {rule : State → State} {s : State} (h : KeepsGroups s (rule s)) :
    KeepsGroups s (notInFallback kind rule s) := keepsGroups_refusable h

theorem keepsGroups_inRunning {kind : Nat} {rule : State → State} {s : State} (h : KeepsGroups s (rule s)) :
    KeepsGroups s (inRunning kind rule s) := .ite (fun _ => h) (fun _ => keepsGroups_answer _ _ _ s)

/-- A request that only reads, with one refusal. -/
theorem keepsGroups_read {kind : Nat} {r q : Result} {x y : List Byte} {c : Prop} [Decidable c] (s : State) :
    KeepsGroups s (if c then answer kind r x s else answer kind q y s) :=
  .ite (fun _ => keepsGroups_answer _ _ _ s) (fun _ => keepsGroups_answer _ _ _ s)

theorem keepsGroups_openConfig (s : State) : KeepsGroups s (openConfig s) := by
  refine keepsGroups_refusable ?_
  split
  · exact (keepsGroups_enterEditing s).answered _ _ _
  · exact (keepsGroups_enterEditing s).answered _ _ _
  · exact keepsGroups_answer _ _ _ s
  · exact keepsGroups_answer _ _ _ s

theorem keepsGroups_closeConfig (s : State) : KeepsGroups s (closeConfig s) := by
  refine .ite (fun _ => ?_) (fun _ => keepsGroups_answer _ _ _ s)
  split
  · exact keepsGroups_answer _ _ _ s
  · exact .answered ⟨fun _ => groupLaw_enterRunning _⟩ _ _ _

theorem keepsGroups_writeConfig (q : Req CfgWrite) (s : State) : KeepsGroups s (writeConfig q s) := by
  refine .ite (fun _ => ?_) (fun _ => keepsGroups_answer _ _ _ s)
  split
  · exact keepsGroups_answer _ _ _ s
  · split
    · exact .answered (.same {}) _ _ _
    · exact keepsGroups_answer _ _ _ s

theorem keepsGroups_readConfig (q : CfgRead) (s : State) : KeepsGroups s (readConfig q s) := by
  dsimp only [readConfig]
  split
  · exact keepsGroups_read s
  · exact keepsGroups_answer _ _ _ s
  · exact keepsGroups_read s

theorem keepsGroups_writeCurve (q : Req (Nat × Option (List Nat))) (s : State) : KeepsGroups s (writeCurve q s) := by
  refine keepsGroups_unlessStoring (keepsGroups_inRunning ?_)
  split
  · exact keepsGroups_answer _ _ _ s
  · refine .ite (fun _ => keepsGroups_answer _ _ _ s) (fun hb => ?_)
    split
    · exact keepsGroups_answer _ _ _ s
    · refine .ite (fun _ => keepsGroups_answer _ _ _ s) (fun hl => ?_)
      exact (keepsGroups_takeCurve (Nat.not_lt.mp hb) (not_not.mp hl) s).answered _ _ _

/-- A binding written leaves the values of the groups and all they are formed from. -/
theorem sameLevels_bindAddress (a b way : Nat) (s : State) : SameLevels s (bindAddress a b way s) := by
  obtain ⟨t, ht, hc, -, h⟩ := does_bindAddress a b way s
  have k : SameLevels s t := .of_cfg ht rfl (by rw [hc]) (by rw [hc]) (by rw [hc])
  exact k.trans (.trans (.of_does (does_bindBay b a t) rfl) (.of_does h rfl))

theorem sameLevels_unbindAddress (a b way : Nat) (s : State) : SameLevels s (unbindAddress a b way s) := by
  obtain ⟨t, ht, hc, h⟩ := does_unbindAddress a b way s
  have k : SameLevels s t := .of_cfg ht rfl (by rw [hc]) (by rw [hc]) (by rw [hc])
  exact k.trans (.trans (.of_does (does_unbindBay b t) rfl) (.of_does h rfl))

theorem keepsGroups_mapChecks (a b : Nat) (s : State) : KeepsGroups s (mapChecks a b s) := by
  refine keepsGroups_refusable ?_
  split
  · exact keepsGroups_read s
  · split
    · exact keepsGroups_answer _ _ _ s
    · refine .ite (fun _ => keepsGroups_answer _ _ _ s) (fun _ => ?_)
      split
      · exact keepsGroups_answer _ _ _ s
      · exact (KeepsGroups.same (sameLevels_bindAddress _ _ _ s)).answered _ _ _

theorem keepsGroups_removeMapping (a : Addr) (s : State) : KeepsGroups s (removeMapping a s) := by
  dsimp only [removeMapping]
  split
  · exact .ite (fun _ => (KeepsGroups.same (sameLevels_unbindAddress _ _ _ s)).answered _ _ _)
      (fun _ => keepsGroups_answer _ _ _ s)
  · exact keepsGroups_answer _ _ _ s

theorem keepsGroups_lookupMapping (a : Addr) (s : State) : KeepsGroups s (lookupMapping a s) := by
  dsimp only [lookupMapping]
  split <;> exact keepsGroups_answer _ _ _ s

theorem keepsGroups_reserveRequest (b time : Nat) (s : State) : KeepsGroups s (reserveRequest b time s) := by
  have h : ∀ n, KeepsGroups s (reserveBay b n s) := fun n => .of_does (does_reserveBay b n s) rfl
  refine keepsGroups_refusable ?_
  split
  · exact (h _).answered _ _ _
  · exact (h _).answered _ _ _
  all_goals exact keepsGroups_answer _ _ _ s

theorem keepsGroups_releaseRequest (b : Nat) (s : State) : KeepsGroups s (releaseRequest b s) :=
  keepsGroups_refusable (.ite (fun _ => .answered (.of_does (does_cancelReservation b s) rfl) _ _ _)
    (fun _ => keepsGroups_answer _ _ _ s))

/-- A closure written, with the bay's state derived again. -/
theorem sameLevels_setClosure_rederive (b : Nat) (c : Bool) (s : State) : SameLevels s (rederive b (setClosure b c s)) :=
  .trans {} (.of_does (does_rederive b _) rfl)

theorem sameLevels_closeBay (b : Nat) (s : State) : SameLevels s (closeBay b s) := by
  have h : SameLevels s (if isReserved (bayOf s b).admin then post (.reservationEnd b .cancelled) s else s) :=
    .ite (fun _ => .of_does (does_post _ s) rfl) (fun _ => .refl s)
  exact (h.trans (.of_does (does_setBay _ b _) rfl)).trans (sameLevels_setClosure_rederive b true _)

theorem sameLevels_openBay (b : Nat) (s : State) : SameLevels s (openBay b s) :=
  .trans (.of_does (does_setBay s b _) rfl) (sameLevels_setClosure_rederive b false _)

theorem keepsGroups_closeRequest (b : Nat) (s : State) : KeepsGroups s (closeRequest b s) :=
  keepsGroups_refusable (keepsGroups_refusable (.answered (.same (sameLevels_closeBay b s)) _ _ _))

theorem keepsGroups_openRequest (b : Nat) (s : State) : KeepsGroups s (openRequest b s) :=
  keepsGroups_refusable (.ite (fun _ => .answered (.same (sameLevels_openBay b s)) _ _ _)
    (fun _ => keepsGroups_answer _ _ _ s))

theorem keepsGroups_clearFan (n : Nat) (s : State) : KeepsGroups s (clearFan n s) :=
  keepsGroups_refusable (.ite (fun _ => .answered (.of_does (does_takeChannel n _ s) rfl) _ _ _)
    (fun _ => keepsGroups_answer _ _ _ s))

theorem keepsGroups_levelCountsRule (q : Req (List (Nat × Nat))) (s : State) : KeepsGroups s (levelCountsRule q s) := by
  refine keepsGroups_inRunning ?_
  split
  · exact keepsGroups_answer _ _ _ s
  · refine keepsGroups_refusable ?_
    exact .ite (fun _ => .answered (.of_does (does_writeLevels _ s) rfl) _ _ _) (fun _ => keepsGroups_answer _ _ _ s)

theorem sameLevels_levelCountsBroadcast (items : List (Nat × Nat)) (s : State) :
    SameLevels s (levelCountsBroadcast items s) :=
  .ite (fun _ => .of_does (does_writeLevels items s) rfl) (fun _ => .refl s)

theorem keepsGroups_pushRule (q : PushReq) (s : State) : KeepsGroups s (pushRule q s) := by
  dsimp only [pushRule]
  split
  · exact keepsGroups_answer _ _ _ s
  · exact keepsGroups_refusable (keepsGroups_refusable ((keepsGroups_pushEntry _ s).answered _ _ _))

theorem keepsGroups_popRule (s : State) : KeepsGroups s (popRule s) := by
  dsimp only [popRule]
  split
  · exact keepsGroups_answer _ _ _ s
  · exact (keepsGroups_removeEntries _ s).answered _ _ _

theorem keepsGroups_removeRule (id : Nat) (s : State) : KeepsGroups s (removeRule id s) := by
  dsimp only [removeRule]
  split
  · exact keepsGroups_answer _ _ _ s
  · exact .ite (fun _ => (keepsGroups_removeEntries _ s).answered _ _ _) (fun _ => keepsGroups_answer _ _ _ s)

/-! ## Frames and events -/

/-- An event that, when it is due, keeps the law. -/
theorem keepsGroups_event {c : Prop} [Decidable c] {s u : State} (h : KeepsGroups s u) :
    KeepsGroups s (if c then u else s) := .ite (fun _ => h) (fun _ => .refl s)

/-- The same, with the slots filled after it. -/
theorem keepsGroups_eventFill {c : Prop} [Decidable c] {s u : State} (h : KeepsGroups s u) :
    KeepsGroups s (if c then fillSlots u else s) := keepsGroups_event h.fill

/-- An event that the part does not take in one condition. -/
theorem keepsGroups_unless {c : Prop} [Decidable c] {s u : State} (h : KeepsGroups s u) :
    KeepsGroups s (if c then s else u) := .ite (fun _ => .refl s) (fun _ => h)

theorem keepsGroups_deliver {a : Addr} {effect : State → State} {s : State} (h : KeepsGroups s (effect s)) :
    KeepsGroups s (deliver a effect s) := keepsGroups_eventFill h

theorem keepsGroups_endAttempt {effect : Nat → Slot → State → State} (h : ∀ i x s, SameLevels s (effect i x s))
    (s : State) : KeepsGroups s (endAttempt effect s) := by
  dsimp only [endAttempt]
  split
  · exact keepsGroups_eventFill (.same (h _ _ s))
  · exact .refl s

theorem sameLevels_receiverTo (r : Receiver) (s : State) : SameLevels s (receiverTo r s) :=
  .ite (fun _ => .refl s) (fun _ => {})

theorem sameLevels_endWarmup (n : Nat) (raw : BitVec 10) (s : State) : SameLevels s (endWarmup n raw s) :=
  .ite (fun _ => .ite (fun _ => sameLevels_takeSensorState n _ s) (fun _ => {})) (fun _ => .refl s)

theorem advanceRing_state (x : ZoneAir) : (advanceRing x).state = x.state := by
  rw [advanceRing_eq]

/-! ## Every command -/

/-- A command that answers a next state keeps the law of the groups. -/
def OutKeepsGroups (s : State) (o : Out) : Prop := ∀ t, o = .next t → KeepsGroups s t

namespace OutKeepsGroups

variable {s u : State}

theorem next (k : KeepsGroups s u) : OutKeepsGroups s (.next u) := fun t h => by
  rw [← Host.Outcome.next.inj h]
  exact k

theorem within {i n : Nat} (k : KeepsGroups s u) : OutKeepsGroups s (Machine.within i n u) := by
  unfold Machine.within
  split
  · exact next k
  · exact fun t h => absurd h (by simp)

end OutKeepsGroups

theorem keepsGroups_exec (i : Instr) (s : State) : OutKeepsGroups s (exec i s) := by
  cases i with
  | powerOnReset straps => exact .next (.of_untracked rfl)
  | commandedReset straps => exact .next (keepsGroups_event (keepsGroups_resetCommanded straps s))
  | loadEnd source => exact .next (keepsGroups_eventFill (keepsGroups_endLoad source s))
  | t32Tap loops keys order => exact .next (.fill (.foldl _ (keepsGroups_runT32 loops keys) _ s))
  | t4Tap rdy order => exact .next (.fill (.foldl _ (keepsGroups_runT4 rdy) _ s))
  | t1Tap ain order => exact .next (.fill (.foldl _ (keepsGroups_runT1 ain) _ s))
  | correctionWindow => exact .next (keepsGroups_event (.same {}))
  | warmupEnd slot raw => exact .within (.same (sameLevels_endWarmup slot raw s))
  | sensorSilent slot => exact .within (keepsGroups_event (.same (sameLevels_takeSensorState slot _ s)))
  | doseRingAdvance zone =>
    exact .within (keepsGroups_event (.same (sameLevels_setZoneAir (advanceRing_state _))))
  | creditDecay zone => exact .within (keepsGroups_event (.same sameLevels_setZoneAir))
  | alarmHoldEnd zone => exact .within (keepsGroups_event (.same sameLevels_setZoneAir))
  | bayState a d x => exact .next (keepsGroups_deliver (keepsGroups_takeBayState a d x s))
  | gasValue a g => exact .next (keepsGroups_deliver (keepsGroups_takeGasValue a g s))
  | pedPresence a p => exact .next (keepsGroups_deliver (keepsGroups_takePed a p s))
  | lumState a x => exact .next (keepsGroups_deliver (keepsGroups_takeLumState a x s))
  | signState a x => exact .next (keepsGroups_deliver (keepsGroups_takeSignState a x s))
  | announce a type => exact .next (keepsGroups_deliver (keepsGroups_takeAnnounce a type s))
  | fieldFrameDiscarded why =>
    cases why with
    | malformed => exact .next (keepsGroups_event (.same {}))
    | sentKind | unknownKind | notDevice => exact .next (.refl s)
  | settleExpiry bay => exact .within (keepsGroups_eventFill (keepsGroups_settleTap bay s))
  | silenceScan => exact .next (keepsGroups_eventFill (.of_does (does_scanTap s) rfl))
  | reservationExpiry bay => exact .within (keepsGroups_eventFill (.of_does (does_reservationTap bay s) rfl))
  | stayLitEnd g => exact .within (keepsGroups_eventFill (keepsGroups_stayTap g s))
  | pathStep p => exact .within (keepsGroups_eventFill (keepsGroups_pathTap p s))
  | lightResend => exact .next (keepsGroups_eventFill (.same (sameLevels_lightResendTap s)))
  | readyTimeout n => exact .within (keepsGroups_eventFill (.of_does (does_fanTap n false s) rfl))
  | readyLoss n => exact .within (keepsGroups_eventFill (.of_does (does_fanTap n false s) rfl))
  | coastEnd n => exact .within (keepsGroups_event (.same {}))
  | loopOccupied i => exact .within (keepsGroups_eventFill (keepsGroups_loopTapActive i s))
  | loopRelease i => exact .within (keepsGroups_unless (keepsGroups_releaseLoop i s).fill)
  | loopStuck i => exact .within (keepsGroups_eventFill (keepsGroups_occupiedTap i s))
  | sequenceTimeout p => exact .within (keepsGroups_event (.same {}))
  | rotationAdvance => exact .next (keepsGroups_eventFill (.of_does (does_rotationTap s) rfl))
  | guidanceResend => exact .next (keepsGroups_eventFill (.of_does (does_guideResendTap s) rfl))
  | levelStale v => exact .within (keepsGroups_eventFill (.of_does (does_levelTap v s) rfl))
  | overrideExpiry =>
    refine .next (keepsGroups_unless (.fill (keepsGroups_expireMapped ?_ ?_ ?_ s))) <;> intro e <;> split <;> rfl
  | inputActive k => exact .within (keepsGroups_eventFill (keepsGroups_keyTapActive k s))
  | inputRelease k => exact .within (keepsGroups_unless (keepsGroups_keyRelease k s).fill)
  | frameOffer =>
    refine .next (keepsGroups_event ?_)
    split
    · exact .same (sameLevels_putSlot _ _ s)
    · exact .refl s
  | arbitrationLost => exact .next (keepsGroups_endAttempt (fun i x s => .of_does (does_arbitrationLoses i x s) rfl) s)
  | attemptSuccess => exact .next (keepsGroups_endAttempt sameLevels_attemptSucceeds s)
  | attemptFailed => exact .next (keepsGroups_endAttempt sameLevels_attemptFails s)
  | busOffRecovery => exact .next (keepsGroups_eventFill (.of_does (does_recoverBus s) rfl))
  | storePageDone =>
    refine .next ?_
    split
    · exact keepsGroups_event (.same {})
    · exact .refl s
  | storeReadbackDone agrees =>
    refine .next ?_
    split
    · exact keepsGroups_event (.ite (fun _ => .same {}) (fun _ => .same {}))
    · exact .refl s
  | storePageTimeout =>
    refine .next ?_
    split
    · exact keepsGroups_event (.same {})
    · exact .refl s
  | frameSync | frameGapTimeout | frameCrcMismatch => exact .next (.same (sameLevels_receiverTo _ s))
  | frameIgnored a k => exact .next (keepsGroups_event (.same (sameLevels_receiverTo _ s)))
  | frameLenAbandoned len => exact .next (keepsGroups_event (.same (sameLevels_receiverTo _ s)))
  | unknownKind k => exact .next (keepsGroups_unless ((keepsGroups_arrive s).answered _ _ _))
  | replyStart =>
    refine .next (keepsGroups_unless ?_)
    split
    · exact .same {}
    · exact .refl s
  | replyEnd => exact .next (keepsGroups_event (.same {}))
  | identify r | getStatus r | getClock r | listUnknown r | readLoops r | overrideList r =>
    exact .next (keepsGroups_request fun _ t => keepsGroups_answer _ _ _ t)
  | reset r | clearUnknown r | fetchNotices r | noticeClasses r => exact .next (keepsGroups_request fun _ t => .same {})
  | curveRead r | mapReadSet r | readBays r | readSensor r | readFan r | readGroup r | readSign r =>
    exact .next (keepsGroups_request fun _ t => keepsGroups_read t)
  | setClock broadcast r =>
    exact .next (.ite (fun _ => keepsGroups_broadcastIn fun _ t => {}) (fun _ => keepsGroups_request fun _ t => .same {}))
  | configOpen r => exact .next (keepsGroups_request (keepsGroups_thenFill fun _ t => keepsGroups_openConfig t))
  | configWrite r => exact .next (keepsGroups_request keepsGroups_writeConfig)
  | configRead r => exact .next (keepsGroups_request keepsGroups_readConfig)
  | configClose r => exact .next (keepsGroups_request (keepsGroups_thenFill fun _ t => keepsGroups_closeConfig t))
  | configStore r =>
    exact .next (keepsGroups_request fun id t =>
      keepsGroups_unlessStoring (keepsGroups_inRunning (.answered (.same {}) _ _ _)))
  | curveWrite r => exact .next (keepsGroups_request (keepsGroups_thenFill keepsGroups_writeCurve))
  | mapWrite r =>
    exact .next (keepsGroups_request (keepsGroups_thenFill fun x t =>
      keepsGroups_unlessStoring (keepsGroups_notInFallback (keepsGroups_mapChecks x.1 x.2 t))))
  | mapRemove r =>
    exact .next (keepsGroups_request (keepsGroups_thenFill fun a t =>
      keepsGroups_unlessStoring (keepsGroups_notInFallback (keepsGroups_removeMapping a t))))
  | mapLookup r => exact .next (keepsGroups_request keepsGroups_lookupMapping)
  | readZone r =>
    exact .next (keepsGroups_request fun z t => keepsGroups_refusable (keepsGroups_inRunning (keepsGroups_answer _ _ _ t)))
  | bayReserve r =>
    exact .next (keepsGroups_request (keepsGroups_thenFill fun x t =>
      keepsGroups_inRunning (keepsGroups_reserveRequest x.1 x.2 t)))
  | bayRelease r =>
    exact .next (keepsGroups_request (keepsGroups_thenFill fun b t => keepsGroups_inRunning (keepsGroups_releaseRequest b t)))
  | bayClose r =>
    exact .next (keepsGroups_request (keepsGroups_thenFill fun b t =>
      keepsGroups_unlessStoring (keepsGroups_inRunning (keepsGroups_closeRequest b t))))
  | bayOpen r =>
    exact .next (keepsGroups_request (keepsGroups_thenFill fun b t =>
      keepsGroups_unlessStoring (keepsGroups_inRunning (keepsGroups_openRequest b t))))
  | fanClear r => exact .next (keepsGroups_request (keepsGroups_thenFill keepsGroups_clearFan))
  | levelCounts broadcast r =>
    exact .next (.ite (fun _ => keepsGroups_broadcastIn fun x t => (sameLevels_levelCountsBroadcast x t).trans
        (sameLevels_fillSlots _))
      (fun _ => keepsGroups_request (keepsGroups_thenFill keepsGroups_levelCountsRule)))
  | overridePush r => exact .next (keepsGroups_request (keepsGroups_thenFill keepsGroups_pushRule))
  | overridePop r => exact .next (keepsGroups_request (keepsGroups_thenFill fun _ t => keepsGroups_popRule t))
  | overrideRemove r => exact .next (keepsGroups_request (keepsGroups_thenFill keepsGroups_removeRule))
  | pwmPeriodStart => exact .next (.same {})

/-- Every step keeps the law of the groups. -/
theorem keepsGroups_step {s t : State} (h : step s = .next t) : KeepsGroups s t := by
  unfold step at h
  split at h
  · rw [← Host.Outcome.next.inj h]
    exact .same {}
  · rename_i c rest _
    exact .trans (t := { s with pending := rest }) (.same {}) (keepsGroups_exec c _ t h)

/-- Settles O58: every command keeps the law of the groups. A stay-lit time that begins or ends, an air state that changes,
a stack that is announced and an entry to RUNNING form the groups again that look at them; a dimming table that is written
has the groups of its block want anew; all else leaves the values and what they are formed from. -/
theorem groupsFollowTheirInputs : Obligations.GroupsFollowTheirInputs := fun _ _ l h => (keepsGroups_step h).law l

end Sys2Proof.Machine
end

section
/-! SUPPORT. The events of the lighting controller (R92, R98): a stay-lit time that ends, and a path whose countdown ends. -/

namespace Sys2Proof.Machine

/-! ## A stay-lit time that ends (R92) -/

theorem stayTap_last {g : Nat} {s : State} (h : (s.light.groups.nth g).stay = 1) :
    stayTap g s = formGroup g (setStay g 0 s) := by
  simp [stayTap, h, setStay]

theorem formGroup_other {g h : Nat} (n : h ≠ g) (s : State) :
    ((formGroup g s).light.groups.nth h).bare = (s.light.groups.nth h).bare := by
  rw [formGroup, (marks_note _ _ _).group, setGroup_other n]

/-- R92 to R94: group `g` is unlit with the values its inputs give, and the other groups stand. -/
theorem stayEnds {g : Nat} {s t : State} (hg : g < 48) (h : (s.light.groups.nth g).stay = 1)
    (ht : SameLevels (stayTap g s) t) : (t.light.groups.nth g).stay = 0 ∧ Formed t g := by
  rw [stayTap_last h] at ht
  refine ⟨?_, (ht.formed g).mpr (formed_formGroup (.inl ⟨rfl, hg⟩))⟩
  rw [ht.stay, formGroup_stay, setStay_stay, if_pos ⟨rfl, hg⟩]

/-! ## A path whose countdown ends (R98) -/

/-- R98: where a path stands after its group `front`. -/
def pathNext (r : PathRec) (front : Nat) : PathRun :=
  if front + 1 < r.groups.length then .running (front + 1) r.step else .idle

/-- R98: the front group of a path is triggered, if the path has one. -/
def triggerFront (r : PathRec) (front : Nat) (s : State) : State :=
  match r.groups[front]? with
  | some g => trigger g s
  | none => s

theorem pathTap_due {p front : Nat} {s : State} (hp : p < 4) (h : s.light.paths.nth p = .running front 1) :
    pathTap p s = setPath p (pathNext (s.cfg.inForce.paths.nth p) front)
      (triggerFront (s.cfg.inForce.paths.nth p) front (setPath p (.running front 0) s)) := by
  have hz : (setPath p (.running front 0) s).light.paths.nth p = .running front 0 := Tab.nth_put_self _ _ hp
  simp only [pathTap, h, pathFire, Nat.sub_self, hz]
  rfl

theorem triggerFront_paths (r : PathRec) (front : Nat) (s : State) :
    (triggerFront r front s).light.paths = s.light.paths := by
  unfold triggerFront
  split
  · exact trigger_paths _ s
  · rfl

/-- R89, R98: the front group of the path is lit when it is present, and every other group keeps its stay-lit time. -/
theorem triggerFront_stay {s : State} (hr : running s = true) (r : PathRec) (front g : Nat) :
    ((triggerFront r front s).light.groups.nth g).stay =
      if r.groups[front]? = some g ∧ g ∈ presentGroups s then (s.cfg.inForce.groups.nth g).stayLit
      else (s.light.groups.nth g).stay := by
  unfold triggerFront
  split
  · rename_i k hk
    simp only [trigger_stay_any hr, hk, Option.some.injEq, mem_presentGroups]
    by_cases e : g = k
    · subst e
      simp
    · simp [e, Ne.symm e]
  · rename_i hk
    simp [hk]

/-- Settles O25: the tap that ends a stay-lit time forms its group from the unlit state, and the tap that ends a countdown
triggers the front group between the two writings of the path; the filling of the slots leaves both. -/
theorem stayLitAndPathsEnd : Obligations.StayLitAndPathsEnd := by
  intro s hr
  refine ⟨fun g hg h => ?_, fun p front hp h => ?_⟩
  · obtain ⟨hlt, hpr⟩ := mem_presentGroups.mp hg
    have d := (((does_stayTap g s).mono (bs := [.light, .guide, .slots]) rfl)).trans ((does_fillSlots _).mono rfl)
    obtain ⟨stay, formed⟩ := stayEnds hlt h (sameLevels_fillSlots _)
    have fade : groupFade (fillSlots (stayTap g s)) g = groupFade s g :=
      groupFade_congr (by rw [d.cfg rfl]) (by rw [d.air rfl])
    refine ⟨_, (within_of_lt hlt _).trans (congrArg _ (if_pos ⟨hr, hpr, h⟩)), d.frame, stay, ?_, ?_, fun k n => ?_⟩
    · exact congrArg (fun x => x.2.1) formed
    · rw [← fade, ← d.cfg rfl]
      exact congrArg (fun x => x.2.2.2) formed
    · change ((fillSlots (stayTap g s)).light.groups.nth k).bare = _
      rw [(marks_fillSlots _).group, stayTap_last h, formGroup_other n, setStay, setGroup_other n]
      rfl
  · have due : pathDue s p = true := by simp [pathDue, hr, h]
    have m := marks_fillSlots (pathTap p s)
    have d := (((does_pathTap p s).mono (bs := [.light, .guide, .slots]) rfl)).trans ((does_fillSlots _).mono rfl)
    refine ⟨_, (within_of_lt hp _).trans (congrArg _ (if_pos due)), d.frame, ?_, fun q n => ?_, fun g => ?_⟩
    · rw [m.paths, pathTap_due hp h]
      exact Tab.nth_put_self _ _ hp
    · rw [m.paths, pathTap_due hp h, setPath_light]
      refine (Tab.nth_put_ne _ _ n).trans ?_
      rw [triggerFront_paths]
      exact Tab.nth_put_ne _ _ n
    · rw [m.stay, pathTap_due hp h]
      exact triggerFront_stay (s := setPath p (.running front 0) s) hr _ front g

end Sys2Proof.Machine
end

section
/-! SUPPORT. The periodic resends (R99, R103, R123, R132, R136): whatever a round of marks names is on its way. -/

namespace Sys2Proof.Machine

/-! ## Rounds of marks -/

/-- R164: the key of a destination looks at the configuration and at the detector addresses of the bays. -/
theorem destKey_of_does {bs : List Block} {s t : State} (h : Does bs s t) (c : bs.contains .cfg = false)
    (o : bs.contains .occ = false) (d : Dest) : destKey t d = destKey s d := by
  cases d <;> simp only [destKey, h.cfg c, h.occ o]

theorem destKey_note (d e : Dest) (mark : Bool) (s : State) : destKey (note d mark s) e = destKey s e :=
  destKey_of_does (does_note d mark s) (by cases d <;> rfl) (by cases d <;> rfl) e

section Rounds

variable {α : Type} (f : α → Dest)

/-- A round of marks: the destinations of a list are marked waiting, one after another. -/
def markAll (l : List α) (s : State) : State := l.foldl (fun t x => note (f x) true t) s

theorem marks_markAll (l : List α) (s : State) : MarksOnly s (markAll f l s) :=
  .foldl _ (fun t x => marks_note (f x) true t) l s

/-- R166: a round of marks takes no value off its way. -/
theorem onItsWay.markAll {e : Dest} {s : State} (w : onItsWay s e) (l : List α) : onItsWay (markAll f l s) e := by
  induction l generalizing s with
  | nil => exact w
  | cons x l ih => exact ih (w.note _ _)

/-- R166: after a round of marks every destination of the list that has a key is on its way. -/
theorem onItsWay_markAll {l : List α} {s : State} {x : α} (hx : x ∈ l) (he : (f x).exists) (hk : destKey s (f x) ≠ none) :
    onItsWay (markAll f l s) (f x) := by
  induction l generalizing s with
  | nil => simp at hx
  | cons y l ih =>
    rcases List.mem_cons.mp hx with rfl | hx
    · exact (onItsWay_note he hk).markAll f l
    · exact ih hx (by rwa [destKey_note])

end Rounds

/-! ## Lighting (R99, R103) -/

/-- The round of R99. -/
theorem markAllGroups_eq (s : State) : markAllGroups s = markAll Dest.group (presentGroups s) s := rfl

theorem marks_resendLight (s : State) : MarksOnly s (resendLight s) := by
  unfold resendLight
  split
  · rw [markAllGroups_eq]
    exact marks_markAll _ _ s
  · exact marks_note _ _ s

/-- The resend counter of lighting come round. -/
def lightRound (s : State) : State := { s with light := { s.light with resend := 0 } }

theorem lightResendTap_round {s : State} (h : s.light.resend = 63) : lightResendTap s = resendLight (lightRound s) := by
  simp [lightResendTap, h, lightRound]

theorem resendLight_groups {s : State} (hr : running s = true) {g : Nat} (hg : g ∈ presentGroups s) :
    onItsWay (resendLight s) (.group g) := by
  rw [resendLight, if_pos hr, markAllGroups_eq]
  exact onItsWay_markAll Dest.group hg (mem_presentGroups.mp hg).1 (Option.some_ne_none _)

theorem resendLight_broadcast {s : State} (hr : running s = false) : onItsWay (resendLight s) .groupAll := by
  rw [resendLight, if_neg (by simp [hr])]
  exact onItsWay_note (d := .groupAll) trivial (Option.some_ne_none _)

/-! ## Guidance (R123, R132, R136) -/

theorem lt_of_mem_allFaces {s : State} {x : Nat × Nat} (h : x ∈ allFaces s) : x.1 < 24 ∧ x.2 < 4 := by
  obtain ⟨hi, hf⟩ := mem_allFaces.mp h
  exact ⟨List.mem_range.mp (List.mem_filter.mp hi).1, presentFaces_lt hf⟩

/-- The mapped bays. -/
def mappedBays (s : State) : List Nat := (List.range 512).filter (fun b => (s.occ.bays.nth b).detector.isSome)

/-- The two rounds of R123 and R132. -/
theorem markAllGuidance_eq (s : State) : markAllGuidance s =
    markAll Dest.lamp (mappedBays (markAll (fun x : Nat × Nat => .face x.1 x.2) (allFaces s) s))
      (markAll (fun x : Nat × Nat => .face x.1 x.2) (allFaces s) s) := rfl

theorem marks_resendGuidance (s : State) : MarksOnly s (resendGuidance s) := by
  unfold resendGuidance
  split
  · rw [markAllGuidance_eq]
    exact (marks_markAll _ _ s).trans (marks_markAll _ _ _)
  · exact (marks_note .lampAll true s).trans (marks_note .faceAll true _)

/-- The resend counter of guidance come round. -/
def guideRound (s : State) : State := { s with guide := { s.guide with resend := 0 } }

theorem guideResendTap_round {s : State} (h : s.guide.resend = 63) : guideResendTap s = resendGuidance (guideRound s) := by
  simp [guideResendTap, h, guideRound]

theorem resendGuidance_faces {s : State} (hr : running s = true) {x : Nat × Nat} (hx : x ∈ allFaces s) :
    onItsWay (resendGuidance s) (.face x.1 x.2) := by
  rw [resendGuidance, if_pos hr, markAllGuidance_eq]
  refine onItsWay.markAll _ ?_ _
  exact onItsWay_markAll (fun x : Nat × Nat => .face x.1 x.2) hx (lt_of_mem_allFaces hx) (Option.some_ne_none _)

theorem resendGuidance_lamps {s : State} (hr : running s = true) {b : Nat} (hb : b < 512)
    (h : (bayOf s b).detector ≠ none) : onItsWay (resendGuidance s) (.lamp b) := by
  rw [resendGuidance, if_pos hr, markAllGuidance_eq]
  have ho : (markAll (fun x : Nat × Nat => Dest.face x.1 x.2) (allFaces s) s).occ = s.occ :=
    (Does.foldl (fun t (x : Nat × Nat) => markFace x.1 x.2 t) (fun t x => does_markFace x.1 x.2 t) _ s).occ rfl
  have hm : (s.occ.bays.nth b).detector.isSome = true := Option.isSome_iff_ne_none.mpr h
  refine onItsWay_markAll Dest.lamp (List.mem_filter.mpr ⟨List.mem_range.mpr hb, by rw [ho]; exact hm⟩) hb ?_
  simp only [destKey, ho, ne_eq, Option.map_eq_none_iff]
  exact h

theorem resendGuidance_broadcasts {s : State} (hr : running s = false) :
    onItsWay (resendGuidance s) .faceAll ∧ onItsWay (resendGuidance s) .lampAll := by
  rw [resendGuidance, if_neg (by simp [hr])]
  have h : onItsWay (note .lampAll true s) .lampAll :=
    onItsWay_note (d := .lampAll) trivial (Option.some_ne_none _)
  exact ⟨onItsWay_note (d := .faceAll) trivial (Option.some_ne_none _), h.note _ _⟩

/-- Settles O26: at the tap at which a counter comes round each controller runs its round of marks, and what a mark puts on
its way stays there through the marks that follow and the filling of the slots. -/
theorem resendsSendEverythingAgain : Obligations.ResendsSendEverythingAgain := by
  intro s hl
  refine ⟨fun h => ?_, fun h => ?_⟩
  · have m := (marks_resendLight (lightRound s)).trans (marks_fillSlots _)
    have d := ((does_lightResendTap s).mono (bs := [.light, .guide, .slots]) rfl).trans ((does_fillSlots _).mono rfl)
    refine ⟨fillSlots (lightResendTap s), congrArg _ (if_pos ⟨hl, h⟩), d.frame, ?_⟩
    rw [lightResendTap_round h]
    exact ⟨m.lightResend, m.group, fun hr g hg => (resendLight_groups (s := lightRound s) hr hg).fillSlots,
      fun hr => (resendLight_broadcast (s := lightRound s) hr).fillSlots⟩
  · have m := (marks_resendGuidance (guideRound s)).trans (marks_fillSlots _)
    have d := ((does_guideResendTap s).mono (bs := [.light, .guide, .slots]) rfl).trans ((does_fillSlots _).mono rfl)
    refine ⟨fillSlots (guideResendTap s), congrArg _ (if_pos ⟨hl, h⟩), d.frame, ?_⟩
    rw [guideResendTap_round h]
    refine ⟨m.guideResend, m.status, fun hr => ⟨fun x hx => ?_, fun b hb k => ?_⟩, fun hr => ?_⟩
    · exact (resendGuidance_faces (s := guideRound s) hr hx).fillSlots
    · exact (resendGuidance_lamps (s := guideRound s) hr hb k).fillSlots
    · exact (resendGuidance_broadcasts (s := guideRound s) hr).imp onItsWay.fillSlots onItsWay.fillSlots

end Sys2Proof.Machine
end

section
/-! SUPPORT. The checks that every request meets before its own rule (R95, R134, R185, R195, R196). -/

namespace Sys2Proof.Machine

/-! ## The part as a request finds it -/

/-- R196: the part before a request: a reset that is due is carried out first. -/
def beforeRequest (s : State) : State := if s.link.resetDue = true then resetCommanded s.link.pins s else s

theorem answer_arrive (kind : Nat) (r : Result) (fields : List Byte) (s : State) :
    answer kind r fields (arrive s) = repliedOnly (beforeRequest s) kind r fields := rfl

theorem beforeRequest_due {s : State} (h : s.link.resetDue = true) : beforeRequest s = resetCommanded s.link.pins s := if_pos h

theorem beforeRequest_calm {s : State} (h : s.link.resetDue = false) : beforeRequest s = s := if_neg (by simp [h])

section Checks

variable {α : Type} {kind : Nat} {always : Bool} {rule : α → State → State} {r : Req α} {s : State}

/-- R195, R196: a request that finds the part in LOADING, before or after a due reset, is BUSY. -/
theorem request_busy (hde : s.link.de = false) (hl : loading (beforeRequest s) = true) :
    request kind false r rule s = repliedOnly (beforeRequest s) kind .busy [] := by
  have h : loading (arrive s) = true := hl
  simp only [request, hde, h, ← answer_arrive]
  rfl

/-- R195: a body that does not fit, where LOADING does not refuse the request. -/
theorem request_misfit (hde : s.link.de = false) (hl : always = true ∨ loading (beforeRequest s) = false) :
    request kind always (.misfit : Req α) rule s = repliedOnly (beforeRequest s) kind .badLength [] := by
  have h : (loading (arrive s) && !always) = false := by
    rcases hl with rfl | hl
    · simp
    · rw [show loading (arrive s) = false from hl, Bool.false_and]
  simp only [request, hde, h, ← answer_arrive]
  rfl

/-- R191, R196: IDENTIFY and GET_STATUS are taken in every configuration state. -/
theorem request_always {x : α} (hde : s.link.de = false) : request kind true (.fits x) rule s = rule x (arrive s) := by
  simp [request, hde]

end Checks

/-! ## Every request is one -/

/-- R195: a request other than IDENTIFY and GET_STATUS runs under the common checks, with its own kind code. -/
theorem exec_request {c : Instr} {k : Nat} (h : requestCode c = some k) (h1 : k ≠ 0x01) (h2 : k ≠ 0x02) :
    ∃ (α : Type) (r : Req α) (rule : α → State → State), ∀ s, exec c s = .next (request k false r rule s) := by
  cases c with
  | identify r | getStatus r =>
    obtain rfl := Option.some.inj h
    contradiction
  | setClock broadcast r =>
    cases broadcast with
    | true => contradiction
    | false =>
      obtain rfl := Option.some.inj h
      exact ⟨_, r, setClockRule, fun _ => rfl⟩
  | levelCounts broadcast r =>
    cases broadcast with
    | true => contradiction
    | false =>
      obtain rfl := Option.some.inj h
      exact ⟨_, .fits r, thenFill levelCountsRule, fun _ => rfl⟩
  | reset r | getClock r | configOpen r | configWrite r | configRead r | configClose r | configStore r | curveWrite r
  | curveRead r | mapWrite r | mapRemove r | mapLookup r | mapReadSet r | listUnknown r | clearUnknown r | readZone r
  | readBays r | readSensor r | readFan r | readGroup r | readSign r | readLoops r | bayReserve r | bayRelease r
  | bayClose r | bayOpen r | fanClear r | overridePush r | overridePop r | overrideRemove r | overrideList r
  | fetchNotices r | noticeClasses r =>
    obtain rfl := Option.some.inj h
    exact ⟨_, _, _, fun _ => rfl⟩
  | _ => contradiction

/-- R195: the requests that look at the form of their body first. -/
theorem exec_misfit {c : Instr} {k : Nat} (h : requestCode c = some k) (m : misfitFirst c) :
    ∃ (α : Type) (always : Bool) (rule : α → State → State),
      ∀ s, exec c s = .next (request k always (.misfit : Req α) rule s) := by
  by_cases hc : c = .setClock false .misfit
  · subst hc
    obtain rfl := Option.some.inj h
    exact ⟨_, false, setClockRule, fun _ => rfl⟩
  simp only [misfitFirst, hc, false_or] at m
  rcases m with rfl | rfl | rfl | rfl | rfl | rfl | rfl | rfl | rfl | rfl | rfl | rfl | rfl | rfl | rfl | rfl | rfl
    | rfl | rfl | rfl | rfl | rfl | rfl | rfl | rfl | rfl | rfl | rfl | rfl | rfl | rfl | rfl | rfl <;>
  · obtain rfl := Option.some.inj h
    exact ⟨_, _, _, fun _ => rfl⟩

/-! ## The requests that ask for a state before the form of their body -/

theorem writeConfig_misfit (s : State) : writeConfig .misfit s =
    answer 0x11 (if s.cfg.state = .editing then .badLength else .badState) [] s := by
  unfold writeConfig
  split <;> rfl

theorem writeCurve_misfit (s : State) : writeCurve .misfit s =
    answer 0x15 (if storing s = true then .busy else if running s = true then .badLength else .badState) [] s := by
  unfold writeCurve unlessStoring inRunning
  split
  · rfl
  · split <;> rfl

theorem levelCountsRule_misfit (s : State) : levelCountsRule .misfit s =
    answer 0x45 (if running s = true then .badLength else .badState) [] s := by
  unfold levelCountsRule inRunning
  split <;> rfl

/-- Settles O37: LOADING and the form of the body are checked for all requests alike, on the part as a due reset leaves it;
the three that look at the configuration state first do so in their rules. -/
theorem requestsMeetTheCommonChecks : Obligations.RequestsMeetTheCommonChecks := by
  intro s hde
  refine ⟨fun c k hk => ⟨fun hl hdue h1 h2 => ?_, fun m ht => ?_, fun hdue h1 h2 => ?_⟩, fun t ht => ?_, fun ht => ⟨?_, ?_⟩⟩
  · obtain ⟨α, r, rule, he⟩ := exec_request hk h1 h2
    rw [he, request_busy hde (by rwa [beforeRequest_calm hdue]), beforeRequest_calm hdue]
  · obtain ⟨α, always, rule, he⟩ := exec_misfit hk m
    have calm := beforeRequest_calm ht.2.1
    rw [he, request_misfit hde (.inr (by rw [calm]; simp [loading, ht.2.2])), calm]
  · obtain ⟨α, r, rule, he⟩ := exec_request hk h1 h2
    rw [he, request_busy hde (by rw [beforeRequest_due hdue]; rfl), beforeRequest_due hdue]
  · obtain rfl : t = beforeRequest s := ht
    exact ⟨congrArg _ (request_always hde), congrArg _ (request_always hde), congrArg _ (request_misfit hde (.inl rfl)),
      congrArg _ (request_misfit hde (.inl rfl))⟩
  · exact taken ht (writeConfig_misfit _)
  · exact fun hf => ⟨taken_answer ht hf (writeCurve_misfit _), taken_answer ht hf (levelCountsRule_misfit _)⟩

end Sys2Proof.Machine
end

section
/-! SUPPORT. CONFIG_WRITE (R185): what each record kind refuses, that the record taken replaces its working record and no
other, and that it is given back as stored; and the requests that write records and the dimming table (R95). -/

namespace Sys2Proof.Machine

/-! ## Refusals -/

/-- A record that is refused is refused with BAD_INDEX or BAD_LENGTH. -/
def Refuses {α : Type} (x : Except Result α) : Prop := ∀ e, x = .error e → e = .badIndex ∨ e = .badLength

namespace Refuses

variable {α : Type} {x y : Except Result α}

theorem ok (a : α) : Refuses (.ok a : Except Result α) := fun _ h => nomatch h

theorem badIndex : Refuses (.error .badIndex : Except Result α) := fun _ h => .inl (Except.error.inj h).symm

theorem badLength : Refuses (.error .badLength : Except Result α) := fun _ h => .inr (Except.error.inj h).symm

theorem ite {c : Prop} [Decidable c] (h : Refuses x) (k : Refuses y) : Refuses (if c then x else y) := by
  split
  · exact h
  · exact k

theorem ne_ok {e : Result} (h : Refuses x) (hx : x = .error e) : e ≠ .ok := by
  rcases h e hx with rfl | rfl <;> decide

end Refuses

theorem refuses_takeParams (r : Params) : Refuses (takeParams r) := .ite .badIndex (.ok _)

theorem refuses_takeZone (r : ZoneRec) : Refuses (takeZone r) := .ite .badIndex (.ok _)

theorem refuses_takeSensor (slot : Nat) (r : SensorRec) : Refuses (takeSensor slot r) :=
  .ite .badIndex (.ite .badIndex (.ok _))

theorem refuses_takeFan (r : FanRec) : Refuses (takeFan r) := .ite .badIndex (.ite .badLength (.ok _))

theorem refuses_takeGroup (r : GroupRec) : Refuses (takeGroup r) := .ite .badIndex (.ite .badIndex (.ok _))

theorem refuses_takePresence (r : PresenceRec) : Refuses (takePresence r) := .ite .badIndex (.ok _)

theorem refuses_takePath (r : PathRec) : Refuses (takePath r) := .ite .badIndex (.ite .badLength (.ok _))

theorem refuses_takePair (r : PairRec) : Refuses (takePair r) := by
  refine .ite .badIndex ?_
  split
  · exact .ite .badLength (.ok _)
  · exact .ok _
  · exact .ok _

theorem refuses_takeSign (present : Bool) (addr : Addr) (pair : Option Nat) (old : SignRec) :
    Refuses (takeSign present addr pair old) := .ite .badIndex (.ok _)

theorem refuses_takeFace (r : FaceRec) : Refuses (takeFace r) := by
  dsimp only [takeFace]
  split
  · exact .ok _
  · exact .ite .badIndex (.ok _)
  · exact .ite .badLength (.ok _)
  · exact .ok _

/-! ## One record written -/

theorem sameBut_refl (k : RecKind) (i n : Nat) (c : Cfg) : SameBut k i n c c :=
  ⟨fun _ => rfl, fun _ _ => rfl, fun _ _ => rfl, fun _ _ => rfl, fun _ _ => rfl, fun _ _ => rfl, fun _ _ => rfl,
    fun _ _ => rfl, fun _ _ => rfl, fun _ _ => rfl, fun _ _ _ => rfl, fun _ _ => rfl, fun _ _ => rfl⟩

/-- A record written at index `i` of its table leaves the others. -/
theorem nth_put_other {α : Type} [Inhabited α] {n : Nat} {k : RecKind} {i : Nat} (t : Tab α n) (x : α) (j : Nat)
    (h : k ≠ k ∨ j ≠ i) : (t.put i x).nth j = t.nth j := Tab.nth_put_ne _ _ (h.resolve_left fun e => e rfl)

section SameBut

variable (i n : Nat) (c : Cfg)

theorem sameBut_params (x : Params) : SameBut .params i n c { c with params := x } :=
  { sameBut_refl .params i n c with params := fun h => absurd rfl h }

theorem sameBut_zones (x : ZoneRec) : SameBut .zone i n c { c with zones := c.zones.put i x } :=
  { sameBut_refl .zone i n c with zones := nth_put_other _ x }

theorem sameBut_sensors (x : SensorRec) : SameBut .sensor i n c { c with sensors := c.sensors.put i x } :=
  { sameBut_refl .sensor i n c with sensors := nth_put_other _ x }

theorem sameBut_fans (x : FanRec) : SameBut .fan i n c { c with fans := c.fans.put i x } :=
  { sameBut_refl .fan i n c with fans := nth_put_other _ x }

theorem sameBut_groups (x : GroupRec) : SameBut .group i n c { c with groups := c.groups.put i x } :=
  { sameBut_refl .group i n c with groups := nth_put_other _ x }

theorem sameBut_presence (x : PresenceRec) : SameBut .presence i n c { c with presence := c.presence.put i x } :=
  { sameBut_refl .presence i n c with presence := nth_put_other _ x }

theorem sameBut_paths (x : PathRec) : SameBut .path i n c { c with paths := c.paths.put i x } :=
  { sameBut_refl .path i n c with paths := nth_put_other _ x }

theorem sameBut_pairs (x : PairRec) : SameBut .pair i n c { c with pairs := c.pairs.put i x } :=
  { sameBut_refl .pair i n c with pairs := nth_put_other _ x }

theorem sameBut_filters (x : FilterRec) : SameBut .filter i n c { c with filters := c.filters.put i x } :=
  { sameBut_refl .filter i n c with filters := nth_put_other _ x }

variable {i n c}

/-- R148: the inputs are numbered from 1. -/
theorem sameBut_inputs (hi : 1 ≤ i) (x : InputRec) : SameBut .input i n c { c with inputs := c.inputs.put (i - 1) x } :=
  { sameBut_refl .input i n c with
    inputs := fun j h => Tab.nth_put_ne _ _ fun e => h.resolve_left (fun e => e rfl) (by omega) }

/-- R124: a SIGN record leaves the faces of its sign. -/
theorem sameBut_signs {x : SignRec} (hx : x.faces = (c.signs.nth i).faces) :
    SameBut .sign i n c { c with signs := c.signs.put i x } :=
  { sameBut_refl .sign i n c with
    signs := fun j h => by rw [nth_put_other _ x j h]
    faces := fun j f _ => by
      rw [Tab.nth_put]
      split
      · rename_i e
        rw [hx, e.1]
      · rfl }

/-- R124: a FACE record leaves its sign and the sign's other faces. -/
theorem sameBut_faces (x : FaceRec) : SameBut .face i n c
    { c with signs := c.signs.modify i (fun g => { g with faces := g.faces.put n x }) } :=
  { sameBut_refl .face i n c with
    signs := fun j _ => by
      rw [Tab.nth_modify]
      split
      · rename_i e
        rw [e.1]
      · rfl
    faces := fun j f h => by
      rw [Tab.nth_modify]
      split
      · rename_i e
        rw [e.1]
        exact Tab.nth_put_ne _ _ ((h.resolve_left fun e => e rfl).resolve_left fun k => k e.1)
      · rfl }

/-- R185: a BAY record leaves the bays outside its list. -/
theorem sameBut_kinds (kinds : List BayKind) : SameBut .bay i kinds.length c { c with kinds := writeKinds i kinds c.kinds } :=
  { sameBut_refl .bay i kinds.length c with
    kinds := fun b h => by
      have ho := h.resolve_left fun e => e rfl
      refine (nth_writeFrom id default i 0 kinds c.kinds b).trans (if_neg ?_)
      omega }

end SameBut

/-- R185: the bay kinds are given back as stored, cut short at bay 511. -/
theorem readKinds_writeKinds (c : Cfg) {first : Nat} {kinds : List BayKind} (h1 : 1 ≤ kinds.length) (h2 : kinds.length ≤ 32) :
    readKinds { c with kinds := writeKinds first kinds c.kinds } first kinds.length = kinds.take (512 - first) := by
  have hc : clamp 1 32 kinds.length = kinds.length := by
    rw [clamp, Nat.min_eq_right h2, Nat.max_eq_right h1]
  rw [readKinds, hc]
  refine List.ext_getElem (by simp [Nat.min_comm]) fun j hj hk => ?_
  simp only [List.length_map, List.length_range] at hj
  rw [List.getElem_map, List.getElem_range, List.getElem_take]
  refine (nth_writeFrom id default first 0 kinds c.kinds (first + j)).trans ?_
  rw [if_pos (by omega), Nat.add_zero, Nat.add_sub_cancel_left, List.getD_eq_getElem _ _ (by omega)]
  rfl

/-! ## What becomes of a record -/

/-- R185: a CONFIG_WRITE of the record of kind `k` at `i` and `n` is refused, or takes the place of that record alone and is
given back as it then stands. -/
inductive WriteOutcome (k : RecKind) (i n : Nat) (c : Cfg) : Except Result (Cfg × List Byte) → Prop
  | refused {e : Result} (h : e ≠ .ok) : WriteOutcome k i n c (.error e)
  | written {d : Cfg} (fits : inRange k i n) (same : SameBut k i n c d) : WriteOutcome k i n c (.ok (d, recordBytes d k i n))

section Outcomes

variable {k : RecKind} {i n : Nat} {c : Cfg}

theorem writeOutcome_storeRecord {α : Type} {taken : Except Result α} {put : α → Cfg} {bytes : α → List Byte}
    (r : Refuses taken) (fits : inRange k i n) (same : ∀ x, taken = .ok x → SameBut k i n c (put x))
    (given : ∀ x, bytes x = recordBytes (put x) k i n) : WriteOutcome k i n c (storeRecord taken put bytes) := by
  cases taken with
  | error e => exact .refused (r.ne_ok rfl)
  | ok x =>
    rw [storeRecord, given]
    exact .written fits (same x rfl)

theorem writeOutcome_indexed {m : Nat} {x : Except Result (Cfg × List Byte)} (h : i < m → WriteOutcome k i n c x) :
    WriteOutcome k i n c (indexed i m x) := by
  unfold indexed
  split
  · exact h ‹_›
  · exact .refused (by decide)

theorem indexed_outside {α : Type} {m : Nat} {x : Except Result α} (h : ¬i < m) : indexed i m x = .error .badIndex := if_neg h

theorem takeSign_faces {present : Bool} {addr : Addr} {pair : Option Nat} {old x : SignRec}
    (h : takeSign present addr pair old = .ok x) : x.faces = old.faces := by
  unfold takeSign at h
  split at h
  · simp at h
  · rw [← Except.ok.inj h]

end Outcomes

/-- A record of a table given back as it stands there. -/
theorem bytes_put {α : Type} [Inhabited α] {n i : Nat} (h : i < n) (t : Tab α n) (bytes : α → List Byte) (x : α) :
    bytes x = bytes ((t.put i x).nth i) := by rw [Tab.nth_put_self _ _ h]

/-- R185: every record kind. -/
theorem writeRecord_outcome {w : CfgWrite} {k : RecKind} {i n : Nat} (h : writtenRecord w = some (k, i, n)) (c : Cfg) :
    WriteOutcome k i n c (writeRecord w c) := by
  cases w with
  | unknownKind | misfit => exact nomatch h
  | params j r =>
    cases h
    exact writeOutcome_indexed fun hi => writeOutcome_storeRecord (refuses_takeParams r) (Nat.lt_one_iff.mp hi)
      (fun x _ => sameBut_params _ 0 c x) fun _ => rfl
  | sensor j r =>
    cases h
    exact writeOutcome_indexed fun hi => writeOutcome_storeRecord (refuses_takeSensor _ r) (Nat.le_of_lt_succ hi)
      (fun x _ => sameBut_sensors _ 0 c x) (bytes_put hi _ _)
  | fan j r =>
    cases h
    exact writeOutcome_indexed fun hi => writeOutcome_storeRecord (refuses_takeFan r) (Nat.le_of_lt_succ hi)
      (fun x _ => sameBut_fans _ 0 c x) (bytes_put hi _ _)
  | group j r =>
    cases h
    exact writeOutcome_indexed fun hi => writeOutcome_storeRecord (refuses_takeGroup r) (Nat.le_of_lt_succ hi)
      (fun x _ => sameBut_groups _ 0 c x) (bytes_put hi _ _)
  | presence j r =>
    cases h
    exact writeOutcome_indexed fun hi => writeOutcome_storeRecord (refuses_takePresence r) (Nat.le_of_lt_succ hi)
      (fun x _ => sameBut_presence _ 0 c x) (bytes_put hi _ _)
  | path j r =>
    cases h
    exact writeOutcome_indexed fun hi => writeOutcome_storeRecord (refuses_takePath r) (Nat.le_of_lt_succ hi)
      (fun x _ => sameBut_paths _ 0 c x) (bytes_put hi _ _)
  | pair j r =>
    cases h
    exact writeOutcome_indexed fun hi => writeOutcome_storeRecord (refuses_takePair r) (Nat.le_of_lt_succ hi)
      (fun x _ => sameBut_pairs _ 0 c x) (bytes_put hi _ _)
  | sign j present addr pair =>
    cases h
    exact writeOutcome_indexed fun hi => writeOutcome_storeRecord (refuses_takeSign _ _ _ _) (Nat.le_of_lt_succ hi)
      (fun x hx => sameBut_signs (takeSign_faces hx)) (bytes_put hi _ _)
  | filter j r =>
    cases h
    exact writeOutcome_indexed fun hi => writeOutcome_storeRecord (.ok _) (Nat.le_of_lt_succ hi)
      (fun x _ => sameBut_filters _ 0 c x) (bytes_put hi _ _)
  | zone j r =>
    cases h
    simp only [writeRecord]
    split
    · rename_i hf
      have hi := indexFits_iff.mp hf
      exact writeOutcome_storeRecord (refuses_takeZone r) hi (fun x _ => sameBut_zones _ 0 c x)
        (bytes_put (Nat.lt_succ_of_le hi.2) _ _)
    · exact .refused (by decide)
  | input j r =>
    cases h
    simp only [writeRecord]
    split
    · rename_i hf
      have hi := indexFits_iff.mp hf
      exact writeOutcome_storeRecord (.ok _) hi (fun x _ => sameBut_inputs hi.1 x)
        (bytes_put (by obtain ⟨h1, h2⟩ := hi; omega) _ _)
    · exact .refused (by decide)
  | face j f r =>
    cases h
    simp only [writeRecord]
    split
    · rename_i hf
      have hi := indexFits_iff.mp hf
      refine writeOutcome_storeRecord (refuses_takeFace r) hi (fun x _ => sameBut_faces x) fun x => ?_
      simp only [recordBytes]
      rw [Tab.nth_modify, if_pos ⟨rfl, Nat.lt_succ_of_le hi.1⟩, Tab.nth_put_self _ _ (Nat.lt_succ_of_le hi.2)]
    · exact .refused (by decide)
  | bay first kinds =>
    cases h
    simp only [writeRecord]
    split
    · exact .refused (by decide)
    · rename_i hb
      split
      · exact .refused (by decide)
      · rename_i hl
        rw [← readKinds_writeKinds c (by omega) (by omega)]
        exact .written (Nat.not_lt.mp hb) (sameBut_kinds kinds)

/-- R185: an index outside the range of its kind. -/
theorem writeRecord_outside {w : CfgWrite} {k : RecKind} {i n : Nat} (h : writtenRecord w = some (k, i, n))
    (ho : ¬inRange k i n) (c : Cfg) : writeRecord w c = .error .badIndex := by
  cases w with
  | unknownKind | misfit => exact nomatch h
  | zone j r | input j r | face j f r =>
    cases h
    exact if_neg (indexFits_iff.not.mpr ho)
  | bay first kinds =>
    cases h
    exact if_pos (Nat.not_le.mp ho)
  | params j r | sensor j r | fan j r | group j r | presence j r | path j r | pair j r | sign j present addr pair
  | filter j r =>
    cases h
    simp only [inRange] at ho
    exact indexed_outside (by omega)

end Sys2Proof.Machine
end

section
/-! SUPPORT. The requests that write records and the dimming table (R95, R185). -/

namespace Sys2Proof.Machine

/-! ## CONFIG_WRITE (R185) -/

section ConfigWrite

variable {s : State} {w : CfgWrite}

theorem configWrite_refused (h : takesRequests s) (he : s.cfg.state = .editing) {e : Result}
    (hw : writeRecord w s.cfg.working = .error e) :
    exec (.configWrite (.fits w)) s = .next (repliedOnly s 0x11 e []) := by
  refine taken h ((if_pos he).trans ?_)
  simp only [received_cfg, hw]
  rfl

theorem configWrite_written (h : takesRequests s) (he : s.cfg.state = .editing) {c : Cfg} {bytes : List Byte}
    (hw : writeRecord w s.cfg.working = .ok (c, bytes)) :
    exec (.configWrite (.fits w)) s
      = .next { repliedOnly s 0x11 .ok bytes with cfg := { s.cfg with working := c } } := by
  refine taken h ((if_pos he).trans ?_)
  simp only [received_cfg, hw]
  rfl

theorem writeRecord_misfit_outside {k : RecKind} {i n : Nat} (h : ¬inRange k i n) (c : Cfg) :
    writeRecord (.misfit k i n) c = .error .badIndex := if_neg (indexFits_iff.not.mpr h)

theorem writeRecord_misfit_inside {k : RecKind} {i n : Nat} (h : inRange k i n) (c : Cfg) :
    writeRecord (.misfit k i n) c = .error .badLength := if_pos (indexFits_iff.mpr h)

/-- R1: a ZONE record that is not taken. -/
theorem writeRecord_zone_refused {i : Nat} {r : ZoneRec} (h : i = 0 ∨ 15 < i ∨ 511 < r.bayBase ∨ 512 < r.bayCount) (c : Cfg) :
    writeRecord (.zone i r) c = .error .badIndex := by
  by_cases hi : inRange .zone i 0
  · obtain ⟨h1, h2⟩ := hi
    have hr : r.bayBase > 511 ∨ r.bayCount > 512 := by omega
    simp only [writeRecord, takeZone, if_pos hr, storeRecord, ite_self]
  · exact writeRecord_outside rfl hi c

/-- R1: a ZONE record that is taken, with its values clamped. -/
theorem writeRecord_zone_taken {i : Nat} {r : ZoneRec} (h1 : 1 ≤ i) (h2 : i < 16) (hb : r.bayBase < 512) (hc : r.bayCount ≤ 512)
    (c : Cfg) :
    let x := { r with fallbackDemand := min r.fallbackDemand 1000, darkLimit := min r.darkLimit 48 }
    writeRecord (.zone i r) c = .ok ({ c with zones := c.zones.put i x }, zoneBytes x) := by
  have hf : indexFits .zone i 0 = true := indexFits_iff.mpr ⟨h1, Nat.le_of_lt_succ h2⟩
  have hr : ¬(r.bayBase > 511 ∨ r.bayCount > 512) := by omega
  simp only [writeRecord, if_pos hf, takeZone, if_neg hr, storeRecord, clamp, Nat.zero_max, Nat.min_comm]

end ConfigWrite

/-! ## CURVE_WRITE (R95) -/

section CurveWrite

variable {s : State} {block : Nat}

theorem writeCurve_badIndex {given : Option (List Nat)} (hst : storing s = false) (hr : running s = true) (hb : 15 < block) :
    writeCurve (.fits (block, given)) s = answer 0x15 .badIndex [] s :=
  (unlessStoring_taken hst).trans ((inRunning_taken hr).trans (if_pos hb))

theorem writeCurve_badLength {given : Option (List Nat)} (hst : storing s = false) (hr : running s = true) (hb : block < 16)
    (hg : ∀ outputs, given = some outputs → outputs.length ≠ 16) :
    writeCurve (.fits (block, given)) s = answer 0x15 .badLength [] s := by
  refine (unlessStoring_taken hst).trans ((inRunning_taken hr).trans ((if_neg (by omega)).trans ?_))
  cases given with
  | none => rfl
  | some outputs => exact if_pos (hg outputs rfl)

theorem writeCurve_taken {outputs : List Nat} (hst : storing s = false) (hr : running s = true) (hb : block < 16)
    (hl : outputs.length = 16) : writeCurve (.fits (block, some outputs)) s = answer 0x15 .ok [] (takeCurve block outputs s) :=
  (unlessStoring_taken hst).trans ((inRunning_taken hr).trans ((if_neg (by omega)).trans (if_neg (not_not.mpr hl))))

/-- R95: what a CURVE_WRITE that is taken leaves. -/
theorem curveWrite_taken (h : takesRequests s) {outputs : List Nat} (hst : storing s = false) (hr : running s = true)
    (hb : block < 16) (hl : outputs.length = 16) : exec (.curveWrite (.fits (block, some outputs))) s =
      .next (finished 0x15 .ok [] (takeCurve block outputs (received s))) :=
  taken_finished h (writeCurve_taken (s := received s) hst hr hb hl)

/-- R95: the values of the groups as the request leaves them. -/
theorem curveWrite_lit (outputs : List Nat) (g : Nat) :
    litOf (finished 0x15 .ok [] (takeCurve block outputs (received s))) g =
      if g ∈ presentGroups s ∧ (s.light.groups.nth g).level / 16 = block
      then rewant (writeOutputs block outputs s.cfg.dimming) (litOf s g) else litOf s g := by
  rw [finished, (marks_fillSlots _).lit]
  exact takeCurve_lit block outputs (received s) g

end CurveWrite

/-- Settles O42: CONFIG_WRITE by the outcome of its record, and CURVE_WRITE by its checks, the entries of its block and the
values of the groups. -/
theorem recordsAndCurvesAreWritten : Obligations.RecordsAndCurvesAreWritten := by
  intro s h
  refine ⟨fun w he => taken h (if_neg he), fun w e he hw => configWrite_refused h he hw,
    fun w c bytes he hw => configWrite_written h he hw, fun w k i n he hk => ?_, fun he => ⟨?_, fun k i n => ⟨?_, ?_⟩⟩,
    fun i r he hz => configWrite_refused h he (writeRecord_zone_refused hz _),
    fun i r he h1 h2 hb hc => configWrite_written h he (writeRecord_zone_taken h1 h2 hb hc _), fun block given hf => ?_,
    fun block outputs hr hst hb hl => ?_⟩
  · have outside := fun ho => writeRecord_outside hk ho s.cfg.working
    have outcome := writeRecord_outcome hk s.cfg.working
    generalize hw : writeRecord w s.cfg.working = o at outside outcome
    cases outcome with
    | @refused e ne =>
      refine ⟨_, configWrite_refused h he hw, fun ho => ?_, .inl ⟨e, ne, rfl⟩⟩
      rw [Except.error.inj (outside ho)]
    | written fits same =>
      exact ⟨_, configWrite_written h he hw, fun ho => absurd fits ho, .inr ⟨fits, same, rfl⟩⟩
  · exact configWrite_refused h he rfl
  · exact fun ho => configWrite_refused h he (writeRecord_misfit_outside ho _)
  · exact fun hi => configWrite_refused h he (writeRecord_misfit_inside hi _)
  · refine ⟨fun hst => ?_, fun hst hr => ?_, fun hst hr hb => ?_, fun hst hr hb hg => ?_⟩
    · exact taken_answer h hf (unlessStoring_refused (s := received s) hst)
    · exact taken_answer h hf ((unlessStoring_taken (s := received s) hst).trans (inRunning_refused (s := received s) hr))
    · exact taken_answer h hf (writeCurve_badIndex (s := received s) hst hr hb)
    · exact taken_answer h hf (writeCurve_badLength (s := received s) hst hr hb hg)
  · have hcfg : (finished 0x15 .ok [] (takeCurve block outputs (received s))).cfg =
        { s.cfg with dimming := writeOutputs block outputs s.cfg.dimming, imageCurrent := false } :=
      (finished_cfg _ _ _ _).trans (takeCurve_cfg block outputs (received s))
    have frame := does_takeCurve block outputs (received s)
    refine ⟨_, curveWrite_taken h hst hr hb hl, (finished_frame frame).mono rfl, answers_finished frame rfl, ?_,
      fun n _ => ?_, fun g => ?_, fun g hg hblock => ?_⟩
    · rw [hcfg]
    · rw [hcfg]
      exact nth_writeOutputs (Nat.le_of_lt_succ hb) hl _ n
    · have e := congrArg (fun x => x.2.1) (curveWrite_lit (s := s) (block := block) outputs g)
      split at e <;> exact e
    · have e := congrArg (fun x => x.2.2.2) (curveWrite_lit (s := s) (block := block) outputs g)
      rw [if_pos ⟨hg, hblock⟩] at e
      rw [hcfg]
      exact e

end Sys2Proof.Machine
end

section
/-! SUPPORT. What the rule of a request can change (section 11.3): all but the timebase, the loop unit and the model's own
fields, beside CONFIG_CLOSE and SET_CLOCK. -/

namespace Sys2Proof.Machine

/-- What the rule of a request can change, but for the entry to RUNNING and the clock that is set. -/
abbrev ruleBlocks : List Block := [.cfg, .occ, .air, .fan, .light, .guide, .ovr, .slots, .bus, .notices, .link]

section Rules

variable {kind : Nat} {r : Result} {fs : List Byte} {s t : State}

/-- A reply to a request that has done nothing. -/
theorem rule_answers (kind : Nat) (r : Result) (fs : List Byte) (s : State) : Does ruleBlocks s (answer kind r fs s) :=
  (does_answer s kind r fs).mono rfl

/-- A reply to what the rule has done. -/
theorem rule_does {bs : List Block} (h : Does bs s t) (sub : bs.all (fun b => ruleBlocks.contains b) = true) :
    Does ruleBlocks s (answer kind r fs t) := (h.mono sub).trans (rule_answers _ _ _ t)

/-- A rule that one condition of the part refuses. -/
theorem rule_refusable {c : Prop} [Decidable c] (h : Does ruleBlocks s t) :
    Does ruleBlocks s (if c then answer kind r fs s else t) := .ite (fun _ => rule_answers _ _ _ s) (fun _ => h)

/-- A rule that needs one condition of the part. -/
theorem rule_requires {c : Prop} [Decidable c] (h : Does ruleBlocks s t) :
    Does ruleBlocks s (if c then t else answer kind r fs s) := .ite (fun _ => h) (fun _ => rule_answers _ _ _ s)

/-- A request that only reads, with one refusal. -/
theorem rule_reads {q : Result} {gs : List Byte} {c : Prop} [Decidable c] (s : State) :
    Does ruleBlocks s (if c then answer kind r fs s else answer kind q gs s) := rule_refusable (rule_answers _ _ _ s)

end Rules

variable (s : State)

/-- Another service link that keeps the law of the notice queue. -/
theorem does_requeue {l : Link} (h : QueueLaw s.link → QueueLaw l) : Does [.notices, .link] s { s with link := l } := by
  refine ⟨fun c hc => ?_, h⟩
  cases c <;> first | rfl | exact ⟨rfl, rfl⟩ | simp at hc

/-- R198: notices taken out of the queue leave it bounded and coalesced. -/
theorem QueueLaw.withQueue {l : Link} (h : QueueLaw l) {q : List Queued} (sub : q.Sublist l.notices) (lost : Bool) :
    QueueLaw (l.withQueue q lost) := ⟨sub.length_le.trans h.bounded, h.distinct.sublist sub, rfl⟩

/-! ## The service link -/

theorem rule_reset (straps : Straps) : Does ruleBlocks s (resetRule straps s) :=
  (does_link s (l := (resetRule straps s).link) ⟨rfl, rfl, rfl⟩).mono rfl

theorem rule_fetch : Does ruleBlocks s (fetchRule s) :=
  rule_does (does_requeue s fun h => h.withQueue (List.drop_sublist 12 _) false) rfl

theorem rule_classes (new : BitVec 6) : Does ruleBlocks s (classesRule new s) := by
  refine rule_does (does_requeue s fun h => ?_) rfl
  obtain ⟨bounded, distinct, attn⟩ := h.withQueue (q := s.link.notices.filter (staysQueued s.link.classes new))
    List.filter_sublist s.link.lost
  exact ⟨bounded, distinct, attn⟩

/-! ## Configuration -/

theorem rule_openConfig : Does ruleBlocks s (openConfig s) := by
  have entry : ∀ k r fs, Does ruleBlocks s (answer k r fs (enterEditing s)) := fun _ _ _ =>
    rule_does (does_enterEditing s) rfl
  refine rule_refusable ?_
  split
  · exact entry _ _ _
  · exact entry _ _ _
  · exact rule_answers _ _ _ s
  · exact rule_answers _ _ _ s

theorem rule_storeConfig (id : BitVec 16) : Does ruleBlocks s (storeConfig id s) :=
  rule_refusable (rule_requires (rule_does (does_cfg s _) rfl))

theorem rule_writeConfig (q : Req CfgWrite) : Does ruleBlocks s (writeConfig q s) := by
  refine rule_requires ?_
  split
  · exact rule_answers _ _ _ s
  · split
    · exact rule_does (does_cfg s _) rfl
    · exact rule_answers _ _ _ s

theorem rule_readConfig (q : CfgRead) : Does ruleBlocks s (readConfig q s) := by
  cases q with
  | record | misfit => exact rule_reads s
  | unknownKind => exact rule_answers _ _ _ s

theorem rule_writeCurve (q : Req (Nat × Option (List Nat))) : Does ruleBlocks s (writeCurve q s) := by
  refine rule_refusable (rule_requires ?_)
  split
  · exact rule_answers _ _ _ s
  · refine rule_refusable ?_
    split
    · exact rule_answers _ _ _ s
    · exact rule_refusable (rule_does (does_takeCurve _ _ s) rfl)

/-! ## The detector map -/

/-- R23: a binding as a whole. -/
theorem bindAddress_does (a b way : Nat) : Does [.cfg, .bus, .occ, .guide, .slots, .notices] s (bindAddress a b way s) := by
  obtain ⟨t, written, -, -, called⟩ := does_bindAddress a b way s
  exact (written.mono rfl).trans (((does_bindBay b a t).mono rfl).trans (called.mono rfl))

/-- R24: the removal of a binding as a whole. -/
theorem unbindAddress_does (a b way : Nat) : Does [.cfg, .occ, .guide, .slots, .notices] s (unbindAddress a b way s) := by
  obtain ⟨t, written, -, withdrawn⟩ := does_unbindAddress a b way s
  exact (written.mono rfl).trans (((does_unbindBay b t).mono rfl).trans (withdrawn.mono rfl))

theorem rule_writeMap (a b : Nat) :
    Does ruleBlocks s (unlessStoring 0x20 (notInFallback 0x20 (mapChecks a b)) s) := by
  refine rule_refusable (rule_refusable (rule_refusable ?_))
  split
  · exact rule_reads s
  · split
    · exact rule_answers _ _ _ s
    · refine rule_refusable ?_
      split
      · exact rule_answers _ _ _ s
      · exact rule_does (bindAddress_does s _ _ _) rfl

theorem rule_removeMap (a : Addr) {kind : Nat} :
    Does ruleBlocks s (unlessStoring kind (notInFallback kind (removeMapping a)) s) := by
  refine rule_refusable (rule_refusable ?_)
  dsimp only [removeMapping]
  split
  · exact rule_requires (rule_does (unbindAddress_does s _ _ _) rfl)
  · exact rule_answers _ _ _ s

theorem rule_lookupMapping (a : Addr) : Does ruleBlocks s (lookupMapping a s) := by
  dsimp only [lookupMapping]
  split <;> exact rule_answers _ _ _ s

theorem rule_clearUnknowns : Does ruleBlocks s (clearUnknowns s) := rule_does (does_busOnly s _ _ _ _ _ _ _ _) rfl

/-! ## Bays -/

theorem rule_reserve (b time : Nat) {kind : Nat} : Does ruleBlocks s (inRunning kind (reserveRequest b time) s) := by
  have reserved : ∀ k r fs n, Does ruleBlocks s (answer k r fs (reserveBay b n s)) := fun _ _ _ n =>
    rule_does (does_reserveBay b n s) rfl
  refine rule_requires (rule_refusable ?_)
  split
  · exact reserved _ _ _ _
  · exact reserved _ _ _ _
  all_goals exact rule_answers _ _ _ s

theorem rule_release (b : Nat) {kind : Nat} : Does ruleBlocks s (inRunning kind (releaseRequest b) s) :=
  rule_requires (rule_refusable (rule_requires (rule_does (does_cancelReservation b s) rfl)))

theorem rule_close (b : Nat) {kind : Nat} :
    Does ruleBlocks s (unlessStoring kind (inRunning kind (closeRequest b)) s) :=
  rule_refusable (rule_requires (rule_refusable (rule_refusable (rule_does (does_closeBay b s) rfl))))

theorem rule_open (b : Nat) {kind : Nat} :
    Does ruleBlocks s (unlessStoring kind (inRunning kind (openRequest b)) s) :=
  rule_refusable (rule_requires (rule_refusable (rule_requires (rule_does (does_openBay b s) rfl))))

/-! ## Fans, levels and the override stack -/

theorem rule_clearFan (n : Nat) : Does ruleBlocks s (clearFan n s) :=
  rule_refusable (rule_requires (rule_does (does_takeChannel n _ s) rfl))

theorem rule_levelCounts (q : Req (List (Nat × Nat))) : Does ruleBlocks s (levelCountsRule q s) := by
  refine rule_requires ?_
  split
  · exact rule_answers _ _ _ s
  · exact rule_refusable (rule_requires (rule_does (does_writeLevels _ s) rfl))

theorem rule_levelCountsBroadcast (items : List (Nat × Nat)) : Does ruleBlocks s (levelCountsBroadcast items s) :=
  .ite (fun _ => (does_writeLevels items s).mono rfl) (fun _ => .refl s)

theorem rule_push (q : PushReq) : Does ruleBlocks s (pushRule q s) := by
  dsimp only [pushRule]
  split
  · exact rule_answers _ _ _ s
  · exact rule_refusable (rule_refusable (rule_does (does_pushEntry _ s) rfl))

theorem rule_pop : Does ruleBlocks s (popRule s) := by
  dsimp only [popRule]
  split
  · exact rule_answers _ _ _ s
  · exact rule_does (does_removeEntries _ s) rfl

theorem rule_remove (id : Nat) : Does ruleBlocks s (removeRule id s) := by
  dsimp only [removeRule]
  split
  · exact rule_answers _ _ _ s
  · exact rule_requires (rule_does (does_removeEntries _ s) rfl)

end Sys2Proof.Machine
end

section
/-! SUPPORT. The ranges of the timebase, of the level vehicle count and of the tallies, and the law of the notice queue
(R110, R115, R174, R176, R177, R197, R199): the operations that keep them. -/

namespace Sys2Proof.Machine

/-- From `s` to `t` the laws of the timebase, of the counters and of the notice queue are kept. -/
structure KeepsCounters (s t : State) : Prop where
  time : TimeLaw s.time → TimeLaw t.time
  count : CountLaw s.loops → CountLaw t.loops
  queue : QueueLaw s.link → QueueLaw t.link

namespace KeepsCounters

variable {bs : List Block} {s t u : State}

theorem refl (s : State) : KeepsCounters s s := ⟨id, id, id⟩

theorem trans (h : KeepsCounters s t) (k : KeepsCounters t u) : KeepsCounters s u :=
  ⟨k.time ∘ h.time, k.count ∘ h.count, k.queue ∘ h.queue⟩

theorem ite {c : Prop} [Decidable c] (h : c → KeepsCounters s t) (k : ¬c → KeepsCounters s u) :
    KeepsCounters s (if c then t else u) := by
  split
  · exact h ‹_›
  · exact k ‹_›

theorem foldl {α : Type} (f : State → α → State) (h : ∀ t x, KeepsCounters t (f t x)) (l : List α) (s : State) :
    KeepsCounters s (l.foldl f s) := by
  induction l generalizing s with
  | nil => exact refl s
  | cons x l ih => exact (h s x).trans (ih _)

/-- An operation of the loop unit. -/
theorem of_loops (d : Does bs s t) (x : bs.contains .time = false) (c : CountLaw s.loops → CountLaw t.loops) :
    KeepsCounters s t := ⟨fun h => by rw [d.time x]; exact h, c, d.queue⟩

/-- An operation of the other blocks. -/
theorem of_does (d : Does bs s t) (x : bs.contains .time = false) (l : bs.contains .loops = false) :
    KeepsCounters s t := .of_loops d x fun h => by rw [d.loops l]; exact h

theorem after (h : KeepsCounters s t) (d : Does bs t u) (x : bs.contains .time = false)
    (l : bs.contains .loops = false) : KeepsCounters s u := h.trans (.of_does d x l)

/-- R165. -/
theorem fill (h : KeepsCounters s t) : KeepsCounters s (fillSlots t) := h.after (does_fillSlots t) rfl rfl

theorem answered (h : KeepsCounters s t) (kind : Nat) (r : Result) (fs : List Byte) :
    KeepsCounters s (answer kind r fs t) := h.after (does_answer t kind r fs) rfl rfl

end KeepsCounters

/-! ## The timebase (R174, R176 to R179) -/

/-- R177: the correction of the window that begins is the next one, or stays. -/
theorem TimeLaw.newWindow {x : Time} (h : TimeLaw x) : TimeLaw x.newWindow := by
  rw [newWindow_eq]
  refine ⟨h.prescaler, h.cycle, ?_, by simp⟩
  cases hc : x.nextCorrection with
  | none => exact h.correction
  | some c => exact h.next c hc

theorem TimeLaw.atCycle {x : Time} (h : TimeLaw x) : TimeLaw x.atCycle := by
  unfold Time.atCycle
  split
  · exact h.newWindow
  · exact h

/-- R174, R176: the prescaler and the cycle of the window come round. -/
theorem TimeLaw.tick {x : Time} (h : TimeLaw x) : TimeLaw x.tick := by
  have hw := h.atCycle
  exact ⟨Nat.mod_lt _ (by decide), ⟨Nat.succ_pos _, Nat.mod_lt _ (by decide)⟩, hw.correction, hw.next⟩

theorem natAbs_clampCorrection (c : Int) : (clampCorrection c).natAbs ≤ 127 := by
  unfold clampCorrection
  omega

/-- R177, R179: a correction that SET_CLOCK carries is clamped. -/
theorem keepsCounters_setClockTo (q : BitVec 32 × Option Int) (s : State) : KeepsCounters s (setClockTo q s) := by
  refine ⟨fun h => ⟨h.prescaler, h.cycle, h.correction, fun c hc => ?_⟩, fun h => h, fun h => h⟩
  obtain ⟨clock, carried⟩ := q
  cases carried with
  | none => exact h.next c hc
  | some n =>
    obtain rfl : clampCorrection n = c := Option.some.inj hc
    exact natAbs_clampCorrection n

/-- R177: a window that CORRECTION_WINDOW begins. -/
theorem keepsCounters_beginWindow (s : State) :
    KeepsCounters s { s with time := { s.time.newWindow with begun := true } } := by
  refine ⟨fun h => ?_, fun h => h, fun h => h⟩
  obtain ⟨prescaler, cycle, correction, next⟩ := h.newWindow
  exact ⟨prescaler, cycle, correction, next⟩

theorem keepsCounters_crystalCycle (s : State) : KeepsCounters s (crystalCycle s) :=
  ⟨fun h => h.tick, fun h => h, fun h => h⟩

/-! ## The tallies and the count (R110, R112 to R115) -/

/-- R110: the four tallies of a pair are within their range. -/
def TalliesLaw (x : PairRun) : Prop :=
  x.tallyIn ≤ 65535 ∧ x.tallyOut ≤ 65535 ∧ x.backOut ≤ 65535 ∧ x.timeout ≤ 65535

theorem saturate_le (n : Nat) : saturate n ≤ 65535 := Nat.min_le_right _ _

/-- R112, R114: a passage raises one tally, which saturates. -/
theorem talliesLaw_tallied (d : Direction) {x : PairRun} (h : TalliesLaw x) : TalliesLaw (tallied d x) := by
  obtain ⟨into, out, back, timeout⟩ := h
  cases d with
  | into | undirected => exact ⟨saturate_le _, out, back, timeout⟩
  | out => exact ⟨into, saturate_le _, back, timeout⟩

/-- R111: a covered loop raises none. -/
theorem talliesLaw_covered (isA : Bool) {x : PairRun} (h : TalliesLaw x) : TalliesLaw (covered isA x) := by
  unfold covered
  split
  · exact h
  · split <;> exact h
  · split <;> exact h

/-- R115: the level vehicle count stays within 0..9999. -/
theorem counted_le (d : Direction) {n : Nat} (h : n ≤ 9999) : counted d n ≤ 9999 := by
  cases d with
  | into | undirected => exact Nat.min_le_right _ _
  | out => exact (Nat.sub_le n 1).trans h

theorem CountLaw.put {l : Loops} (h : CountLaw l) {p : Nat} {x : PairRun}
    (hx : TalliesLaw (l.pairs.nth p) → TalliesLaw x) {n : Nat} (hn : n ≤ 9999) :
    CountLaw { l with pairs := l.pairs.put p x, count := n } := by
  refine ⟨hn, fun q hq => ?_⟩
  change TalliesLaw ((l.pairs.put p x).nth q)
  rw [Tab.nth_put]
  split
  · rename_i e
    exact hx (e.1 ▸ h.tallies q hq)
  · exact h.tallies q hq

variable (s : State)

theorem keepsCounters_setPair {s : State} {p : Nat} {x : PairRun}
    (hx : TalliesLaw (s.loops.pairs.nth p) → TalliesLaw x) : KeepsCounters s (setPair p x s) :=
  .of_loops (does_setPair s p x) rfl fun h => h.put hx h.count

theorem keepsCounters_setLoop (i : Nat) (x : LoopInput) : KeepsCounters s (setLoop i x s) :=
  .of_loops (does_setLoop s i x) rfl fun h => ⟨h.count, h.tallies⟩

theorem keepsCounters_passage (p : Nat) (d : Direction) : KeepsCounters s (passage p d s) := by
  refine .of_loops (does_passage p d s) rfl fun h => ?_
  rw [passage_loops]
  refine h.put (talliesLaw_tallied d) ?_
  split
  · exact counted_le d h.count
  · exact h.count

theorem keepsCounters_completeSequence (p : Nat) : KeepsCounters s (completeSequence p s) := by
  dsimp only [completeSequence]
  have back : KeepsCounters s (setPair p
      { idled (s.loops.pairs.nth p) with backOut := saturate (s.loops.pairs.nth p).backOut } s) :=
    keepsCounters_setPair fun ⟨into, out, _, timeout⟩ => ⟨into, out, saturate_le _, timeout⟩
  have idle : KeepsCounters s (setPair p (idled (s.loops.pairs.nth p)) s) := keepsCounters_setPair fun h => h
  split
  · exact idle.trans (keepsCounters_passage _ p _)
  · exact idle.trans (keepsCounters_passage _ p _)
  · exact back
  · exact back
  · exact .refl s

theorem keepsCounters_pairCovered (i : Nat) : KeepsCounters s (pairCovered i s) := by
  dsimp only [pairCovered]
  split
  · exact .refl s
  · split
    · exact keepsCounters_passage s _ _
    · exact keepsCounters_setPair (talliesLaw_covered _)

theorem keepsCounters_pairCleared (i : Nat) : KeepsCounters s (pairCleared i s) := by
  dsimp only [pairCleared]
  split
  · exact .refl s
  · split
    · exact .refl s
    · exact .ite (fun _ => .refl s) (fun _ => keepsCounters_completeSequence s _)

theorem keepsCounters_loopTapActive (i : Nat) : KeepsCounters s (loopTapActive i s) := by
  have active : ∀ x, KeepsCounters s (setLoop i x s) := keepsCounters_setLoop s i
  refine .ite (fun _ => .ite (fun _ => ?_) (fun _ => ?_)) (fun _ => active _)
  · exact (active _).trans ((keepsCounters_setLoop _ i _).trans (keepsCounters_pairCovered _ i))
  · exact (active _).trans (keepsCounters_setLoop _ i _)

theorem keepsCounters_releaseLoop (i : Nat) : KeepsCounters s (releaseLoop i s) := by
  have released : ∀ x, KeepsCounters s (setLoop i x s) := keepsCounters_setLoop s i
  dsimp only [releaseLoop]
  split
  · exact released _
  · exact (released _).trans (keepsCounters_pairCleared _ i)
  · exact (released _).after (does_post _ _) rfl rfl

theorem keepsCounters_occupiedTap (i : Nat) : KeepsCounters s (occupiedTap i s) := by
  refine .ite (fun _ => .ite (fun _ => ?_) (fun _ => keepsCounters_setLoop s i _)) (fun _ => .refl s)
  exact ((keepsCounters_setLoop s i _).after (does_post _ _) rfl rfl).trans (keepsCounters_pairCleared _ i)

theorem keepsCounters_timeoutSequence (p : Nat) : KeepsCounters s (timeoutSequence p s) :=
  keepsCounters_setPair fun ⟨into, out, back, _⟩ => ⟨into, out, back, saturate_le _⟩

theorem keepsCounters_sequenceTap (p : Nat) : KeepsCounters s (sequenceTap p s) :=
  .ite (fun _ => .refl s) (fun _ => .ite (fun _ => keepsCounters_timeoutSequence s p)
    (fun _ => keepsCounters_setPair fun h => h))

/-! ## The parts of the taps (R174) -/

theorem keepsCounters_runT32 (levels : BitVec 8) (keys : BitVec 2) (p : T32Part) :
    KeepsCounters s (runT32 levels keys s p) := by
  refine .ite (fun _ => .refl s) (fun _ => ?_)
  cases p with
  | loops =>
    exact .foldl _ (fun t i => .ite (fun _ => keepsCounters_loopTapActive t i)
      (fun _ => keepsCounters_releaseLoop t i)) _ s
  | keys => exact .of_does (does_keysT32 keys s) rfl rfl
  | paths => exact .of_does (does_pathsT32 s) rfl rfl

theorem keepsCounters_loopT1 : KeepsCounters s (loopT1 s) :=
  .ite (fun _ => .refl s) (fun _ => .trans (.foldl _ (fun t i => keepsCounters_occupiedTap t i) _ s)
    (.foldl _ (fun t p => keepsCounters_sequenceTap t p) _ _))

theorem keepsCounters_runT1 (ain : Tab (BitVec 10) 8) (p : T1Part) : KeepsCounters s (runT1 ain s p) := by
  cases p with
  | clock => exact ⟨fun h => ⟨h.prescaler, h.cycle, h.correction, h.next⟩, fun h => h, fun h => h⟩
  | loops => exact keepsCounters_loopT1 s
  | air => exact .of_does (does_airTap ain s) rfl rfl
  | bays => exact .of_does (does_bayT1 s) rfl rfl
  | sounder => exact .ite (fun _ => .refl s) (fun _ => .of_does (does_sounderTap s) rfl rfl)
  | fans => exact .ite (fun _ => .refl s) (fun _ => .of_does (does_fan s _) rfl rfl)
  | lights => exact .ite (fun _ => .refl s) (fun _ => .of_does (does_lightsT1 s) rfl rfl)
  | guide => exact .ite (fun _ => .refl s) (fun _ => .of_does (does_guideT1 s) rfl rfl)
  | stack => exact .ite (fun _ => .refl s) (fun _ => .of_does (does_stackT1 s) rfl rfl)

/-! ## Resets and entries (R118, R181, R200) -/

theorem keepsCounters_resetPowerOn (straps : Straps) : KeepsCounters s (resetPowerOn straps s) :=
  ⟨fun _ => timeLaw_reset, fun _ => countLaw_reset, fun _ => queueLaw_start _ _ _⟩

/-- R181: a commanded reset keeps the timebase. -/
theorem keepsCounters_resetCommanded (straps : Straps) : KeepsCounters s (resetCommanded straps s) :=
  ⟨fun h => h, fun _ => countLaw_reset, fun _ => queueLaw_start _ _ _⟩

/-- R118: the pairs start afresh, and the level vehicle count stands. -/
theorem keepsCounters_loopsToRunning : KeepsCounters s (loopsToRunning s) := by
  refine .of_loops (does_loopsToRunning s) rfl fun h => ?_
  dsimp only [loopsToRunning]
  rw [(does_postAll _ _).loops rfl]
  exact ⟨h.count, countLaw_reset.tallies⟩

theorem keepsCounters_enterRunning : KeepsCounters s (enterRunning s) := by
  refine .after (.after (.trans ?_ (keepsCounters_loopsToRunning _)) (does_guideToRunning _) rfl rfl)
    (does_formSounder _) rfl rfl
  refine .after (.after (.after ?_ (does_airToRunning _ _) rfl rfl) (does_fanToRunning _) rfl rfl)
    (does_lightToRunning _) rfl rfl
  refine .after (.after ?_ (does_ovrToRunning _ _) rfl rfl) (does_occToRunning _) rfl rfl
  exact .after (.of_does (does_cfgToRunning s) rfl rfl) (does_busToRunning _) rfl rfl

theorem keepsCounters_loadFallback (why : FallbackReason) : KeepsCounters s (loadFallback why s) := by
  refine .of_loops (does_loadFallback why s) rfl fun h => ?_
  dsimp only [loadFallback]
  rw [(does_busEntry _ _ _).loops rfl]
  exact h

theorem keepsCounters_loadImage (b : Body) (id : BitVec 16) : KeepsCounters s (loadImage b id s) := by
  refine .trans (.after (.after (.after ?_ (does_loadDetectors _) rfl rfl) (does_cfg _ _) rfl rfl)
    (does_loadCoast _ _) rfl rfl) (keepsCounters_enterRunning _)
  exact .of_does (does_takeBody b s) rfl rfl

theorem keepsCounters_endLoad (source : LoadSource) : KeepsCounters s (endLoad source s) := by
  have taken : KeepsCounters s { s with
      free := s.free + 1, cfg := { s.cfg with memory := memoryAfter s.cfg.memory source } } :=
    .after (.of_does (does_free s _) rfl rfl) (does_cfg { s with free := s.free + 1 } _) rfl rfl
  dsimp only [endLoad]
  split
  · exact taken.trans (keepsCounters_loadImage _ _ _)
  · exact taken.trans (keepsCounters_loadFallback _ _)

end Sys2Proof.Machine
end

section
/-! SUPPORT. Every command keeps the ranges of the timebase and of the counters, and the law of the notice queue (R110, R115,
R174, R176, R177, R197, R199). -/

namespace Sys2Proof.Machine

/-! ## Requests -/

section Requests

variable {α : Type} {kind : Nat} {always : Bool} {r : Req α} {rule : α → State → State} {s : State}

theorem keepsCounters_arrive (s : State) : KeepsCounters s (arrive s) := by
  have reset : KeepsCounters s (if s.link.resetDue = true then resetCommanded s.link.pins s else s) :=
    .ite (fun _ => keepsCounters_resetCommanded s _) (fun _ => .refl s)
  exact reset.after (does_link _ ⟨rfl, rfl, rfl⟩) rfl rfl

/-- R195: a request keeps the laws when its rule does. -/
theorem keepsCounters_request (h : ∀ x t, KeepsCounters t (rule x t)) :
    KeepsCounters s (request kind always r rule s) := by
  have arrived := keepsCounters_arrive s
  refine .ite (fun _ => .refl s) (fun _ => .ite (fun _ => arrived.answered _ _ _) (fun _ => ?_))
  cases r with
  | misfit => exact arrived.answered _ _ _
  | fits x => exact arrived.trans (h x _)

/-- A request whose rule leaves the timebase and the loop unit. -/
theorem keepsCounters_served (h : ∀ x t, Does ruleBlocks t (rule x t)) :
    KeepsCounters s (request kind always r rule s) := keepsCounters_request fun x t => .of_does (h x t) rfl rfl

/-- The same, with the slots filled after it (R165). -/
theorem keepsCounters_servedFill (h : ∀ x t, Does ruleBlocks t (rule x t)) :
    KeepsCounters s (request kind always r (thenFill rule) s) :=
  keepsCounters_request fun x t => .fill (.of_does (h x t) rfl rfl)

theorem keepsCounters_broadcastIn (h : ∀ x t, KeepsCounters t (rule x t)) : KeepsCounters s (broadcastIn r rule s) := by
  have heard : KeepsCounters s { s with link := { s.link with receiver := .hunting } } :=
    .of_does (does_link s ⟨rfl, rfl, rfl⟩) rfl rfl
  refine .ite (fun _ => .refl s) (fun _ => .ite (fun _ => heard) (fun _ => ?_))
  cases r with
  | misfit => exact heard
  | fits x => exact heard.trans (h x _)

end Requests

/-- R187: CONFIG_CLOSE enters RUNNING, which starts the pairs afresh. -/
theorem keepsCounters_closeConfig (s : State) : KeepsCounters s (closeConfig s) := by
  have refused : ∀ k r fs, KeepsCounters s (answer k r fs s) := fun k r fs => (KeepsCounters.refl s).answered k r fs
  refine .ite (fun _ => ?_) (fun _ => refused _ _ _)
  split
  · exact refused _ _ _
  · exact .answered (.trans (.of_does (does_cfg s _) rfl rfl) (keepsCounters_enterRunning _)) _ _ _

/-! ## Events -/

section Events

variable {bs : List Block} {c : Prop} [Decidable c] {s u : State}

/-- An event of another block, due or not. -/
theorem keepsCounters_event (d : Does bs s u) (x : bs.contains .time = false) (l : bs.contains .loops = false) :
    KeepsCounters s (if c then u else s) := .ite (fun _ => .of_does d x l) (fun _ => .refl s)

/-- The same, with the slots filled after it (R165). -/
theorem keepsCounters_eventFill (d : Does bs s u) (x : bs.contains .time = false) (l : bs.contains .loops = false) :
    KeepsCounters s (if c then fillSlots u else s) := .ite (fun _ => .fill (.of_does d x l)) (fun _ => .refl s)

/-- An event of the loop unit, due or not. -/
theorem keepsCounters_loopEvent (h : KeepsCounters s u) : KeepsCounters s (if c then fillSlots u else s) :=
  .ite (fun _ => h.fill) (fun _ => .refl s)

/-- An event that the part does not take in one condition. -/
theorem keepsCounters_unless (h : KeepsCounters s u) : KeepsCounters s (if c then s else u) :=
  .ite (fun _ => .refl s) (fun _ => h)

end Events

theorem keepsCounters_endAttempt {effect : Nat → Slot → State → State} (h : ∀ i x s, Does busBlocks s (effect i x s))
    (s : State) : KeepsCounters s (endAttempt effect s) := by
  dsimp only [endAttempt]
  split
  · exact keepsCounters_eventFill (h _ _ s) rfl rfl
  · exact .refl s

theorem does_receiverTo (r : Receiver) (s : State) : Does [.link] s (receiverTo r s) :=
  .ite (fun _ => .refl s) (fun _ => does_link s ⟨rfl, rfl, rfl⟩)

theorem does_endWarmup (n : Nat) (raw : BitVec 10) (s : State) : Does [.air, .notices] s (endWarmup n raw s) :=
  .ite (fun _ => .ite (fun _ => does_takeSensorState n _ s) (fun _ => (does_setSensor s n _).mono rfl))
    (fun _ => .refl s)

/-! ## Every command -/

/-- A command that answers a next state keeps the laws. -/
def OutKeepsCounters (s : State) (o : Out) : Prop := ∀ t, o = .next t → KeepsCounters s t

namespace OutKeepsCounters

variable {s u : State}

theorem next (k : KeepsCounters s u) : OutKeepsCounters s (.next u) := fun t h => by
  rw [← Host.Outcome.next.inj h]
  exact k

theorem within {i n : Nat} (k : KeepsCounters s u) : OutKeepsCounters s (Machine.within i n u) := by
  unfold Machine.within
  split
  · exact next k
  · exact fun t h => absurd h (by simp)

end OutKeepsCounters

theorem keepsCounters_exec (i : Instr) (s : State) : OutKeepsCounters s (exec i s) := by
  cases i with
  | powerOnReset straps => exact .next (keepsCounters_resetPowerOn s straps)
  | commandedReset straps =>
    exact .next (.ite (fun _ => keepsCounters_resetCommanded s straps) (fun _ => .refl s))
  | loadEnd source => exact .next (.ite (fun _ => (keepsCounters_endLoad s source).fill) (fun _ => .refl s))
  | t32Tap loops keys order => exact .next (.fill (.foldl _ (fun t p => keepsCounters_runT32 t loops keys p) _ s))
  | t4Tap rdy order => exact .next (.of_does (does_tapT4 rdy order s) rfl rfl)
  | t1Tap ain order => exact .next (.fill (.foldl _ (fun t p => keepsCounters_runT1 t ain p) _ s))
  | correctionWindow =>
    exact .next (.ite (fun _ => keepsCounters_beginWindow s) (fun _ => .refl s))
  | warmupEnd slot raw => exact .within (.of_does (does_endWarmup slot raw s) rfl rfl)
  | sensorSilent slot => exact .within (keepsCounters_event (does_takeSensorState slot _ s) rfl rfl)
  | doseRingAdvance zone | creditDecay zone | alarmHoldEnd zone =>
    exact .within (keepsCounters_event (does_setZoneAir s zone _) rfl rfl)
  | bayState a d x => exact .next (keepsCounters_eventFill (does_takeBayState a d x s) rfl rfl)
  | gasValue a g => exact .next (keepsCounters_eventFill (does_takeGasValue a g s) rfl rfl)
  | pedPresence a p => exact .next (keepsCounters_eventFill (does_takePed a p s) rfl rfl)
  | lumState a x => exact .next (keepsCounters_eventFill (does_takeLumState a x s) rfl rfl)
  | signState a x => exact .next (keepsCounters_eventFill (does_takeSignState a x s) rfl rfl)
  | announce a type => exact .next (keepsCounters_eventFill (does_takeAnnounce a type s) rfl rfl)
  | fieldFrameDiscarded why =>
    cases why with
    | malformed => exact .next (keepsCounters_event (does_busOnly s _ _ _ _ _ _ _ _) rfl rfl)
    | sentKind | unknownKind | notDevice => exact .next (.refl s)
  | settleExpiry bay => exact .within (keepsCounters_eventFill (does_settleTap bay s) rfl rfl)
  | silenceScan => exact .next (keepsCounters_eventFill (does_scanTap s) rfl rfl)
  | reservationExpiry bay => exact .within (keepsCounters_eventFill (does_reservationTap bay s) rfl rfl)
  | stayLitEnd g => exact .within (keepsCounters_eventFill (does_stayTap g s) rfl rfl)
  | pathStep p => exact .within (keepsCounters_eventFill (does_pathTap p s) rfl rfl)
  | lightResend => exact .next (keepsCounters_eventFill (does_lightResendTap s) rfl rfl)
  | readyTimeout n | readyLoss n => exact .within (keepsCounters_eventFill (does_fanTap n false s) rfl rfl)
  | coastEnd n => exact .within (keepsCounters_event (does_setChannel s n _) rfl rfl)
  | loopOccupied i => exact .within (keepsCounters_loopEvent (keepsCounters_loopTapActive s i))
  | loopRelease i => exact .within (keepsCounters_unless (keepsCounters_releaseLoop s i).fill)
  | loopStuck i => exact .within (keepsCounters_loopEvent (keepsCounters_occupiedTap s i))
  | sequenceTimeout p => exact .within (.ite (fun _ => keepsCounters_timeoutSequence s p) (fun _ => .refl s))
  | rotationAdvance => exact .next (keepsCounters_eventFill (does_rotationTap s) rfl rfl)
  | guidanceResend => exact .next (keepsCounters_eventFill (does_guideResendTap s) rfl rfl)
  | levelStale v => exact .within (keepsCounters_eventFill (does_levelTap v s) rfl rfl)
  | overrideExpiry =>
    exact .next (keepsCounters_unless (.fill (.after (.of_does (does_setStack s _) rfl rfl)
      (does_expireEntries _) rfl rfl)))
  | inputActive k => exact .within (keepsCounters_eventFill (does_keyTapActive k s) rfl rfl)
  | inputRelease k => exact .within (keepsCounters_unless (.fill (.of_does (does_keyRelease k s) rfl rfl)))
  | frameOffer =>
    refine .next (.ite (fun _ => ?_) (fun _ => .refl s))
    split
    · exact .of_does (does_putSlot s _ _) rfl rfl
    · exact .refl s
  | arbitrationLost =>
    exact .next (keepsCounters_endAttempt (fun i x s => (does_arbitrationLoses i x s).mono rfl) s)
  | attemptSuccess => exact .next (keepsCounters_endAttempt does_attemptSucceeds s)
  | attemptFailed => exact .next (keepsCounters_endAttempt does_attemptFails s)
  | busOffRecovery => exact .next (keepsCounters_eventFill (does_recoverBus s) rfl rfl)
  | storePageDone =>
    refine .next ?_
    split
    · exact keepsCounters_event (does_cfg s _) rfl rfl
    · exact .refl s
  | storeReadbackDone agrees =>
    refine .next ?_
    split
    · exact keepsCounters_event (.ite (fun _ => does_endStore _ _ _ _ s) (fun _ => does_endStore _ _ _ _ s)) rfl rfl
    · exact .refl s
  | storePageTimeout =>
    refine .next ?_
    split
    · exact keepsCounters_event (does_endStore _ _ _ _ s) rfl rfl
    · exact .refl s
  | frameSync | frameGapTimeout | frameCrcMismatch => exact .next (.of_does (does_receiverTo _ s) rfl rfl)
  | frameIgnored a k => exact .next (keepsCounters_event (does_receiverTo _ s) rfl rfl)
  | frameLenAbandoned len => exact .next (keepsCounters_event (does_receiverTo _ s) rfl rfl)
  | unknownKind k => exact .next (keepsCounters_unless ((keepsCounters_arrive s).answered _ _ _))
  | replyStart =>
    refine .next (keepsCounters_unless ?_)
    split
    · exact .of_does (does_link s ⟨rfl, rfl, rfl⟩) rfl rfl
    · exact .refl s
  | replyEnd => exact .next (keepsCounters_event (does_link s ⟨rfl, rfl, rfl⟩) rfl rfl)
  | identify r | getStatus r | getClock r | listUnknown r | readLoops r | overrideList r =>
    exact .next (keepsCounters_served fun _ t => rule_answers _ _ _ t)
  | curveRead r | mapReadSet r | readBays r | readSensor r | readFan r | readGroup r | readSign r =>
    exact .next (keepsCounters_served fun _ t => rule_reads t)
  | readZone r => exact .next (keepsCounters_served fun _ t => rule_refusable (rule_requires (rule_answers _ _ _ t)))
  | reset r => exact .next (keepsCounters_served fun straps t => rule_reset t straps)
  | setClock broadcast r =>
    exact .next (.ite (fun _ => keepsCounters_broadcastIn keepsCounters_setClockTo)
      (fun _ => keepsCounters_request fun q t => (keepsCounters_setClockTo q t).answered _ _ _))
  | configOpen r => exact .next (keepsCounters_servedFill fun _ t => rule_openConfig t)
  | configWrite r => exact .next (keepsCounters_served fun q t => rule_writeConfig t q)
  | configRead r => exact .next (keepsCounters_served fun q t => rule_readConfig t q)
  | configClose r => exact .next (keepsCounters_request fun _ t => (keepsCounters_closeConfig t).fill)
  | configStore r => exact .next (keepsCounters_served fun id t => rule_storeConfig t id)
  | curveWrite r => exact .next (keepsCounters_servedFill fun q t => rule_writeCurve t q)
  | mapWrite r => exact .next (keepsCounters_servedFill fun x t => rule_writeMap t x.1 x.2)
  | mapRemove r => exact .next (keepsCounters_servedFill fun a t => rule_removeMap t a)
  | mapLookup r => exact .next (keepsCounters_served fun a t => rule_lookupMapping t a)
  | clearUnknown r => exact .next (keepsCounters_served fun _ t => rule_clearUnknowns t)
  | bayReserve r => exact .next (keepsCounters_servedFill fun x t => rule_reserve t x.1 x.2)
  | bayRelease r => exact .next (keepsCounters_servedFill fun b t => rule_release t b)
  | bayClose r => exact .next (keepsCounters_servedFill fun b t => rule_close t b)
  | bayOpen r => exact .next (keepsCounters_servedFill fun b t => rule_open t b)
  | fanClear r => exact .next (keepsCounters_servedFill fun n t => rule_clearFan t n)
  | levelCounts broadcast r =>
    exact .next (.ite
      (fun _ => keepsCounters_broadcastIn fun x t => .fill (.of_does (rule_levelCountsBroadcast t x) rfl rfl))
      (fun _ => keepsCounters_servedFill fun q t => rule_levelCounts t q))
  | overridePush r => exact .next (keepsCounters_servedFill fun q t => rule_push t q)
  | overridePop r => exact .next (keepsCounters_servedFill fun _ t => rule_pop t)
  | overrideRemove r => exact .next (keepsCounters_servedFill fun id t => rule_remove t id)
  | fetchNotices r => exact .next (keepsCounters_served fun _ t => rule_fetch t)
  | noticeClasses r => exact .next (keepsCounters_served fun new t => rule_classes t new)
  | pwmPeriodStart => exact .next (.of_does (does_fan s _) rfl rfl)

/-- Every step keeps the laws, a command's or a cycle of the crystal. -/
theorem keepsCounters_step {s t : State} (h : step s = .next t) : KeepsCounters s t := by
  unfold step at h
  split at h
  · rw [← Host.Outcome.next.inj h]
    exact keepsCounters_crystalCycle s
  · rename_i c rest _
    obtain ⟨time, count, queue⟩ := keepsCounters_exec c { s with pending := rest } t h
    exact ⟨time, count, queue⟩

/-- Settles O47: a cycle of the crystal keeps the timebase's ranges, a passage and the ends of a sequence saturate, and every
command that touches the notice queue posts to it or takes out of it. -/
theorem countersAndNoticesKeepTheirLaws : Obligations.CountersAndNoticesKeepTheirLaws := by
  intro s t h
  obtain ⟨time, count, queue⟩ := keepsCounters_step h
  exact ⟨time, count, queue⟩

end Sys2Proof.Machine
end

section
/-! SUPPORT. The loop inputs (R106 to R109): what a tap, a release and an entry to STUCK make of the input they name, that
they leave the other inputs, and that a passage leaves them all and posts no notice. -/

namespace Sys2Proof.Machine

/-! ## What a passage leaves (R111 to R116) -/

/-- What a passage and the end of a sequence can change; no notice is posted. -/
abbrev passageBlocks : List Block := [.loops, .air, .light, .guide, .slots]

section Pairs

variable (s : State)

theorem passage_quiet (p : Nat) (d : Direction) : Does passageBlocks s (passage p d s) := by
  rw [passage_eq]
  have loops : Does passageBlocks s { s with loops := passedLoops p d s } := (does_loops s _).mono rfl
  exact .ite (fun _ => loops.trans ((does_announcePassage p d _).mono rfl)) (fun _ => loops)

theorem completeSequence_quiet (p : Nat) : Does passageBlocks s (completeSequence p s) := by
  have idle : ∀ x, Does passageBlocks s (setPair p x s) := fun x => (does_setPair s p x).mono rfl
  dsimp only [completeSequence]
  split
  · exact (idle _).trans (passage_quiet _ p _)
  · exact (idle _).trans (passage_quiet _ p _)
  · exact idle _
  · exact idle _
  · exact .refl s

theorem pairCleared_quiet (i : Nat) : Does passageBlocks s (pairCleared i s) := by
  dsimp only [pairCleared]
  split
  · exact .refl s
  · split
    · exact .refl s
    · exact .ite (fun _ => .refl s) (fun _ => completeSequence_quiet s _)

theorem passage_inputs (p : Nat) (d : Direction) : (passage p d s).loops.inputs = s.loops.inputs := by
  rw [passage_loops]
  rfl

theorem completeSequence_inputs (p : Nat) : (completeSequence p s).loops.inputs = s.loops.inputs := by
  dsimp only [completeSequence]
  split
  · rw [passage_inputs]
    rfl
  · rw [passage_inputs]
    rfl
  all_goals rfl

theorem pairCovered_inputs (i : Nat) : (pairCovered i s).loops.inputs = s.loops.inputs := by
  dsimp only [pairCovered]
  split
  · rfl
  · split
    · exact passage_inputs s _ _
    · rfl

theorem pairCleared_inputs (i : Nat) : (pairCleared i s).loops.inputs = s.loops.inputs := by
  dsimp only [pairCleared]
  split
  · rfl
  · split
    · rfl
    · split
      · rfl
      · exact completeSequence_inputs s _

end Pairs

/-! ## One input (R107 to R109) -/

/-- R108: an input whose level went inactive. -/
def LoopInput.released (x : LoopInput) : LoopInput :=
  { x with level := false, state := .clear, filter := 0, occupied := 0 }

/-- R107: an input found active once more: a supervised CLEAR one counts the tap, and is OCCUPIED at the fourth. -/
def LoopInput.found (x : LoopInput) : LoopInput :=
  if x.supervised = true ∧ x.state = .clear then
    if x.filter + 1 < 4 then { x with level := true, filter := x.filter + 1 }
    else { x with level := true, state := .occupied, filter := 0, occupied := 0 }
  else { x with level := true }

/-- From `s` to `t` loop input `i` becomes `y`, and the other inputs stand. -/
structure InputBecomes (i : Nat) (y : LoopInput) (s t : State) : Prop where
  self : t.loops.inputs.nth i = y
  others : ∀ j, j ≠ i → t.loops.inputs.nth j = s.loops.inputs.nth j

namespace InputBecomes

variable {i : Nat} {y z : LoopInput} {s t u : State}

theorem trans (h : InputBecomes i y s t) (k : InputBecomes i z t u) : InputBecomes i z s u :=
  ⟨k.self, fun j n => (k.others j n).trans (h.others j n)⟩

theorem kept (h : InputBecomes i y s t) (k : u.loops.inputs = t.loops.inputs) : InputBecomes i y s u :=
  ⟨by rw [k, h.self], fun j n => by rw [k, h.others j n]⟩

/-- R165. -/
theorem fill (h : InputBecomes i y s t) : InputBecomes i y s (fillSlots t) := h.kept (by rw [fillSlots_loops])

end InputBecomes

section Inputs

variable {i : Nat} (hi : i < 8) (s : State)
include hi

theorem setLoop_becomes (x : LoopInput) : InputBecomes i x s (setLoop i x s) :=
  ⟨Tab.nth_put_self _ _ hi, fun _ n => Tab.nth_put_ne _ _ n⟩

theorem occupyLoop_becomes :
    InputBecomes i { s.loops.inputs.nth i with state := .occupied, filter := 0, occupied := 0 } s (occupyLoop i s) :=
  (setLoop_becomes hi s _).kept (pairCovered_inputs _ i)

/-- R107. -/
theorem loopTapActive_becomes : InputBecomes i (s.loops.inputs.nth i).found s (loopTapActive i s) := by
  have active := setLoop_becomes hi s { s.loops.inputs.nth i with level := true }
  dsimp only [loopTapActive, LoopInput.found]
  split
  · split
    · rw [if_neg (by omega)]
      exact active.trans (setLoop_becomes hi _ _)
    · rw [if_pos (by omega)]
      have occupied := active.trans (occupyLoop_becomes hi _)
      rwa [active.self] at occupied
  · exact active

/-- R108. -/
theorem releaseLoop_becomes : InputBecomes i (s.loops.inputs.nth i).released s (releaseLoop i s) := by
  have released := setLoop_becomes hi s (s.loops.inputs.nth i).released
  dsimp only [releaseLoop]
  split
  · exact released
  · exact released.kept (pairCleared_inputs _ i)
  · exact released.kept (by rw [post_loops]; rfl)

/-- R106 to R108: a tap that reads the input. -/
theorem loopTap_becomes (active : Bool) :
    InputBecomes i (if active = false then (s.loops.inputs.nth i).released else (s.loops.inputs.nth i).found) s
      (loopTap i active s) := by
  cases active with
  | true => exact loopTapActive_becomes hi s
  | false => exact releaseLoop_becomes hi s

/-- R109. -/
theorem stickLoop_becomes :
    InputBecomes i { s.loops.inputs.nth i with state := .stuck, occupied := 120 } s (stickLoop i s) := by
  refine (setLoop_becomes hi s _).kept ?_
  rw [stickLoop, pairCleared_inputs, post_loops]

end Inputs

/-! ## What the changes leave and announce -/

section Announced

variable {i : Nat} {s : State}

/-- R108: a release of a loop that is not OCCUPIED is none of its pair's. -/
theorem releaseLoop_loops (h : (s.loops.inputs.nth i).state ≠ .occupied) :
    (releaseLoop i s).loops = { s.loops with inputs := s.loops.inputs.put i (s.loops.inputs.nth i).released } := by
  dsimp only [releaseLoop]
  split
  · rfl
  · exact absurd ‹_› h
  · rfl

/-- R108: the release of a STUCK loop announces LOOP_STATE (CLEAR). -/
theorem releaseLoop_announces (h : (s.loops.inputs.nth i).state = .stuck) :
    announced s (releaseLoop i s) (.loopState i false) := by
  simp only [releaseLoop, h]
  exact (does_setLoop s i _).announced_post _ rfl rfl

/-- R109: the entry to STUCK announces LOOP_STATE (STUCK). -/
theorem stickLoop_announces (i : Nat) (s : State) : announced s (stickLoop i s) (.loopState i true) :=
  ((does_setLoop s i _).announced_post _ rfl rfl).kept (pairCleared_quiet _ i) rfl

/-- R109: the 120th second of an OCCUPIED loop. -/
theorem occupiedTap_sticks (h : (s.loops.inputs.nth i).state = .occupied) (n : (s.loops.inputs.nth i).occupied = 119) :
    occupiedTap i s = stickLoop i s := by
  rw [occupiedTap, if_pos h, if_pos (by omega)]

end Announced

end Sys2Proof.Machine
end

section
/-! SUPPORT. The events of the loop inputs and of the sequences (R107 to R109, R113), and the loop inputs at a T32 tap (R106 to
R108). -/

namespace Sys2Proof.Machine

/-! ## The events -/

theorem exec_loopStuck {i : Nat} (hi : i < 8) {s : State} (hl : loading s = false)
    (hx : (s.loops.inputs.nth i).state = .occupied) (hn : (s.loops.inputs.nth i).occupied = 119) :
    exec (.loopStuck i) s = .next (fillSlots (stickLoop i s)) := by
  change execLoopStuck i s = _
  rw [execLoopStuck, within_of_lt hi, if_pos ⟨hl, hx, hn⟩, occupiedTap_sticks hx hn]

/-- R113: the 30th second of a sequence. -/
theorem exec_sequenceTimeout {p : Nat} (hp : p < 4) {s : State} (hl : loading s = false)
    (hx : (s.loops.pairs.nth p).sequence ≠ .idle) (hn : (s.loops.pairs.nth p).time = 29) :
    exec (.sequenceTimeout p) s = .next (timeoutSequence p s) := by
  change execSequenceTimeout p s = _
  rw [execSequenceTimeout, within_of_lt hp, if_pos ⟨hl, hx, hn⟩]

/-- What an event of a loop input can change, with the slots filled after it. -/
theorem loopEvent_frame {s t : State} (h : Does loopBlocks s t) : changesOnly loopBlocks s (fillSlots t) :=
  (h.trans ((does_fillSlots t).mono rfl)).frame

/-- R107: the input at its fourth active tap. -/
theorem found_occupied {x : LoopInput} (hv : x.supervised = true) (hx : x.state = .clear) (hf : x.filter = 3) :
    x.found = { x with level := true, state := .occupied, filter := 0, occupied := 0 } := by
  rw [LoopInput.found, if_pos ⟨hv, hx⟩, if_neg (by omega)]

/-- Settles O30: each event by what it makes of its input; a release that is none of the pair's leaves the rest of the loop
unit, and the notices of STUCK loops outlast the passage and the filling of the slots. -/
theorem loopEventsChangeTheirInput : Obligations.LoopEventsChangeTheirInput := by
  refine fun s hl => ⟨fun i hi => ⟨fun hv hx hf => ?_, ?_, fun hx hn => ?_⟩, fun p hp hx hn => ?_⟩
  · obtain ⟨self, others⟩ := (loopTapActive_becomes hi s).fill
    exact ⟨_, exec_loopOccupied hi hl hv hx hf, loopEvent_frame (does_loopTapActive i s),
      self.trans (found_occupied hv hx hf), others⟩
  · obtain ⟨self, others⟩ := (releaseLoop_becomes hi s).fill
    have loops (h : (s.loops.inputs.nth i).state ≠ .occupied) :=
      (fillSlots_loops (releaseLoop i s)).trans (releaseLoop_loops h)
    refine ⟨_, exec_loopRelease hi hl, ⟨loopEvent_frame (does_releaseLoop i s), self, others⟩, fun hx => ⟨?_, ?_⟩,
      fun hx => ?_⟩
    · rw [loops (by simp [hx])]
    · exact (releaseLoop_announces hx).kept (does_fillSlots _) rfl
    · rw [loops (by simp [hx])]
  · obtain ⟨self, others⟩ := (stickLoop_becomes hi s).fill
    exact ⟨_, exec_loopStuck hi hl hx hn, ⟨loopEvent_frame (does_stickLoop i s), self, others⟩,
      (stickLoop_announces i s).kept (does_fillSlots _) rfl⟩
  · exact exec_sequenceTimeout hp hl hx hn

/-! ## A T32 tap (R106 to R108) -/

theorem mem_t32Order (given : List T32Part) (p : T32Part) : p ∈ orderOf given t32Default := by
  rw [orderOf, List.mem_eraseDups, List.mem_append]
  right
  cases p <;> decide

/-- Each input takes its own tap, which leaves the others. -/
theorem loopsT32_input (levels : BitVec 8) (s : State) {i : Nat} (hi : i < 8) :
    (loopsT32 levels s).loops.inputs.nth i =
      if levels.getLsbD i = false then (s.loops.inputs.nth i).released else (s.loops.inputs.nth i).found := by
  obtain ⟨l₁, l₂, -, before, after⟩ := foldl_once (f := fun t j => loopTap j (levels.getLsbD j) t)
    (π := fun t : State => t.loops.inputs.nth i) (s := s) List.nodup_range (List.mem_range.mpr hi)
    fun k₁ j k₂ e n => by
      have hj : j < 8 := List.mem_range.mp (e ▸ by simp)
      exact (loopTap_becomes hj _ _).others i n.symm
  refine after.trans ((loopTap_becomes hi _ _).self.trans ?_)
  rw [before]

/-- The other parts of the tap leave the loop unit. -/
theorem runT32_loops (levels : BitVec 8) (keys : BitVec 2) (s : State) {q : T32Part} (h : q ≠ .loops) :
    (runT32 levels keys s q).loops = s.loops := by
  dsimp only [runT32]
  split
  · rfl
  · cases q with
    | loops => exact absurd rfl h
    | keys => exact (does_keysT32 keys s).loops rfl
    | paths => exact (does_pathsT32 s).loops rfl

theorem tapT32_input (levels : BitVec 8) (keys : BitVec 2) (order : List T32Part) {s : State} (hl : loading s = false)
    {i : Nat} (hi : i < 8) : (tapT32 levels keys order s).loops.inputs.nth i =
      if levels.getLsbD i = false then (s.loops.inputs.nth i).released else (s.loops.inputs.nth i).found := by
  obtain ⟨l₁, l₂, -, before, after⟩ := foldl_once (f := runT32 levels keys) (π := State.loops) (s := s)
    (nodup_orderOf order t32Default) (mem_t32Order order .loops) fun _ q _ _ n => runT32_loops levels keys _ n
  have tracking : loading (l₁.foldl (runT32 levels keys) s) = false := by
    rw [loading, (Does.foldl _ (does_runT32 levels keys) l₁ s).cfg rfl]
    exact hl
  rw [tapT32, fillSlots_loops, after, runT32, if_neg (by simp [tracking]), loopsT32_input _ _ hi, before]

/-- Settles O11: the keys and the paths leave the loop unit, and each input's tap leaves the other inputs. -/
theorem t32TapFiltersTheLoops : Obligations.T32TapFiltersTheLoops := fun levels keys order s hl =>
  ⟨_, rfl, (does_tapT32 levels keys order s).frame, fun _ hi => tapT32_input levels keys order hl hi⟩

end Sys2Proof.Machine
end

section
/-! SUPPORT. What a bay lamp and a face are formed from (R122, R126 to R131): lamps and faces one by one, and what leaves
them with all that they look at. -/

namespace Sys2Proof.Machine

/-! ## Lamps and faces one by one -/

/-- R122: the lamp of bay `b` wants the colour its bay and zone give. -/
def LampAt (s : State) (b : Nat) : Prop := (s.guide.lamps.nth b).wanted = lampColour s b

/-- R126 to R131: a face wants what its record and the inputs give, and a DECISION face keeps the law of its choice. -/
def FaceHolds (s : State) (r : FaceRec) (x : Face) : Prop :=
  (∀ v, faceShows s r = some v → x.wanted = v) ∧ (r.kind = .decision → ChoiceLaw s r x)

def FaceAt (s : State) (i f : Nat) : Prop := FaceHolds s (faceRec s i f) (faceOf s i f)

/-- R122: every bay lamp outside `L` wants its colour. -/
def LampsBut (L : Nat → Prop) (s : State) : Prop := ∀ b, b < 512 → L b ∨ LampAt s b

/-- R126 to R131: in RUNNING every present face whose record is outside `F` holds. -/
def FacesBut (F : FaceRec → Prop) (s : State) : Prop :=
  running s = true → ∀ x ∈ allFaces s, F (faceRec s x.1 x.2) ∨ FaceAt s x.1 x.2

theorem lampLaw_iff (s : State) : LampLaw s ↔ LampsBut (fun _ => False) s := by
  simp only [LampLaw, LampsBut, LampAt, false_or]

theorem faceLaw_iff (s : State) : FaceLaw s ↔ FacesBut (fun _ => False) s := by
  simp only [FaceLaw, FacesBut, FaceAt, FaceHolds, false_or]

theorem allFaces_congr {s t : State} (h : t.cfg.inForce = s.cfg.inForce) : allFaces t = allFaces s := by
  simp only [allFaces, presentSigns, h]

/-- R122: outside RUNNING every lamp is dark. -/
theorem lampColour_untracked {s : State} (h : running s = false) (b : Nat) : lampColour s b = .off := if_pos h

/-- R122: the colour of a lamp looks at the zone and the state of its bay, and at whether that zone is OPEN. -/
theorem lampColour_congr {s t : State} {b : Nat} (hr : running t = running s) (hk : t.cfg.inForce = s.cfg.inForce)
    (hz : (bayOf t b).zone = (bayOf s b).zone) (hs : (bayOf t b).state = (bayOf s b).state)
    (ho : zoneOpen t (bayOf s b).zone = zoneOpen s (bayOf s b).zone) : lampColour t b = lampColour s b := by
  unfold bayOf at hz hs ho
  unfold lampColour bayKind
  dsimp only
  rw [hr, hk, hz, hs, ho]

/-! ## What leaves them -/

/-- From `s` to `t` the bay lamps stand, and all that they are formed from. -/
structure SameLamps (s t : State) : Prop where
  state : t.cfg.state = s.cfg.state
  inForce : t.cfg.inForce = s.cfg.inForce
  status : t.guide.status = s.guide.status
  bayZone : ∀ b, (bayOf t b).zone = (bayOf s b).zone
  bayState : ∀ b, (bayOf t b).state = (bayOf s b).state
  lamp : ∀ b, (t.guide.lamps.nth b).wanted = (s.guide.lamps.nth b).wanted

/-- From `s` to `t` everything stands that the faces are formed from. -/
structure SameView (s t : State) : Prop where
  state : t.cfg.state = s.cfg.state
  inForce : t.cfg.inForce = s.cfg.inForce
  status : t.guide.status = s.guide.status
  free : t.occ.free = s.occ.free
  airState : ∀ z, (t.air.zones.nth z).state = (s.air.zones.nth z).state
  level : ∀ v, levelValue t v = levelValue s v

/-- The same, and the faces stand. -/
structure SameFaces (s t : State) : Prop extends SameView s t where
  wanted : ∀ i f, (faceOf t i f).wanted = (faceOf s i f).wanted
  choice : ∀ i f, (faceOf t i f).choice = (faceOf s i f).choice

/-- From `s` to `t` the lamps and the faces stand, and all that they are formed from. -/
structure SameGuidance (s t : State) : Prop where
  lamps : SameLamps s t
  faces : SameFaces s t

namespace SameLamps

variable {s t u : State} {L : Nat → Prop} {bs : List Block}

theorem refl (s : State) : SameLamps s s := ⟨rfl, rfl, rfl, fun _ => rfl, fun _ => rfl, fun _ => rfl⟩

/-- A change of guidance that leaves the statuses and the wanted colours. -/
theorem of_guide {g : Guidance} (hs : g.status = s.guide.status)
    (hl : ∀ b, (g.lamps.nth b).wanted = (s.guide.lamps.nth b).wanted) : SameLamps s { s with guide := g } :=
  ⟨rfl, rfl, hs, fun _ => rfl, fun _ => rfl, hl⟩

theorem trans (h : SameLamps s t) (k : SameLamps t u) : SameLamps s u where
  state := k.state.trans h.state
  inForce := k.inForce.trans h.inForce
  status := k.status.trans h.status
  bayZone b := (k.bayZone b).trans (h.bayZone b)
  bayState b := (k.bayState b).trans (h.bayState b)
  lamp b := (k.lamp b).trans (h.lamp b)

theorem foldl {α : Type} (f : State → α → State) (h : ∀ t x, SameLamps t (f t x)) (l : List α) (s : State) :
    SameLamps s (l.foldl f s) := by
  induction l generalizing s with
  | nil => exact refl s
  | cons x l ih => exact (h s x).trans (ih _)

theorem running (h : SameLamps s t) : running t = running s := by simp only [Machine.running, h.state]

theorem zoneOpen (h : SameLamps s t) (z : Nat) : zoneOpen t z = Machine.zoneOpen s z := by
  simp only [Machine.zoneOpen, h.inForce, h.status]

theorem lampColour (h : SameLamps s t) (b : Nat) : lampColour t b = Machine.lampColour s b :=
  lampColour_congr h.running h.inForce (h.bayZone b) (h.bayState b) (h.zoneOpen _)

theorem lampsBut (h : SameLamps s t) (l : LampsBut L s) : LampsBut L t := by
  intro b hb
  rw [LampAt, h.lamp, h.lampColour]
  exact l b hb

end SameLamps

namespace SameView

variable {s t u : State}

theorem refl (s : State) : SameView s s := ⟨rfl, rfl, rfl, rfl, fun _ => rfl, fun _ => rfl⟩

/-- A change of guidance that leaves the statuses and the other-level table. -/
theorem of_guide {g : Guidance} (hs : g.status = s.guide.status) (hl : g.levels = s.guide.levels) :
    SameView s { s with guide := g } :=
  ⟨rfl, rfl, hs, rfl, fun _ => rfl, fun v => by rw [levelValue, levelValue, hl]⟩

theorem trans (h : SameView s t) (k : SameView t u) : SameView s u where
  state := k.state.trans h.state
  inForce := k.inForce.trans h.inForce
  status := k.status.trans h.status
  free := k.free.trans h.free
  airState z := (k.airState z).trans (h.airState z)
  level v := (k.level v).trans (h.level v)

theorem running (h : SameView s t) : running t = running s := by simp only [Machine.running, h.state]

theorem choices (h : SameView s t) : SameChoices s t := ⟨h.inForce, h.status, h.free, h.airState⟩

theorem allFaces (h : SameView s t) : allFaces t = Machine.allFaces s := allFaces_congr h.inForce

end SameView

/-! ## The view of one face -/

theorem mem_maskZones {m : ZoneMask} {z : Nat} : z ∈ maskZones m ↔ z ∈ zoneIndices ∧ maskHas m z = true := by
  rw [maskZones, List.mem_filter]

/-- From `s` to `t` zone `z` is shown the same. -/
def SameShown (s t : State) (z : Nat) : Prop :=
  zoneOpen t z = zoneOpen s z ∧ zoneFull t z = zoneFull s z ∧ t.occ.free.nth z = s.occ.free.nth z

/-- From `s` to `t` everything stands that a face of record `r` looks at: its zones, a DECISION face their air states
too, and its level. -/
structure SameSight (r : FaceRec) (s t : State) : Prop where
  shown : ∀ z, faceHasZone r z = true → SameShown s t z
  airState : r.kind = .decision → ∀ z, faceHasZone r z = true →
    (t.air.zones.nth z).state = (s.air.zones.nth z).state
  level : r.kind = .level → levelValue t r.level = levelValue s r.level

theorem SameView.sight {s t : State} (h : SameView s t) (r : FaceRec) : SameSight r s t where
  shown z _ := ⟨h.choices.zoneOpen z, by simp only [zoneFull, h.inForce, h.status], by rw [h.free]⟩
  airState _ z _ := h.airState z
  level _ := h.level _

section Sight

variable {s t : State}

/-- R126, R128: the free count over the OPEN zones of a mask. -/
def openFree (s : State) (kinds : KindMask) (m : ZoneMask) : Nat :=
  ((maskZones m).filter (zoneOpen s)).foldl (fun n z => n + maskedFree s kinds z) 0

theorem openFree_congr {m : ZoneMask} (h : ∀ z, maskHas m z = true → SameShown s t z) (kinds : KindMask) :
    openFree t kinds m = openFree s kinds m := by
  have ho : (maskZones m).filter (zoneOpen t) = (maskZones m).filter (zoneOpen s) :=
    List.filter_congr fun z hz => (h z (mem_maskZones.mp hz).2).1
  rw [openFree, openFree, ho]
  refine List.foldl_ext _ _ _ fun n z hz => ?_
  obtain ⟨_, _, hf⟩ := h z (mem_maskZones.mp (List.mem_filter.mp hz).1).2
  simp only [maskedFree, hf]

theorem countValue_congr {r : FaceRec} (h : ∀ z, maskHas r.zones z = true → SameShown s t z) :
    countValue t r = countValue s r := by
  have hs : ((maskZones r.zones).filter (zoneOpen t)).foldl (fun n z => n + maskedFree t r.kinds z) 0
      = ((maskZones r.zones).filter (zoneOpen s)).foldl (fun n z => n + maskedFree s r.kinds z) 0 :=
    openFree_congr h r.kinds
  have ha : (maskZones r.zones).any (fun z => zoneOpen t z || zoneFull t z)
      = (maskZones r.zones).any (fun z => zoneOpen s z || zoneFull s z) := by
    rw [Bool.eq_iff_iff, List.any_eq_true, List.any_eq_true]
    refine exists_congr fun z => and_congr_right fun hz => ?_
    obtain ⟨ho, hf, _⟩ := h z (mem_maskZones.mp hz).2
    rw [ho, hf]
  simp only [countValue, hs, ha]

theorem candidateFree_congr {c : Candidate} (h : ∀ z, maskHas c.zones z = true → SameShown s t z) (kinds : KindMask) :
    candidateFree t kinds c = candidateFree s kinds c := openFree_congr h kinds

theorem tierOne_congr {r : FaceRec} {c : Candidate} (h : ∀ z, maskHas c.zones z = true →
    SameShown s t z ∧ (t.air.zones.nth z).state = (s.air.zones.nth z).state) : tierOne t r c = tierOne s r c := by
  have ho : (maskZones c.zones).filter (zoneOpen t) = (maskZones c.zones).filter (zoneOpen s) :=
    List.filter_congr fun z hz => (h z (mem_maskZones.mp hz).2).1.1
  have ha : ((maskZones c.zones).filter (zoneOpen s)).all (fun z => (t.air.zones.nth z).state == .clear)
      = ((maskZones c.zones).filter (zoneOpen s)).all (fun z => (s.air.zones.nth z).state == .clear) := by
    rw [Bool.eq_iff_iff, List.all_eq_true, List.all_eq_true]
    refine forall₂_congr fun z hz => ?_
    rw [(h z (mem_maskZones.mp (List.mem_filter.mp hz).1).2).2]
  simp only [tierOne, eligible, ho, ha, candidateFree_congr fun z hz => (h z hz).1]

namespace SameSight

variable {r : FaceRec}

/-- R128: the zones of the candidates of a DECISION face are zones of the face. -/
theorem candidate (h : SameSight r s t) (hk : r.kind = .decision) {c : Candidate} (hc : c ∈ r.candidates) {z : Nat}
    (hz : maskHas c.zones z = true) : SameShown s t z ∧ (t.air.zones.nth z).state = (s.air.zones.nth z).state := by
  have hf : faceHasZone r z = true := by
    rw [faceHasZone, hk]
    exact List.any_eq_true.mpr ⟨c, hc, hz⟩
  exact ⟨h.shown z hf, h.airState hk z hf⟩

theorem candidateFree (h : SameSight r s t) (hk : r.kind = .decision) {c : Candidate} (hc : c ∈ r.candidates) :
    candidateFree t r.kinds c = Machine.candidateFree s r.kinds c :=
  candidateFree_congr (fun _ hz => (h.candidate hk hc hz).1) _

theorem eligibleSet (h : SameSight r s t) (hk : r.kind = .decision) : eligibleSet t r = Machine.eligibleSet s r := by
  have any {p q : Candidate → Bool} (hpq : ∀ c ∈ r.candidates, p c = q c) (k : Nat) :
      (r.candidates[k]?).any p = (r.candidates[k]?).any q := by
    cases e : r.candidates[k]? with
    | none => rfl
    | some c => exact hpq c (List.mem_of_getElem? e)
  have he := any (p := eligible t r) (q := eligible s r) fun c hc => by simp only [eligible, h.candidateFree hk hc]
  have ht := any (p := tierOne t r) (q := tierOne s r) fun c hc => tierOne_congr fun _ hz => h.candidate hk hc hz
  simp only [Machine.eligibleSet, he, ht]

theorem choiceValue (h : SameSight r s t) (hk : r.kind = .decision) (c : Option Nat) :
    choiceValue t r c = Machine.choiceValue s r c := by
  unfold Machine.choiceValue
  cases e : c.bind (fun k => r.candidates[k]?) with
  | none => rfl
  | some c =>
    obtain ⟨k, -, hc⟩ := Option.bind_eq_some_iff.mp e
    simp only [h.candidateFree hk (List.mem_of_getElem? hc)]

theorem faceShows (h : SameSight r s t) : faceShows t r = Machine.faceShows s r := by
  unfold Machine.faceShows
  cases hk : r.kind with
  | count =>
    rw [countValue_congr fun z hz => h.shown z ?_]
    rw [faceHasZone, hk]
    exact hz
  | level => rw [h.level hk]
  | decision => rfl
  | blank => rfl

/-- R126 to R131: what leaves all that a face looks at leaves it as its inputs give. -/
theorem faceHolds (h : SameSight r s t) {x y : Face} (hw : y.wanted = x.wanted) (hc : y.choice = x.choice)
    (l : FaceHolds s r x) : FaceHolds t r y := by
  obtain ⟨hv, hd⟩ := l
  refine ⟨by rw [h.faceShows, hw]; exact hv, fun hk => ?_⟩
  obtain ⟨eligible, enough, none, wanted⟩ := hd hk
  refine ⟨?_, ?_, ?_, ?_⟩
  · rw [hc, h.eligibleSet hk]
    exact eligible
  · rw [hc]
    intro k e
    obtain ⟨c, ek, hm⟩ := enough k e
    exact ⟨c, ek, by rw [h.candidateFree hk (List.mem_of_getElem? ek)]; exact hm⟩
  · rw [hc, h.eligibleSet hk]
    exact none
  · rw [hw, hc, h.choiceValue hk]
    exact wanted

end SameSight

end Sight

namespace SameFaces

variable {s t u : State} {F : FaceRec → Prop}

theorem refl (s : State) : SameFaces s s := ⟨.refl s, fun _ _ => rfl, fun _ _ => rfl⟩

theorem trans (h : SameFaces s t) (k : SameFaces t u) : SameFaces s u where
  toSameView := h.toSameView.trans k.toSameView
  wanted i f := (k.wanted i f).trans (h.wanted i f)
  choice i f := (k.choice i f).trans (h.choice i f)

theorem foldl {α : Type} (f : State → α → State) (h : ∀ t x, SameFaces t (f t x)) (l : List α) (s : State) :
    SameFaces s (l.foldl f s) := by
  induction l generalizing s with
  | nil => exact refl s
  | cons x l ih => exact (h s x).trans (ih _)

theorem facesBut (h : SameFaces s t) (l : FacesBut F s) : FacesBut F t := by
  intro hr x hx
  rw [h.running] at hr
  rw [h.allFaces] at hx
  rw [FaceAt, faceRec_congr h.inForce]
  exact (l hr x hx).imp_right ((h.sight _).faceHolds (h.wanted _ _) (h.choice _ _))

end SameFaces

namespace SameGuidance

variable {s t u : State} {bs : List Block}

theorem refl (s : State) : SameGuidance s s := ⟨.refl s, .refl s⟩

theorem trans (h : SameGuidance s t) (k : SameGuidance t u) : SameGuidance s u :=
  ⟨h.lamps.trans k.lamps, h.faces.trans k.faces⟩

theorem ite {c : Prop} [Decidable c] (h : c → SameGuidance s t) (k : ¬c → SameGuidance s u) :
    SameGuidance s (if c then t else u) := by
  split
  · exact h ‹_›
  · exact k ‹_›

theorem foldl {α : Type} (f : State → α → State) (h : ∀ t x, SameGuidance t (f t x)) (l : List α) (s : State) :
    SameGuidance s (l.foldl f s) := by
  induction l generalizing s with
  | nil => exact refl s
  | cons x l ih => exact (h s x).trans (ih _)

/-- The blocks in which the laws of lamps and faces look at nothing. -/
abbrev otherBlocks : List Block :=
  [.time, .fan, .light, .loops, .ovr, .slots, .bus, .notices, .link, .free, .pending]

/-- A change that leaves the state and the copy in force of the configuration unit, the occupancy unit, the air monitor
and the guidance controller. -/
theorem of_units (hs : t.cfg.state = s.cfg.state) (hi : t.cfg.inForce = s.cfg.inForce) (ho : t.occ = s.occ)
    (ha : t.air = s.air) (hg : t.guide = s.guide) : SameGuidance s t where
  lamps := ⟨hs, hi, by rw [hg], fun b => by rw [bayOf, bayOf, ho], fun b => by rw [bayOf, bayOf, ho],
    fun b => by rw [hg]⟩
  faces :=
    { toSameView := ⟨hs, hi, by rw [hg], by rw [ho], fun z => by rw [ha], fun v => by rw [levelValue, levelValue, hg]⟩
      wanted := fun i f => by rw [faceOf, faceOf, hg]
      choice := fun i f => by rw [faceOf, faceOf, hg] }

/-- A change of the bays that leaves their zones and states, and the free counts. -/
theorem of_bays {o : Occupancy} (hf : o.free = s.occ.free)
    (h : ∀ b, (o.bays.nth b).zone = (bayOf s b).zone ∧ (o.bays.nth b).state = (bayOf s b).state) :
    SameGuidance s { s with occ := o } where
  lamps := ⟨rfl, rfl, rfl, fun b => (h b).1, fun b => (h b).2, fun _ => rfl⟩
  faces := ⟨⟨rfl, rfl, rfl, hf, fun _ => rfl, fun _ => rfl⟩, fun _ _ => rfl, fun _ _ => rfl⟩

/-- A change of the air monitor that leaves the air states. -/
theorem of_air {a : Air} (h : ∀ z, (a.zones.nth z).state = (s.air.zones.nth z).state) :
    SameGuidance s { s with air := a } where
  lamps := ⟨rfl, rfl, rfl, fun _ => rfl, fun _ => rfl, fun _ => rfl⟩
  faces := ⟨⟨rfl, rfl, rfl, rfl, h, fun _ => rfl⟩, fun _ _ => rfl, fun _ _ => rfl⟩

/-- What changes only waiting marks in guidance. -/
theorem of_marks (h : Does bs s t) (k : bs.all (fun b => (Block.guide :: otherBlocks).contains b) = true)
    (m : MarksOnly s t) : SameGuidance s t where
  lamps :=
    have d := h.mono k
    ⟨by rw [d.cfg rfl], by rw [d.cfg rfl], m.status, fun b => by rw [d.bayOf rfl], fun b => by rw [d.bayOf rfl],
      m.lampWanted⟩
  faces :=
    have d := h.mono k
    ⟨⟨by rw [d.cfg rfl], by rw [d.cfg rfl], m.status, by rw [d.occ rfl], fun z => by rw [d.air rfl],
      fun v => by rw [levelValue, levelValue, m.levels]⟩, m.faceWanted, m.faceChoice⟩

/-- A change of the configuration unit that leaves its state and the copy in force. -/
theorem of_cfg (h : Does bs s t) (k : bs.all (fun b => (Block.cfg :: otherBlocks).contains b) = true)
    (hs : t.cfg.state = s.cfg.state) (hi : t.cfg.inForce = s.cfg.inForce) : SameGuidance s t :=
  have d := h.mono k
  .of_units hs hi (d.occ rfl) (d.air rfl) (d.guide rfl)

theorem of_does (h : Does bs s t) (k : bs.all (fun b => otherBlocks.contains b) = true) : SameGuidance s t :=
  have d := h.mono k
  .of_units (by rw [d.cfg rfl]) (by rw [d.cfg rfl]) (d.occ rfl) (d.air rfl) (d.guide rfl)

end SameGuidance

/-! ## What keeps both laws -/

/-- From `s` to `t` the law of the bay lamps and the law of the faces are kept. -/
structure KeepsGuidance (s t : State) : Prop where
  lamps : LampLaw s → LampLaw t
  faces : FaceLaw s → FaceLaw t

namespace KeepsGuidance

variable {s t u : State} {bs : List Block}

theorem of_but (hl : LampsBut (fun _ => False) s → LampsBut (fun _ => False) t)
    (hf : FacesBut (fun _ => False) s → FacesBut (fun _ => False) t) : KeepsGuidance s t :=
  ⟨fun l => (lampLaw_iff t).mpr (hl ((lampLaw_iff s).mp l)), fun l => (faceLaw_iff t).mpr (hf ((faceLaw_iff s).mp l))⟩

theorem same (h : SameGuidance s t) : KeepsGuidance s t := .of_but h.lamps.lampsBut h.faces.facesBut

theorem of_units (hs : t.cfg.state = s.cfg.state) (hi : t.cfg.inForce = s.cfg.inForce) (ho : t.occ = s.occ)
    (ha : t.air = s.air) (hg : t.guide = s.guide) : KeepsGuidance s t := same (.of_units hs hi ho ha hg)

theorem refl (s : State) : KeepsGuidance s s := ⟨id, id⟩

theorem trans (h : KeepsGuidance s t) (k : KeepsGuidance t u) : KeepsGuidance s u :=
  ⟨k.lamps ∘ h.lamps, k.faces ∘ h.faces⟩

/-- What leaves everything the laws look at, after what keeps them. -/
theorem after (h : KeepsGuidance s t) (k : SameGuidance t u) : KeepsGuidance s u := h.trans (same k)

theorem of_does (h : Does bs s t) (k : bs.all (fun b => SameGuidance.otherBlocks.contains b) = true) :
    KeepsGuidance s t := same (.of_does h k)

theorem afterDoes (h : KeepsGuidance s t) (d : Does bs t u)
    (k : bs.all (fun b => SameGuidance.otherBlocks.contains b) = true) : KeepsGuidance s u := h.after (.of_does d k)

theorem ite {c : Prop} [Decidable c] (h : c → KeepsGuidance s t) (k : ¬c → KeepsGuidance s u) :
    KeepsGuidance s (if c then t else u) := by
  split
  · exact h ‹_›
  · exact k ‹_›

theorem foldl {α : Type} (f : State → α → State) (h : ∀ t x, KeepsGuidance t (f t x)) (l : List α) (s : State) :
    KeepsGuidance s (l.foldl f s) := by
  induction l generalizing s with
  | nil => exact refl s
  | cons x l ih => exact (h s x).trans (ih _)

theorem answered (h : KeepsGuidance s t) (kind : Nat) (r : Result) (fields : List Byte) :
    KeepsGuidance s (answer kind r fields t) := h.afterDoes (does_answer t _ _ _) rfl

end KeepsGuidance

end Sys2Proof.Machine
end

section
/-! SUPPORT. Lamps and faces formed again, and an arrival at guidance (R120, R122, R125 to R132): what is formed again
wants what its inputs give, and the rest stands. -/

namespace Sys2Proof.Machine

/-! ## Marks -/

theorem sameGuidance_note (d : Dest) (mark : Bool) (s : State) : SameGuidance s (note d mark s) :=
  .of_marks (does_note d mark s) (by cases d <;> rfl) (marks_note d mark s)

theorem sameGuidance_fillSlots (s : State) : SameGuidance s (fillSlots s) :=
  .of_marks (does_fillSlots s) rfl (marks_fillSlots s)

/-- R165. -/
theorem KeepsGuidance.fill {s t : State} (h : KeepsGuidance s t) : KeepsGuidance s (fillSlots t) :=
  h.after (sameGuidance_fillSlots t)

/-! ## Lamps (R122) -/

theorem setLamp_lamp (b : Nat) (x : Lamp) (s : State) (c : Nat) :
    (setLamp b x s).guide.lamps.nth c = if c = b ∧ b < 512 then x else s.guide.lamps.nth c := Tab.nth_put _ _ _ _

theorem formLamp_wanted (b c : Nat) (s : State) : ((formLamp b s).guide.lamps.nth c).wanted =
    if c = b ∧ b < 512 then lampColour s b else (s.guide.lamps.nth c).wanted := by
  rw [formLamp, (marks_note _ _ _).lampWanted, setLamp_lamp]
  split <;> rfl

theorem lampColour_formLamp (b c : Nat) (s : State) : lampColour (formLamp b s) c = lampColour s c := by
  have d := does_formLamp b s
  exact lampColour_congr (d.running rfl) (by rw [d.cfg rfl]) (by rw [d.bayOf rfl]) (by rw [d.bayOf rfl])
    ((SameChoices.of_quiet (quiet_formLamp b s)).zoneOpen _)

/-- R122: a lamp formed again wants its colour, and every other lamp that wanted its colour still does. -/
theorem lampAt_formLamp {b c : Nat} {s : State} (hc : c < 512) (h : c = b ∨ LampAt s c) : LampAt (formLamp b s) c := by
  rw [LampAt, formLamp_wanted, lampColour_formLamp]
  split
  · rename_i e
    rw [e.1]
  · rename_i n
    exact h.resolve_left fun e => n ⟨e, e ▸ hc⟩

theorem lampsBut_formLamp {b : Nat} {L : Nat → Prop} {s : State} (l : LampsBut (fun c => L c ∨ c = b) s) :
    LampsBut L (formLamp b s) := fun c hc => (or_assoc.mp (l c hc)).imp_right (lampAt_formLamp hc)

theorem lampsBut_formLamps {bs : List Nat} {L : Nat → Prop} {s : State} (l : LampsBut (fun c => L c ∨ c ∈ bs) s) :
    LampsBut L (formLamps bs s) := by
  induction bs generalizing s with
  | nil => exact fun c hc => (l c hc).imp_left fun h => h.resolve_right List.not_mem_nil
  | cons b bs ih =>
    refine ih (lampsBut_formLamp fun c hc => ?_)
    simpa only [List.mem_cons, or_assoc, or_comm (a := c = b)] using l c hc

/-- R122: the colours of the lamps do not look at the faces, nor the faces at the lamps. -/
theorem sameFaces_formLamp (b : Nat) (s : State) : SameFaces s (formLamp b s) :=
  .trans (t := setLamp b _ s) ⟨.of_guide rfl rfl, fun _ _ => rfl, fun _ _ => rfl⟩
    (sameGuidance_note (.lamp b) _ _).faces

theorem sameFaces_formLamps (bs : List Nat) (s : State) : SameFaces s (formLamps bs s) :=
  .foldl _ (fun t b => sameFaces_formLamp b t) bs s

/-- R2. -/
theorem mem_zoneBays {s : State} {z b : Nat} : b ∈ zoneBays s z ↔ b < 512 ∧ (bayOf s b).zone = z := by
  simp [zoneBays, bayOf]

/-- R120: the lamps of the bays of some zones are formed again. -/
theorem lampsBut_formZones {zs : List Nat} {L : Nat → Prop} {s : State}
    (l : LampsBut (fun c => L c ∨ (bayOf s c).zone ∈ zs) s) :
    LampsBut L (zs.foldl (fun t z => formLamps (zoneBays t z) t) s) := by
  induction zs generalizing s with
  | nil =>
    rw [List.foldl_nil]
    exact fun c hc => (l c hc).imp_left fun h => h.resolve_right List.not_mem_nil
  | cons z zs ih =>
    rw [List.foldl_cons]
    refine ih (lampsBut_formLamps fun c hc => (l c hc).imp_left fun h => ?_)
    dsimp only at h ⊢
    rw [(does_formLamps _ s).bayOf rfl, mem_zoneBays]
    rw [List.mem_cons] at h
    rcases h with h | h | h
    · exact .inl (.inl h)
    · exact .inr ⟨hc, h⟩
    · exact .inl (.inr h)

/-! ## Faces (R125 to R132) -/

/-- R129: the first and the other candidate of both pairs are the candidates 0..3. -/
theorem mem_selectOrder (t : Tree) {k : Nat} (h : k < 4) : k ∈ selectOrder t := by
  obtain ⟨b0, b1, b2⟩ := t
  revert k
  cases b0 <;> cases b1 <;> cases b2 <;> decide

/-- R129: a selection is in the eligible set, and is NONE only when none of the candidates 0..3 is. -/
theorem select_mem {t : Tree} {set : List Nat} {k : Nat} (h : select t set = some k) : k ∈ set := by
  simpa using List.find?_some h

theorem select_none {t : Tree} {set : List Nat} (h : select t set = none) {k : Nat} (hk : k < 4) : k ∉ set := by
  simpa using List.find?_eq_none.mp h k (mem_selectOrder t hk)

/-- R128: a candidate of the eligible set has the free count that the face asks for. -/
theorem enough_of_mem {s : State} {r : FaceRec} {k : Nat} (h : k ∈ eligibleSet s r) :
    ∃ c, r.candidates[k]? = some c ∧ r.minFree ≤ candidateFree s r.kinds c := by
  have any {p : Candidate → Bool} (hp : ∀ c, p c = true → eligible s r c = true)
      (ha : (r.candidates[k]?).any p = true) :
      ∃ c, r.candidates[k]? = some c ∧ r.minFree ≤ candidateFree s r.kinds c := by
    obtain ⟨c, hc, he⟩ := (Option.any_eq_true _ _).mp ha
    exact ⟨c, hc, by simpa [eligible] using hp c he⟩
  unfold eligibleSet at h
  dsimp only at h
  split at h
  · exact any (fun _ => id) (List.mem_filter.mp h).2
  · exact any (fun c hc => by simp only [tierOne, Bool.and_eq_true] at hc; exact hc.1) (List.mem_filter.mp h).2

/-- R128, R129: a face whose choice comes from the eligible set, or is NONE as no candidate is eligible, and that shows
it. -/
theorem choiceLaw_of {s : State} {r : FaceRec} {x : Face} (hm : ∀ k, x.choice = some k → k ∈ eligibleSet s r)
    (hn : x.choice = none → ∀ k, k < 4 → k ∉ eligibleSet s r) (hw : x.wanted = choiceValue s r x.choice) :
    ChoiceLaw s r x := ⟨hm, fun k e => enough_of_mem (hm k e), hn, hw⟩

/-- R131: a choice judged again. -/
theorem judged_cases (s : State) (r : FaceRec) (x : Face) :
    (∃ k, k ∈ eligibleSet s r ∧ judged s r x = some k) ∨ judged s r x = select x.tree (eligibleSet s r) := by
  unfold judged
  dsimp only
  split
  · split
    · rename_i hm
      exact .inl ⟨_, List.contains_iff_mem.mp hm, rfl⟩
    · exact .inr rfl
  · exact .inr rfl

/-- R125 to R131: a face formed again holds. -/
theorem faceHolds_formedFace (s : State) (r : FaceRec) (x : Face) : FaceHolds s r (formedFace s r x) := by
  unfold FaceHolds faceShows formedFace
  cases hk : r.kind with
  | count => exact ⟨fun v h => Option.some.inj h, fun h => absurd h (by decide)⟩
  | level => exact ⟨fun v h => Option.some.inj h, fun h => absurd h (by decide)⟩
  | blank => exact ⟨fun v h => Option.some.inj h, fun h => absurd h (by decide)⟩
  | decision =>
    refine ⟨fun v h => absurd h (by simp), fun _ => choiceLaw_of ?_ ?_ rfl⟩ <;>
      rcases judged_cases s r x with ⟨k, hm, e⟩ | e <;> dsimp only <;> rw [e]
    · exact fun j h => Option.some.inj h ▸ hm
    · exact fun j h => select_mem h
    · exact fun h => absurd h (by simp)
    · exact fun h j hj => select_none h hj

/-- R130: an advanced face holds. -/
theorem Advanced.faceHolds {s : State} {r : FaceRec} {old new : Face} (a : Advanced s r old new)
    (hk : r.kind = .decision) : FaceHolds s r new := by
  obtain ⟨-, hc, hw⟩ := a
  refine ⟨fun v h => ?_, fun _ => choiceLaw_of ?_ ?_ hw⟩
  · simp [faceShows, hk] at h
  · rw [hc]
    exact fun k h => select_mem h
  · rw [hc]
    exact fun h k hk => select_none h hk

theorem faceOf_formFace (i f : Nat) (s : State) (j h : Nat) : (faceOf (formFace i f s) j h).bare =
    if (j = i ∧ i < 24) ∧ h = f ∧ f < 4 then (formedFace s (faceRec s i f) (faceOf s i f)).bare
    else (faceOf s j h).bare := faceOf_putFace _ _ _ _ _ _

/-- R126 to R131: the inputs of the faces do not look at the faces. -/
theorem sameView_putFace (i f : Nat) (x : Face) (s : State) : SameView s (putFace i f x s) :=
  .trans (t := setFace i f x s) (.of_guide rfl rfl) (sameGuidance_note (.face i f) _ _).faces.toSameView

theorem sameLamps_putFace (i f : Nat) (x : Face) (s : State) : SameLamps s (putFace i f x s) :=
  .trans (t := setFace i f x s) (.of_guide rfl fun _ => rfl) (sameGuidance_note (.face i f) _ _).lamps

theorem FaceHolds.of_bare {s : State} {r : FaceRec} {x y : Face} (h : y.bare = x.bare) (l : FaceHolds s r x) :
    FaceHolds s r y := by
  obtain ⟨-, hc, hw⟩ := Face.choice_of_bare h
  exact ((SameView.refl s).sight r).faceHolds hw hc l

/-- R132: a face formed again holds, and so does every other that held. -/
theorem faceAt_formFace {i f j h : Nat} {s : State} (hj : j < 24) (hh : h < 4) (l : (j, h) = (i, f) ∨ FaceAt s j h) :
    FaceAt (formFace i f s) j h := by
  have v : SameView s (formFace i f s) := sameView_putFace i f _ s
  rw [FaceAt, faceRec_congr v.inForce]
  refine (v.sight _).faceHolds rfl rfl ?_
  have e := faceOf_formFace i f s j h
  split at e
  · rename_i k
    rw [k.1.1, k.2.1] at e ⊢
    exact (faceHolds_formedFace s _ _).of_bare e
  · rename_i n
    refine FaceHolds.of_bare e (l.resolve_left fun k => ?_)
    rw [Prod.mk.injEq] at k
    exact n ⟨⟨k.1, k.1 ▸ hj⟩, k.2, k.2 ▸ hh⟩

theorem sameView_formFaceList (l : List (Nat × Nat)) (s : State) :
    SameView s (l.foldl (fun t x => formFace x.1 x.2 t) s) := by
  induction l generalizing s with
  | nil => exact .refl s
  | cons x l ih => exact (sameView_putFace x.1 x.2 _ s).trans (ih _)

theorem faceAt_formFaceList {l : List (Nat × Nat)} {x : Nat × Nat} {s : State} (hi : x.1 < 24) (hf : x.2 < 4)
    (h : x ∈ l ∨ FaceAt s x.1 x.2) : FaceAt (l.foldl (fun t y => formFace y.1 y.2 t) s) x.1 x.2 := by
  induction l generalizing s with
  | nil => exact h.resolve_left (by simp)
  | cons y l ih =>
    rw [List.mem_cons, or_assoc, or_left_comm] at h
    exact ih (h.imp_right (faceAt_formFace hi hf))

/-- R132: after the faces that meet `p` are formed again only the others can fail to hold. -/
theorem facesBut_formFaces {p : FaceRec → Bool} {F : FaceRec → Prop} {s : State}
    (l : FacesBut (fun r => F r ∨ p r = true) s) : FacesBut F (formFaces p s) := by
  have v : SameView s (formFaces p s) := sameView_formFaceList _ s
  intro hr x hx
  rw [v.running] at hr
  rw [v.allFaces] at hx
  rw [faceRec_congr v.inForce]
  obtain ⟨hi, hf⟩ := lt_of_mem_allFaces hx
  refine (or_assoc.mp (l hr x hx)).imp_right fun k => faceAt_formFaceList hi hf (k.imp_left fun hp => ?_)
  exact List.mem_filter.mpr ⟨hx, hp⟩

theorem sameLamps_formFaces (p : FaceRec → Bool) (s : State) : SameLamps s (formFaces p s) :=
  .foldl (fun t (x : Nat × Nat) => formFace x.1 x.2 t) (fun t x => sameLamps_putFace x.1 x.2 _ t) _ s

/-! ## Arrivals at guidance (R120) -/

theorem takeStatuses_status {zs : List Nat} {z : Nat} (h : z ∉ zs) (s : State) :
    (takeStatuses zs s).guide.status.nth z = s.guide.status.nth z := by
  by_cases hz : z < 16
  · exact (nth_foldl_put _ zs _ hz).trans (if_neg h)
  · rw [Tab.nth_of_ge _ (by omega), Tab.nth_of_ge _ (by omega)]

/-- R119: a zone whose status is not taken afresh is shown as before. -/
theorem sameShown_takeStatuses {zs : List Nat} {z : Nat} (h : z ∉ zs) (s : State) :
    SameShown s (takeStatuses zs s) z := by
  simp only [SameShown, zoneOpen, zoneFull, takeStatuses_status h]
  exact ⟨rfl, rfl, rfl⟩

theorem lampsBut_takeStatuses {zs : List Nat} {L : Nat → Prop} {s : State} (l : LampsBut L s) :
    LampsBut (fun c => L c ∨ (bayOf s c).zone ∈ zs) (takeStatuses zs s) := by
  intro c hc
  by_cases hm : (bayOf s c).zone ∈ zs
  · exact .inl (.inr hm)
  · refine (l c hc).imp .inl fun k => k.trans ?_
    exact (lampColour_congr (s := s) (t := takeStatuses zs s) rfl rfl rfl rfl (sameShown_takeStatuses hm s).1).symm

theorem facesBut_takeStatuses {zs : List Nat} {F : FaceRec → Prop} {s : State} (l : FacesBut F s) :
    FacesBut (fun r => F r ∨ zs.any (faceHasZone r) = true) (takeStatuses zs s) := by
  intro hr x hx
  by_cases hm : zs.any (faceHasZone (faceRec s x.1 x.2)) = true
  · exact .inl (.inr hm)
  · refine (l hr x hx).imp .inl fun k => SameSight.faceHolds ?_ rfl rfl k
    refine ⟨fun z hz => sameShown_takeStatuses (fun hmem => hm ?_) s, fun _ _ _ => rfl, fun _ => rfl⟩
    exact List.any_eq_true.mpr ⟨z, hmem, hz⟩

/-- R120, R122: an arrival forms the lamps again whose zone it changes; the others stand. -/
theorem lampsBut_guideArrival {zs : List Nat} {also : FaceRec → Bool} {L : Nat → Prop} {s : State} (l : LampsBut L s) :
    LampsBut L (guideArrival zs also s) := by
  dsimp only [guideArrival]
  split
  · refine (SameGuidance.of_does (does_postAll _ _) rfl).lamps.lampsBut ((sameLamps_formFaces _ _).lampsBut ?_)
    exact lampsBut_formZones (lampsBut_takeStatuses l)
  · exact l

/-- R120, R132: an arrival forms the faces again that have a zone it changes, and those it names; the others stand. -/
theorem facesBut_guideArrival {zs : List Nat} {also : FaceRec → Bool} {F : FaceRec → Prop} {s : State}
    (l : FacesBut (fun r => F r ∨ also r = true) s) : FacesBut F (guideArrival zs also s) := by
  dsimp only [guideArrival]
  split
  · refine (SameGuidance.of_does (does_postAll _ _) rfl).faces.facesBut (facesBut_formFaces ?_)
    have h := facesBut_takeStatuses (zs := changedZones zs s) l
    simp only [or_assoc, ← Bool.or_eq_true] at h
    exact (SameFaces.foldl _ (fun t z => sameFaces_formLamps _ t) _ _).facesBut h
  · rename_i hr
    exact fun k => absurd k hr

/-- R120: an arrival keeps the laws. -/
theorem keepsGuidance_guideArrival (zs : List Nat) (also : FaceRec → Bool) (s : State) :
    KeepsGuidance s (guideArrival zs also s) :=
  .of_but lampsBut_guideArrival fun l => facesBut_guideArrival fun hr x hx => (l hr x hx).imp_left .inl

theorem keepsGuidance_guideZone (z : Nat) (s : State) : KeepsGuidance s (guideZone z s) := keepsGuidance_guideArrival _ _ s

theorem keepsGuidance_guideStack (s : State) : KeepsGuidance s (guideStack s) := keepsGuidance_guideArrival _ _ s

/-- R122: outside RUNNING a dark lamp has its colour, whatever its bay. -/
theorem lampLaw_untracked {s t : State} (hs : running s = false) (ht : running t = false)
    (h : ∀ b, (t.guide.lamps.nth b).wanted = (s.guide.lamps.nth b).wanted) (l : LampLaw s) : LampLaw t := by
  intro b hb
  rw [h, l b hb, lampColour_untracked hs, lampColour_untracked ht]

/-- R14, R120, R122: after bay `b` alone has changed, with the free counts of its zone, its arrival keeps the laws. -/
theorem keepsGuidance_guideBay {b : Nat} {s t : State} (d : Does [.occ] s t) (hb : ∀ c, c ≠ b → bayOf t c = bayOf s c)
    (hf : ∀ z, z ≠ (bayOf t b).zone → t.occ.free.nth z = s.occ.free.nth z) : KeepsGuidance s (guideBay b t) := by
  have hc := d.cfg rfl
  have hg := d.guide rfl
  by_cases hr : running t = true
  · rw [guideBay, if_pos hr]
    refine .of_but (fun l => lampsBut_formLamp (lampsBut_guideArrival fun c hlt => ?_))
      fun l => (sameFaces_formLamp b _).facesBut (facesBut_guideArrival fun _ x hx => ?_)
    · by_cases e : c = b
      · exact .inl (.inr e)
      · refine .inr ?_
        have k := (l c hlt).resolve_left id
        rw [LampAt, hg, k]
        exact (lampColour_congr (d.running rfl) (by rw [hc]) (by rw [hb c e]) (by rw [hb c e])
          (by simp only [zoneOpen, hc, hg])).symm
    · rw [faceRec_congr (s := s) (by rw [hc])]
      rw [allFaces_congr (s := s) (by rw [hc])] at hx
      refine (em _).imp .inr fun hn => ?_
      have k := (l (by rw [← d.running rfl]; exact hr) x hx).resolve_left id
      rw [FaceAt, faceRec_congr (s := s) (by rw [hc]), faceOf, hg]
      refine SameSight.faceHolds
        ⟨fun z hz => ?_, fun _ z _ => by rw [d.air rfl], fun _ => by rw [levelValue, levelValue, hg]⟩ rfl rfl k
      refine ⟨by simp only [zoneOpen, hc, hg], by simp only [zoneFull, hc, hg], hf z fun e => hn ?_⟩
      rw [e] at hz
      exact hz
  · have hr' : running t = false := by simpa using hr
    rw [guideBay, if_neg hr]
    exact ⟨lampLaw_untracked (by rw [← d.running rfl]; exact hr') hr' fun c => by rw [hg], fun _ k => absurd k hr⟩

end Sys2Proof.Machine
end

section
/-! SUPPORT. The occupancy unit keeps the laws of lamps and faces (R5 to R24, R122): each new state of a bay is announced
to guidance. -/

namespace Sys2Proof.Machine

/-! ## Bays -/

/-- A bay written with the zone and the state that it has. -/
theorem sameGuidance_setBay {b : Nat} {x : Bay} {s : State} (hz : x.zone = (bayOf s b).zone)
    (hs : x.state = (bayOf s b).state) : SameGuidance s (setBay b x s) := by
  refine .of_bays rfl fun c => ?_
  rw [Tab.nth_put]
  split
  · rename_i e
    rw [e.1]
    exact ⟨hz, hs⟩
  · exact ⟨rfl, rfl⟩

theorem countFree_others {y z : Nat} (h : z ≠ y) (k : Nat) (o n : BayState) (s : State) :
    (countFree y k o n s).occ.free.nth z = s.occ.free.nth z := by
  unfold countFree
  split
  · exact (Tab.nth_modify _ _ _ _).trans (if_neg fun e => h e.1)
  · rfl

/-- R4, R14: a bay whose state is derived again. -/
theorem keepsGuidance_rederive (b : Nat) (s : State) : KeepsGuidance s (rederive b s) := by
  dsimp only [rederive]
  refine .ite (fun _ => .refl s) (fun _ => ?_)
  refine keepsGuidance_guideBay ((does_setBay s b _).trans (does_countFree _ _ _ _ _)) (fun c hc => ?_) fun z hz => ?_
  · rw [bayOf_countFree, bayOf_setBay, if_neg fun e => hc e.1]
  · refine countFree_others (fun e => hz ?_) _ _ _ _
    rw [e, bayOf_countFree, bayOf_setBay]
    split <;> rfl

/-- A bay written with the zone and the state that it has, and its state derived again. -/
theorem keepsGuidance_setBay_rederive {b : Nat} {x : Bay} {s : State} (hz : x.zone = (bayOf s b).zone)
    (hs : x.state = (bayOf s b).state) : KeepsGuidance s (rederive b (setBay b x s)) :=
  .trans (.same (sameGuidance_setBay hz hs)) (keepsGuidance_rederive b _)

theorem keepsGuidance_guideSensed (b : Nat) (s : State) : KeepsGuidance s (guideSensed b s) :=
  .ite (fun _ => .of_but (fun l => lampsBut_formLamp fun c hc => (l c hc).imp_left .inl) (sameFaces_formLamp b s).facesBut)
    (fun _ => .refl s)

/-! ## Sensed changes and detector reports (section 1.3) -/

theorem keepsGuidance_takeSensed (b : Nat) (d : Det) (s : State) : KeepsGuidance s (takeSensed b d s) := by
  dsimp only [takeSensed]
  exact .ite (fun _ => .afterDoes (keepsGuidance_setBay_rederive (by rfl) (by rfl)) (does_post _ _) rfl)
    (fun _ => keepsGuidance_setBay_rederive (by rfl) (by rfl))

theorem keepsGuidance_loseSensed (b : Nat) (s : State) : KeepsGuidance s (loseSensed b s) :=
  keepsGuidance_setBay_rederive (by rfl) (by rfl)

/-- A zone's air record written with the air state that it has. -/
theorem sameGuidance_setZoneAir {z : Nat} {x : ZoneAir} {s : State} (h : x.state = (s.air.zones.nth z).state) :
    SameGuidance s (setZoneAir z x s) := by
  refine .of_air fun y => ?_
  rw [Tab.nth_put]
  split
  · rename_i e
    rw [e.1, h]
  · rfl

theorem sameGuidance_credit (z w : Nat) (s : State) : SameGuidance s (credit z w s) :=
  .ite (fun _ => sameGuidance_setZoneAir rfl) (fun _ => .refl s)

theorem keepsGuidance_settleBay (b : Nat) (d : Det) (s : State) : KeepsGuidance s (settleBay b d s) :=
  (((keepsGuidance_takeSensed b d s).after (sameGuidance_credit _ _ _)).afterDoes (does_lightSensed b _) rfl).trans
    (keepsGuidance_guideSensed b _)

theorem keepsGuidance_faultReport (b : Nat) (s : State) : KeepsGuidance s (faultReport b s) := by
  have h : KeepsGuidance s (loseSensed b (setBay b { bayOf s b with health := .fault, lastHeard := 0 } s)) :=
    .trans (.same (sameGuidance_setBay (by rfl) (by rfl))) (keepsGuidance_loseSensed b _)
  dsimp only [faultReport]
  exact .ite (fun _ => h.afterDoes (does_post _ _) rfl) (fun _ => h)

theorem keepsGuidance_compareReport (b : Nat) (d : Det) (s : State) : KeepsGuidance s (compareReport b d s) := by
  dsimp only [compareReport]
  refine .ite (fun _ => .same (sameGuidance_setBay (by rfl) (by rfl))) (fun _ => .ite (fun _ => .refl s) (fun _ => ?_))
  exact .ite (fun _ => keepsGuidance_settleBay b d s) (fun _ => .same (sameGuidance_setBay (by rfl) (by rfl)))

theorem keepsGuidance_okReport (b : Nat) (d : Det) (s : State) : KeepsGuidance s (okReport b d s) := by
  have h : KeepsGuidance s (setBay b { bayOf s b with health := .ok, lastHeard := 0 } s) :=
    .same (sameGuidance_setBay (by rfl) (by rfl))
  have k := h.trans (.ite (c := (bayOf s b).sensed = .nothing) (fun _ => keepsGuidance_takeSensed b d _)
    (fun _ => keepsGuidance_compareReport b d _))
  dsimp only [okReport]
  exact .ite (fun _ => k.afterDoes (does_post _ _) rfl) (fun _ => k)

theorem keepsGuidance_bayReport (b : Nat) (d : Det) (h : Health) (s : State) : KeepsGuidance s (bayReport b d h s) := by
  cases h with
  | ok => exact keepsGuidance_okReport b d s
  | fault => exact keepsGuidance_faultReport b s

/-! ## Taps of the occupancy unit -/

theorem keepsGuidance_settleTap (b : Nat) (s : State) : KeepsGuidance s (settleTap b s) := by
  dsimp only [settleTap]
  split
  · exact .ite (fun _ => keepsGuidance_settleBay b _ s) (fun _ => .same (sameGuidance_setBay (by rfl) (by rfl)))
  · exact .refl s

theorem keepsGuidance_reservationTap (b : Nat) (s : State) : KeepsGuidance s (reservationTap b s) := by
  dsimp only [reservationTap]
  split
  · exact .ite (fun _ => .afterDoes (keepsGuidance_setBay_rederive (by rfl) (by rfl)) (does_post _ _) rfl)
      (fun _ => .same (sameGuidance_setBay (by rfl) (by rfl)))
  · exact .refl s
  · exact .refl s

theorem keepsGuidance_scanBay (b : Nat) (s : State) : KeepsGuidance s (scanBay b s) :=
  .ite (fun _ => (keepsGuidance_loseSensed b s).afterDoes (does_post _ _) rfl) (fun _ => .refl s)

theorem keepsGuidance_scanTap (s : State) : KeepsGuidance s (scanTap s) := by
  have h : KeepsGuidance s { s with occ := { s.occ with scan := (s.occ.scan + 1) % 16 } } :=
    .same (.of_bays rfl fun _ => ⟨rfl, rfl⟩)
  exact .ite (fun _ => h.trans (.foldl _ (fun t b => keepsGuidance_scanBay b t) _ _)) (fun _ => h)

/-- R11: every bay heard of once more has the zone and the state that it had. -/
theorem sameGuidance_heardTap (s : State) :
    SameGuidance s { s with occ := { s.occ with bays := s.occ.bays.each heardTap } } := by
  have hz (x : Bay) : (heardTap x).zone = x.zone ∧ (heardTap x).state = x.state := by
    unfold heardTap
    split <;> exact ⟨rfl, rfl⟩
  refine .of_bays rfl fun b => ?_
  by_cases hb : b < 512
  · rw [Tab.nth_each _ _ hb]
    exact hz _
  · rw [bayOf, Tab.nth_of_ge _ (by omega), Tab.nth_of_ge _ (by omega)]
    exact ⟨rfl, rfl⟩

theorem keepsGuidance_bayT1 (s : State) : KeepsGuidance s (bayT1 s) := by
  refine .ite (fun _ => ?_) (fun _ => .refl s)
  refine .trans ?_ (keepsGuidance_scanTap _)
  exact .trans (.same (sameGuidance_heardTap s)) (.foldl _ (fun t b => keepsGuidance_reservationTap b t) _ _)

theorem keepsGuidance_bayT4 (s : State) : KeepsGuidance s (bayT4 s) :=
  .ite (fun _ => .foldl _ (fun t b => keepsGuidance_settleTap b t) _ s) (fun _ => .refl s)

/-! ## Reservations, closures and bindings (sections 1.6 to 1.8) -/

theorem keepsGuidance_reserveBay (b n : Nat) (s : State) : KeepsGuidance s (reserveBay b n s) :=
  keepsGuidance_setBay_rederive (by rfl) (by rfl)

theorem keepsGuidance_cancelReservation (b : Nat) (s : State) : KeepsGuidance s (cancelReservation b s) :=
  .trans (.afterDoes (.same (sameGuidance_setBay (by rfl) (by rfl))) (does_post _ _) rfl) (keepsGuidance_rederive b _)

/-- A closure written, with the bay's state derived again. -/
theorem keepsGuidance_setClosure_rederive (b : Nat) (c : Bool) (s : State) :
    KeepsGuidance s (rederive b (setClosure b c s)) :=
  .trans (t := setClosure b c s) (.of_units rfl rfl rfl rfl rfl) (keepsGuidance_rederive b _)

theorem keepsGuidance_closeBay (b : Nat) (s : State) : KeepsGuidance s (closeBay b s) := by
  refine .trans ?_ (keepsGuidance_setClosure_rederive b true _)
  split
  · exact .trans (.of_does (does_post _ s) rfl) (.same (sameGuidance_setBay (by rfl) (by rfl)))
  · exact .same (sameGuidance_setBay (by rfl) (by rfl))

theorem keepsGuidance_openBay (b : Nat) (s : State) : KeepsGuidance s (openBay b s) :=
  .trans (.same (sameGuidance_setBay (by rfl) (by rfl))) (keepsGuidance_setClosure_rederive b false _)

/-- A lamp written with the colour that it wants. -/
theorem sameGuidance_setLamp {b : Nat} {x : Lamp} {s : State} (h : x.wanted = (s.guide.lamps.nth b).wanted) :
    SameGuidance s (setLamp b x s) where
  lamps := .of_guide rfl fun c => by
    rw [Tab.nth_put]
    split
    · rename_i e
      rw [h, e.1]
    · rfl
  faces := ⟨.of_guide rfl rfl, fun _ _ => rfl, fun _ _ => rfl⟩

theorem keepsGuidance_bindBay (b : Nat) (a : Addr) (s : State) : KeepsGuidance s (bindBay b a s) := by
  dsimp only [bindBay]
  refine .ite (fun _ => ?_) (fun _ => .same (sameGuidance_setBay (by rfl) (by rfl)))
  refine .after (.trans ?_ (keepsGuidance_loseSensed b _)) (sameGuidance_note (.lamp b) true _)
  exact .trans (.same (sameGuidance_setBay (by rfl) (by rfl))) (.same (sameGuidance_setLamp (by rfl)))

theorem keepsGuidance_unbindBay (b : Nat) (s : State) : KeepsGuidance s (unbindBay b s) := by
  have h : KeepsGuidance s (setLamp b { s.guide.lamps.nth b with sent := none, waiting := false } s) :=
    .same (sameGuidance_setLamp (by rfl))
  refine .ite (fun _ => ?_) (fun _ => h.after (sameGuidance_setBay (by rfl) (by rfl)))
  exact (h.after (sameGuidance_setBay (by rfl) (by rfl))).trans (keepsGuidance_loseSensed b _)

theorem keepsGuidance_bindAddress (a b way : Nat) (s : State) : KeepsGuidance s (bindAddress a b way s) := by
  obtain ⟨t, ht, hc, -, h⟩ := does_bindAddress a b way s
  have k : SameGuidance s t := .of_cfg ht rfl (by rw [hc]) (by rw [hc])
  exact .afterDoes (.trans (.same k) (keepsGuidance_bindBay b a t)) h rfl

theorem keepsGuidance_unbindAddress (a b way : Nat) (s : State) : KeepsGuidance s (unbindAddress a b way s) := by
  obtain ⟨t, ht, hc, h⟩ := does_unbindAddress a b way s
  have k : SameGuidance s t := .of_cfg ht rfl (by rw [hc]) (by rw [hc])
  exact .afterDoes (.trans (.same k) (keepsGuidance_unbindBay b t)) h rfl

/-! ## Lamps and faces sent or lost (R26, R168, R169) -/

theorem sameGuidance_lampReached (b : Nat) (s : State) : SameGuidance s (lampReached b s) :=
  .ite (fun _ => .trans (sameGuidance_setBay (by rfl) (by rfl)) (.of_does (does_post _ _) rfl)) (fun _ => .refl s)

theorem sameGuidance_lampLost (b : Nat) (s : State) : SameGuidance s (lampLost b s) :=
  .ite (fun _ => .refl s) (fun _ => .trans (sameGuidance_setBay (by rfl) (by rfl)) (.of_does (does_post _ _) rfl))

theorem sameGuidance_lampSent (b : Nat) (c : Colour) (s : State) : SameGuidance s (lampSent b c s) := by
  have h : SameGuidance s (lampReached b (setLamp b { s.guide.lamps.nth b with sent := some c } s)) :=
    .trans (sameGuidance_setLamp (by rfl)) (sameGuidance_lampReached b _)
  exact .ite (fun _ => h.trans (sameGuidance_note (.lamp b) true _)) (fun _ => h)

theorem sameGuidance_setSignState (i : Nat) (st : SignHealth) (s : State) : SameGuidance s (setSignState i st s) := by
  dsimp only [setSignState]
  refine .ite (fun _ => .refl s) (fun _ => .trans ?_ (.of_does (does_post _ _) rfl))
  have h : ∀ j f, faceOf { s with guide := { s.guide with signs := s.guide.signs.modify i (fun x => { x with state := st }) } } j f
      = faceOf s j f := fun j f => by
    unfold faceOf
    dsimp only
    rw [Tab.nth_modify]
    split
    · rename_i e
      rw [e.1]
    · rfl
  exact ⟨.of_guide rfl fun _ => rfl, .of_guide rfl rfl, fun j f => by rw [h], fun j f => by rw [h]⟩

/-- A face written with the choice and the wanted value that it has. -/
theorem sameGuidance_setFace {i f : Nat} {x : Face} {s : State} (hw : x.wanted = (faceOf s i f).wanted)
    (hc : x.choice = (faceOf s i f).choice) : SameGuidance s (setFace i f x s) := by
  have h (j k : Nat) : (faceOf (setFace i f x s) j k).wanted = (faceOf s j k).wanted ∧
      (faceOf (setFace i f x s) j k).choice = (faceOf s j k).choice := by
    rw [faceOf_setFace]
    split
    · rename_i e
      rw [e.1.1, e.2.1]
      exact ⟨hw, hc⟩
    · exact ⟨rfl, rfl⟩
  exact ⟨.of_guide rfl fun _ => rfl, .of_guide rfl rfl, fun j k => (h j k).1, fun j k => (h j k).2⟩

theorem sameGuidance_faceSent (i f : Nat) (v : FaceValue) (s : State) : SameGuidance s (faceSent i f v s) := by
  have h : SameGuidance s (setFace i f { faceOf s i f with sent := some v } s) := sameGuidance_setFace rfl rfl
  have k := h.trans (.ite (c := (s.guide.signs.nth i).state = .noResponse) (fun _ => sameGuidance_setSignState i .ok _)
    (fun _ => .refl _))
  exact .ite (fun _ => k.trans (sameGuidance_note (.face i f) true _)) (fun _ => k)

end Sys2Proof.Machine
end

section
/-! SUPPORT. What is announced to guidance from the other controllers keeps the laws of lamps and faces (R54, R80, R102,
R130, R132, R135, R147): VENT_LOST, DARK, the override stack, air states, other levels and arrows. -/

namespace Sys2Proof.Machine

/-! ## VENT_LOST and DARK (R79, R80, R102) -/

theorem keepsGuidance_formVentLost (z : Nat) (s : State) : KeepsGuidance s (formVentLost z s) := by
  rcases formVentLost_cases z s with ⟨e, -⟩ | e <;> rw [e]
  · exact .refl s
  · exact .trans (t := post (.ventLost z (deriveVentLost s z)) (putVentLost z s)) (.of_units rfl rfl rfl rfl rfl)
      (keepsGuidance_guideZone z _)

theorem keepsGuidance_formVentLosts (s : State) : KeepsGuidance s (formVentLosts s) :=
  .foldl _ (fun t z => keepsGuidance_formVentLost z t) _ s

theorem keepsGuidance_takeChannel (n : Nat) (x : Channel) (s : State) : KeepsGuidance s (takeChannel n x s) := by
  have h : KeepsGuidance s (setChannel n x s) := .of_does (does_setChannel s n x) rfl
  have k := h.afterDoes (does_post (fanNotice n x) _) rfl
  dsimp only [takeChannel]
  exact .ite (fun _ => h) (fun _ => .ite (fun _ => k.trans (keepsGuidance_formVentLost _ _)) (fun _ => k))

theorem keepsGuidance_fanTap (n : Nat) (rdy : Bool) (s : State) : KeepsGuidance s (fanTap n rdy s) :=
  .ite (fun _ => keepsGuidance_takeChannel n _ s) (fun _ => .of_does (does_setChannel s n _) rfl)

theorem keepsGuidance_fansT4 (rdy : BitVec 12) (s : State) : KeepsGuidance s (fansT4 rdy s) := by
  have h : KeepsGuidance s ((List.range 12).foldl (fun u n => fanTap n (rdy.getLsbD n) u) s) :=
    .foldl _ (fun t n => keepsGuidance_fanTap n _ t) _ s
  exact .ite (fun _ => h.trans (.foldl _ (fun t n => .of_does (does_testBelow n t) rfl) _ _)) (fun _ => h)

theorem keepsGuidance_formDark (z : Nat) (s : State) : KeepsGuidance s (formDark z s) := by
  dsimp only [formDark]
  refine .ite (fun _ => .ite (fun _ => .of_units rfl rfl rfl rfl rfl) (fun _ => ?_)) (fun _ => .refl s)
  exact .trans (.of_does (((does_light s _).mono rfl).trans (bs := [.light, .notices]) ((does_post _ _).mono rfl)) rfl)
    (keepsGuidance_guideZone z _)

theorem keepsGuidance_setGroupState (g : Nat) (st : GroupState) (s : State) : KeepsGuidance s (setGroupState g st s) := by
  dsimp only [setGroupState]
  refine .ite (fun _ => .refl s) (fun _ => ?_)
  exact (KeepsGuidance.afterDoes (.of_does (does_setGroup s g _) rfl) (does_post _ _) rfl).trans (keepsGuidance_formDark _ _)

theorem keepsGuidance_groupSent (g : Nat) (v : Drive) (s : State) : KeepsGuidance s (groupSent g v s) := by
  have h : KeepsGuidance s (setGroup g { s.light.groups.nth g with sent := some v } s) := .of_does (does_setGroup s g _) rfl
  have k := h.trans (.ite (c := (s.light.groups.nth g).state = .noResponse)
    (fun _ => keepsGuidance_setGroupState g .ok _) (fun _ => .refl _))
  exact .ite (fun _ => k.after (sameGuidance_note (.group g) true _)) (fun _ => k)

/-! ## The override stack (R147) -/

theorem keepsGuidance_fanStack (s : State) : KeepsGuidance s (fanStack s) :=
  .ite (fun _ => .of_does (does_fan s _) rfl)
    (fun _ => .trans (.of_does (does_fan s _) rfl) (keepsGuidance_formVentLosts _))

/-- R47: the floors of the stack leave the air states. -/
theorem sameGuidance_airStack (s : State) : SameGuidance s (airStack s) :=
  .of_air fun z => by
    have h := congrArg ZoneAir.state ((stackOnly_airStack s).zones z)
    exact h

theorem keepsGuidance_announceStack (s : State) : KeepsGuidance s (announceStack s) := by
  refine .afterDoes ?_ (does_formSounder _) rfl
  refine .trans ?_ (keepsGuidance_guideStack _)
  exact ((keepsGuidance_fanStack s).after (sameGuidance_airStack _)).afterDoes (does_lightStack _) rfl

/-- R147: a new stack, announced. -/
theorem keepsGuidance_restack (l : List Entry) (s : State) : KeepsGuidance s (announceStack (setStack l s)) :=
  .trans (.of_does (does_setStack s l) rfl) (keepsGuidance_announceStack _)

theorem keepsGuidance_keyPush (k : Nat) (s : State) : KeepsGuidance s (keyPush k s) := by
  dsimp only [keyPush]
  split
  · exact .refl s
  · exact .trans (.of_does (does_keyPlace k _ s) rfl) (keepsGuidance_announceStack _)

theorem keepsGuidance_pendingPush (k : Nat) (s : State) : KeepsGuidance s (pendingPush k s) :=
  .ite (fun _ => (keepsGuidance_keyPush k s).afterDoes (does_post _ _) rfl) (fun _ => .refl s)

theorem keepsGuidance_removeEntries (p : Entry → Bool) (s : State) : KeepsGuidance s (removeEntries p s) :=
  (keepsGuidance_restack _ s).trans ((keepsGuidance_pendingPush 0 _).trans (keepsGuidance_pendingPush 1 _))

theorem keepsGuidance_setKey (k : Nat) (x : Key) (s : State) : KeepsGuidance s (setKey k x s) :=
  .of_does (does_setKey s k x) rfl

theorem keepsGuidance_keyAct (k : Nat) (s : State) : KeepsGuidance s (keyAct k s) := by
  have h := keepsGuidance_setKey k { s.ovr.keys.nth k with filter := 0 } s
  dsimp only [keyAct]
  refine .ite (fun _ => h.trans (keepsGuidance_keyPush k _)) (fun _ => ?_)
  exact (h.trans (keepsGuidance_setKey k _ _)).afterDoes (does_post _ _) rfl

theorem keepsGuidance_keyRelease (k : Nat) (s : State) : KeepsGuidance s (keyRelease k s) := by
  have h := keepsGuidance_setKey k ⟨false, 0, .released⟩ s
  dsimp only [keyRelease]
  split
  · exact h.trans (keepsGuidance_removeEntries _ _)
  · exact h.afterDoes (does_post _ _) rfl
  · exact h
  · exact h

theorem keepsGuidance_keyTapActive (k : Nat) (s : State) : KeepsGuidance s (keyTapActive k s) := by
  have h := fun x => keepsGuidance_setKey k x s
  dsimp only [keyTapActive]
  refine .ite (fun _ => h _) (fun _ => .ite (fun _ => ?_) (fun _ => h _))
  exact .ite (fun _ => (h _).trans (keepsGuidance_keyAct k _)) (fun _ => (h _).trans (keepsGuidance_setKey k _ _))

theorem keepsGuidance_keyTap (k : Nat) (active : Bool) (s : State) : KeepsGuidance s (keyTap k active s) :=
  .ite (fun _ => keepsGuidance_keyTapActive k s) (fun _ => keepsGuidance_keyRelease k s)

theorem keepsGuidance_expireEntries (s : State) : KeepsGuidance s (expireEntries s) := by
  dsimp only [expireEntries]
  exact .ite (fun _ => .refl s) (fun _ => .trans (.of_does (does_postAll _ s) rfl) (keepsGuidance_removeEntries _ _))

/-- R146: remaining times move, then the entries that have run out are removed. -/
theorem keepsGuidance_expireRestacked (l : List Entry) (s : State) : KeepsGuidance s (expireEntries (setStack l s)) :=
  .trans (.of_does (does_setStack s l) rfl) (keepsGuidance_expireEntries _)

theorem keepsGuidance_cancelMutes (s : State) : KeepsGuidance s (cancelMutes s) := by
  have h : ∀ ns ids, KeepsGuidance s (spendKey ids 1 (spendKey ids 0 (postAll ns s))) := fun ns ids =>
    ((KeepsGuidance.of_does (does_postAll ns s) rfl).afterDoes (does_spendKey ids 0 _) rfl).afterDoes (does_spendKey ids 1 _) rfl
  exact .ite (fun _ => h _ _) (fun _ => (h _ _).trans (keepsGuidance_removeEntries _ _))

/-! ## The air monitor (R31, R42, R54) -/

theorem sameGuidance_takeSensorState (n : Nat) (x : Sensor) (s : State) : SameGuidance s (takeSensorState n x s) := by
  have h : SameGuidance s (setSensor n x s) := .of_air fun _ => rfl
  exact .ite (fun _ => h) (fun _ => h.trans (.of_does (does_post _ _) rfl))

/-- R54, R132: a zone takes a new air record, and at the announcement the DECISION faces that hold a candidate over the
zone are formed again. -/
theorem keepsGuidance_announceAir {z : Nat} {x : ZoneAir} {s u : State} (h : SameGuidance (setZoneAir z x s) u) :
    KeepsGuidance s (announceAir z u) := by
  refine .afterDoes (.trans (.afterDoes (.of_but ?_ ?_) (does_lightAir z _) rfl)
    (.ite (fun _ => keepsGuidance_cancelMutes _) (fun _ => .refl _))) (does_formSounder _) rfl
  · intro l
    have k : SameLamps s (setZoneAir z x s) := ⟨rfl, rfl, rfl, fun _ => rfl, fun _ => rfl, fun _ => rfl⟩
    have p : SameGuidance u (post (.airState z (u.air.zones.nth z).state) u) := .of_does (does_post _ u) rfl
    exact lampsBut_guideArrival ((k.trans (h.trans p).lamps).lampsBut l)
  · intro l
    refine facesBut_guideArrival ((h.trans (.of_does (does_post _ u) rfl)).faces.facesBut fun hr y hy => ?_)
    refine (em _).imp .inr fun hn => ?_
    have k : FaceAt s y.1 y.2 := (l hr y hy).resolve_left id
    refine SameSight.faceHolds (s := s) (t := setZoneAir z x s)
      ⟨fun _ _ => ⟨rfl, rfl, rfl⟩, fun hk w hw => ?_, fun _ => rfl⟩ rfl rfl k
    rw [setZoneAir_air]
    refine congrArg ZoneAir.state (Tab.nth_put_ne _ _ fun e => hn ?_)
    rw [Bool.and_eq_true, beq_iff_eq]
    exact ⟨hk, e ▸ hw⟩

theorem keepsGuidance_sampleZone (old : Tab Sensor 32) (z : Nat) (s : State) : KeepsGuidance s (sampleZone old z s) := by
  have h : ∀ x, SameGuidance (setZoneAir z x s) (postSensors old (fun r => r.zone == z) (setZoneAir z x s)) := fun x =>
    .of_does (does_postSensors old _ _) rfl
  dsimp only [sampleZone]
  exact .ite (fun e => .same ((sameGuidance_setZoneAir e.symm).trans (h _))) (fun _ => keepsGuidance_announceAir (h _))

theorem keepsGuidance_airTap (ain : Tab (BitVec 10) 8) (s : State) : KeepsGuidance s (airTap ain s) := by
  have h : ∀ x, SameGuidance s { s with air := { s.air with sensors := x } } := fun x => .of_air fun _ => rfl
  dsimp only [airTap]
  refine .ite (fun _ => .same (h _)) (fun _ => .ite (fun _ => ?_) (fun _ => .same (h _)))
  exact ((KeepsGuidance.same (h _)).afterDoes (does_postSensors _ _ _) rfl).trans
    (.foldl _ (fun t z => keepsGuidance_sampleZone _ z t) _ _)

/-! ## Arrows (R130) -/

theorem sameView_advanceFace (i f : Nat) (s : State) : SameView s (advanceFace i f s) := by
  dsimp only [advanceFace]
  split
  · exact sameView_putFace i f _ s
  · exact .refl s

theorem sameLamps_advanceFace (i f : Nat) (s : State) : SameLamps s (advanceFace i f s) := by
  dsimp only [advanceFace]
  split
  · exact sameLamps_putFace i f _ s
  · exact .refl s

/-- R130: an advanced face holds, and the others stand. -/
theorem keepsGuidance_advanceFace (i f : Nat) (s : State) : KeepsGuidance s (advanceFace i f s) := by
  have v := sameView_advanceFace i f s
  refine .of_but (sameLamps_advanceFace i f s).lampsBut fun l hr x hx => .inr ?_
  rw [v.running] at hr
  rw [v.allFaces] at hx
  rw [FaceAt, faceRec_congr v.inForce]
  refine (v.sight _).faceHolds rfl rfl ?_
  obtain ⟨hi, hf⟩ := lt_of_mem_allFaces hx
  by_cases e : x.1 = i ∧ x.2 = f ∧ (faceRec s i f).kind = .decision
  · obtain ⟨rfl, rfl, hk⟩ := e
    exact (advanceFace_turned hi hf hk).faceHolds hk
  · exact ((l hr x hx).resolve_left id).of_bare (advanceFace_other e)

theorem keepsGuidance_advanceSign (i : Nat) (s : State) : KeepsGuidance s (advanceSign i s) :=
  .ite (fun _ => .foldl _ (fun t f => keepsGuidance_advanceFace i f t) _ s) (fun _ => .refl s)

theorem keepsGuidance_rotationTap (s : State) : KeepsGuidance s (rotationTap s) := by
  have h : KeepsGuidance s { s with guide := { s.guide with rotation := (s.guide.rotation + 1) % 16 } } :=
    .same ⟨.of_guide rfl fun _ => rfl, .of_guide rfl rfl, fun _ _ => rfl, fun _ _ => rfl⟩
  exact .ite (fun _ => h.trans (.foldl _ (fun t i => keepsGuidance_advanceSign i t) _ _)) (fun _ => h)

/-! ## Other levels (R127, R132, R134, R135) -/

/-- R127, R132: after the entries of some levels have been written, their LEVEL faces are formed again. -/
theorem keepsGuidance_guideLevels {vs : List Nat} {s t : State} {ls : Tab (Option OtherLevel) 8}
    (d : Does [.guide, .notices] s t) (hg : t.guide = { s.guide with levels := ls })
    (hl : ∀ v, v ∉ vs → ls.nth v = s.guide.levels.nth v) : KeepsGuidance s (guideLevels vs t) := by
  have hc := d.cfg rfl
  refine .of_but (fun l => ?_) fun l => facesBut_formFaces fun hr x hx => ?_
  · have k : SameLamps s t := ⟨by rw [hc], by rw [hc], by rw [hg], fun b => by rw [d.bayOf rfl],
      fun b => by rw [d.bayOf rfl], fun b => by rw [hg]⟩
    exact (k.trans (sameLamps_formFaces _ _)).lampsBut l
  · rw [d.running rfl] at hr
    have hi : t.cfg.inForce = s.cfg.inForce := by rw [hc]
    rw [allFaces_congr hi] at hx
    rw [FaceAt, faceRec_congr hi]
    refine (em _).imp .inr fun hn => ?_
    have e : faceOf t x.1 x.2 = faceOf s x.1 x.2 := by rw [faceOf, faceOf, hg]
    rw [e]
    refine SameSight.faceHolds ⟨fun z _ => ?_, fun _ z _ => by rw [d.air rfl], fun hk => ?_⟩ rfl rfl
      ((l hr x hx).resolve_left id)
    · simp only [SameShown, zoneOpen, zoneFull, hc, hg, d.occ rfl, and_self]
    · rw [levelValue, levelValue, hg, hl _ fun hm => hn ?_]
      rw [Bool.and_eq_true, beq_iff_eq, List.contains_iff_mem]
      exact ⟨hk, hm⟩

/-- R135: an entry that is fresh, written with another age below the limit, shows the same count. -/
theorem sameGuidance_setLevel {v : Nat} {e : OtherLevel} {n : Nat} {s : State} (h : s.guide.levels.nth v = some e)
    (he : e.age < 120) (hn : n < 120) : SameGuidance s (setLevel v (some { e with age := n }) s) := by
  have level (w : Nat) : levelValue (setLevel v (some { e with age := n }) s) w = levelValue s w := by
    unfold levelValue
    rw [setLevel_guide, Tab.nth_put]
    by_cases k : w = v ∧ v < 8
    · rw [if_pos k, k.1, h]
      simp only [if_pos he, if_pos hn]
    · rw [if_neg k]
  exact ⟨.of_guide rfl fun _ => rfl, ⟨rfl, rfl, rfl, rfl, fun _ => rfl, level⟩, fun _ _ => rfl, fun _ _ => rfl⟩

theorem keepsGuidance_staleLevel (v : Nat) (e : OtherLevel) (s : State) : KeepsGuidance s (staleLevel v e s) := by
  refine keepsGuidance_guideLevels (((does_setLevel s v _).mono rfl).trans ((does_post _ _).mono rfl)) rfl fun w hw => ?_
  exact Tab.nth_put_ne _ _ fun k => hw (by simp [k])

theorem keepsGuidance_levelTap (v : Nat) (s : State) : KeepsGuidance s (levelTap v s) := by
  dsimp only [levelTap]
  split
  · rename_i e he
    refine .ite (fun _ => .refl s) (fun h0 => .ite (fun _ => keepsGuidance_staleLevel v e s) (fun h1 => ?_))
    exact .same (sameGuidance_setLevel he (by omega) (by omega))
  · exact .refl s

/-- R134: the other-level table with the items of a list written in list order. -/
def levelsWritten (items : List (Nat × Nat)) (ls : Tab (Option OtherLevel) 8) : Tab (Option OtherLevel) 8 :=
  items.foldl (fun t x => t.put x.1 (some ⟨min x.2 9999, 0⟩)) ls

theorem nth_levelsWritten {items : List (Nat × Nat)} {v : Nat} (h : v ∉ items.map (·.1)) (ls : Tab (Option OtherLevel) 8) :
    (levelsWritten items ls).nth v = ls.nth v := by
  induction items generalizing ls with
  | nil => rfl
  | cons x items ih =>
    rw [List.map_cons, List.mem_cons, not_or] at h
    exact (ih h.2 _).trans (Tab.nth_put_ne _ _ h.1)

theorem writeLevel_guide (s : State) (x : Nat × Nat) :
    (writeLevel s x).guide = { s.guide with levels := s.guide.levels.put x.1 (some ⟨min x.2 9999, 0⟩) } := by
  have hc : clamp 0 9999 x.2 = min x.2 9999 := by rw [clamp, Nat.zero_max, Nat.min_comm]
  unfold writeLevel
  rw [hc]
  dsimp only
  split <;> rfl

/-- R134: the writes of a list touch the other-level table, with the notices of the entries that are fresh again. -/
theorem does_writeLevelList (items : List (Nat × Nat)) (s : State) :
    Does [.guide, .notices] s (items.foldl writeLevel s) := .foldl _ does_writeLevel items s

theorem writeLevelList_guide (items : List (Nat × Nat)) (s : State) :
    (items.foldl writeLevel s).guide = { s.guide with levels := levelsWritten items s.guide.levels } := by
  induction items generalizing s with
  | nil => rfl
  | cons x items ih => rw [List.foldl_cons, ih, writeLevel_guide, levelsWritten, levelsWritten, List.foldl_cons]

theorem keepsGuidance_writeLevels (items : List (Nat × Nat)) (s : State) : KeepsGuidance s (writeLevels items s) :=
  keepsGuidance_guideLevels (does_writeLevelList items s) (writeLevelList_guide items s) fun _ h => nth_levelsWritten h _

/-! ## Rounds and taps of guidance -/

theorem sameGuidance_resendGuidance (s : State) : SameGuidance s (resendGuidance s) :=
  .of_marks (does_resendGuidance s) rfl (marks_resendGuidance s)

theorem sameGuidance_guideResendTap (s : State) : SameGuidance s (guideResendTap s) := by
  have h : SameGuidance s { s with guide := { s.guide with resend := (s.guide.resend + 1) % 64 } } :=
    ⟨.of_guide rfl fun _ => rfl, .of_guide rfl rfl, fun _ _ => rfl, fun _ _ => rfl⟩
  exact .ite (fun _ => h.trans (sameGuidance_resendGuidance _)) (fun _ => h)

theorem keepsGuidance_guideT1 (s : State) : KeepsGuidance s (guideT1 s) := by
  refine .after ?_ (sameGuidance_guideResendTap _)
  exact .ite (fun _ => .trans (.foldl _ (fun t v => keepsGuidance_levelTap v t) _ s) (keepsGuidance_rotationTap _))
    (fun _ => .refl s)

end Sys2Proof.Machine
end

section
/-! SUPPORT. The loop unit, the field bus controller, the taps and the entries to the configuration states keep the laws of
lamps and faces (R116, R121, R122, R136, R139, R174, R187). -/

namespace Sys2Proof.Machine

/-! ## Passages (R111 to R116) -/

theorem keepsGuidance_creditAndStart (p : Nat) (s : State) : KeepsGuidance s (creditAndStart p s) :=
  .afterDoes (.same (sameGuidance_credit _ _ s)) (does_startPaths p _) rfl

theorem keepsGuidance_announcePassage (p : Nat) (d : Direction) (s : State) : KeepsGuidance s (announcePassage p d s) := by
  have h : ∀ {d}, d = .into ∨ d = .undirected → KeepsGuidance s (announcePassage p d s) := fun hd => by
    rw [announcePassage_of_starts hd]
    cases pairSign s p with
    | none => exact keepsGuidance_creditAndStart p s
    | some i => exact (keepsGuidance_creditAndStart p s).trans (keepsGuidance_advanceSign i _)
  cases d with
  | into => exact h (.inl rfl)
  | undirected => exact h (.inr rfl)
  | out => exact .same (sameGuidance_credit _ _ s)

theorem keepsGuidance_setPair (p : Nat) (x : PairRun) (s : State) : KeepsGuidance s (setPair p x s) :=
  .of_does (does_setPair s p x) rfl

theorem keepsGuidance_setLoop (i : Nat) (x : LoopInput) (s : State) : KeepsGuidance s (setLoop i x s) :=
  .of_does (does_setLoop s i x) rfl

theorem keepsGuidance_passage (p : Nat) (d : Direction) (s : State) : KeepsGuidance s (passage p d s) := by
  have h := keepsGuidance_setPair p (tallied d (s.loops.pairs.nth p)) s
  dsimp only [passage]
  refine .ite (fun _ => .trans ?_ (keepsGuidance_announcePassage p d _)) (fun _ => ?_) <;>
    exact .ite (fun _ => h.afterDoes (does_loops _ _) rfl) (fun _ => h)

theorem keepsGuidance_completeSequence (p : Nat) (s : State) : KeepsGuidance s (completeSequence p s) := by
  dsimp only [completeSequence]
  split
  · exact (keepsGuidance_setPair p _ s).trans (keepsGuidance_passage p _ _)
  · exact (keepsGuidance_setPair p _ s).trans (keepsGuidance_passage p _ _)
  · exact keepsGuidance_setPair p _ s
  · exact keepsGuidance_setPair p _ s
  · exact .refl s

theorem keepsGuidance_pairCovered (i : Nat) (s : State) : KeepsGuidance s (pairCovered i s) := by
  dsimp only [pairCovered]
  split
  · exact .refl s
  · split
    · exact keepsGuidance_passage _ _ s
    · exact keepsGuidance_setPair _ _ s

theorem keepsGuidance_pairCleared (i : Nat) (s : State) : KeepsGuidance s (pairCleared i s) := by
  dsimp only [pairCleared]
  split
  · exact .refl s
  · split
    · exact .refl s
    · exact .ite (fun _ => .refl s) (fun _ => keepsGuidance_completeSequence _ s)

theorem keepsGuidance_loopTapActive (i : Nat) (s : State) : KeepsGuidance s (loopTapActive i s) := by
  have h : ∀ x t, KeepsGuidance t (setLoop i x t) := keepsGuidance_setLoop i
  dsimp only [loopTapActive]
  refine .ite (fun _ => .ite (fun _ => ?_) (fun _ => (h _ s).trans (h _ _))) (fun _ => h _ s)
  exact (h _ s).trans ((h _ _).trans (keepsGuidance_pairCovered i _))

theorem keepsGuidance_releaseLoop (i : Nat) (s : State) : KeepsGuidance s (releaseLoop i s) := by
  have h : ∀ x, KeepsGuidance s (setLoop i x s) := fun x => keepsGuidance_setLoop i x s
  dsimp only [releaseLoop]
  split
  · exact h _
  · exact (h _).trans (keepsGuidance_pairCleared i _)
  · exact (h _).afterDoes (does_post _ _) rfl

theorem keepsGuidance_loopTap (i : Nat) (active : Bool) (s : State) : KeepsGuidance s (loopTap i active s) :=
  .ite (fun _ => keepsGuidance_loopTapActive i s) (fun _ => keepsGuidance_releaseLoop i s)

theorem keepsGuidance_occupiedTap (i : Nat) (s : State) : KeepsGuidance s (occupiedTap i s) := by
  have h : ∀ x, KeepsGuidance s (setLoop i x s) := fun x => keepsGuidance_setLoop i x s
  dsimp only [occupiedTap]
  refine .ite (fun _ => .ite (fun _ => ?_) (fun _ => h _)) (fun _ => .refl s)
  exact ((h _).afterDoes (does_post _ _) rfl).trans (keepsGuidance_pairCleared i _)

theorem keepsGuidance_loopT1 (s : State) : KeepsGuidance s (loopT1 s) :=
  .ite (fun _ => .refl s) (fun _ => .afterDoes (.foldl _ (fun t i => keepsGuidance_occupiedTap i t) _ s)
    (does_sequenceTaps _ _) rfl)

/-! ## Field frames (sections 8.1 to 8.4) -/

theorem keepsGuidance_takeBayState (a : Addr) (d : Det) (h : Health) (s : State) :
    KeepsGuidance s (takeBayState a d h s) := by
  dsimp only [takeBayState]
  split
  · exact .of_does (does_addUnknown _ _ s) rfl
  · exact .ite (fun _ => keepsGuidance_bayReport _ d h s) (fun _ => .refl s)

theorem keepsGuidance_takeGasValue (a : Addr) (g : GasReport) (s : State) : KeepsGuidance s (takeGasValue a g s) := by
  dsimp only [takeGasValue]
  split
  · exact .of_does (does_addUnknown _ _ s) rfl
  · exact .ite (fun _ => .same (sameGuidance_takeSensorState _ _ s)) (fun _ => .refl s)

theorem keepsGuidance_takePed (a : Addr) (p : Ped) (s : State) : KeepsGuidance s (takePed a p s) := by
  dsimp only [takePed]
  split
  · exact .of_does (does_addUnknown _ _ s) rfl
  · split
    · exact .of_does (does_trigger _ s) rfl
    · exact .refl s

theorem keepsGuidance_takeLumState (a : Addr) (h : Health) (s : State) : KeepsGuidance s (takeLumState a h s) := by
  dsimp only [takeLumState]
  split
  · exact .of_does (does_addUnknown _ _ s) rfl
  · exact .ite (fun _ => keepsGuidance_setGroupState _ _ s) (fun _ => .refl s)

theorem keepsGuidance_takeSignState (a : Addr) (h : Health) (s : State) : KeepsGuidance s (takeSignState a h s) := by
  dsimp only [takeSignState]
  split
  · exact .of_does (does_addUnknown _ _ s) rfl
  · exact .ite (fun _ => .same (sameGuidance_setSignState _ _ s)) (fun _ => .refl s)

theorem sameGuidance_markFallbackGuidance (s : State) : SameGuidance s (markFallbackGuidance s) :=
  (sameGuidance_note .lampAll true s).trans (sameGuidance_note .faceAll true _)

theorem sameGuidance_announceBay (b : Nat) (s : State) : SameGuidance s (announceBay b s) :=
  .ite (fun _ => .trans (sameGuidance_setBay (by rfl) (by rfl)) (sameGuidance_note (.lamp b) true _))
    (fun _ => sameGuidance_markFallbackGuidance s)

theorem sameGuidance_announceSign (i : Nat) (s : State) : SameGuidance s (announceSign i s) :=
  .ite (fun _ => .foldl _ (fun t f => sameGuidance_note (.face i f) true t) _ s)
    (fun _ => sameGuidance_markFallbackGuidance s)

theorem keepsGuidance_takeAnnounce (a : Addr) (type : DeviceType) (s : State) :
    KeepsGuidance s (takeAnnounce a type s) := by
  dsimp only [takeAnnounce]
  split
  · exact .same (sameGuidance_announceBay _ s)
  · exact .same (.ite (fun _ => sameGuidance_takeSensorState _ _ s) (fun _ => .refl s))
  · exact .same (.ite (fun _ => sameGuidance_note _ _ s) (fun _ => sameGuidance_note _ _ s))
  · exact .refl s
  · exact .same (sameGuidance_announceSign _ s)
  · exact .of_does (does_addUnknown _ _ s) rfl

/-! ## Attempts (R168, R169) -/

theorem keepsGuidance_reportSuccess (x : Slot) (s : State) : KeepsGuidance s (reportSuccess x s) := by
  dsimp only [reportSuccess]
  split
  · split
    · exact .same (sameGuidance_faceSent _ _ _ s)
    · exact .refl s
  · split
    · exact keepsGuidance_groupSent _ _ s
    · exact .refl s
  · split
    · exact .same (sameGuidance_lampSent _ _ s)
    · exact .refl s
  · exact .refl s

theorem keepsGuidance_reportGiveUp (x : Slot) (s : State) : KeepsGuidance s (reportGiveUp x s) := by
  dsimp only [reportGiveUp]
  split
  · split
    · exact .same (sameGuidance_setSignState _ _ s)
    · exact .refl s
  · split
    · exact keepsGuidance_setGroupState _ _ s
    · exact .refl s
  · split
    · exact .same (sameGuidance_lampLost _ s)
    · exact .refl s
  all_goals exact .refl s

theorem keepsGuidance_attemptSucceeds (i : Nat) (x : Slot) (s : State) : KeepsGuidance s (attemptSucceeds i x s) := by
  have h : KeepsGuidance s (putSlot i none (setErrors (s.bus.errors - 1) s)) :=
    .afterDoes (.of_does (does_setErrors _ s) rfl) (does_putSlot _ i none) rfl
  exact .ite (fun _ => h) (fun _ => h.trans (keepsGuidance_reportSuccess x _))

theorem keepsGuidance_giveUp (i : Nat) (x : Slot) (s : State) : KeepsGuidance s (giveUp i x s) := by
  have h : KeepsGuidance s (putSlot i none { s with bus := { s.bus with givenUp := min (s.bus.givenUp + 1) 65535 } }) :=
    .of_units rfl rfl rfl rfl rfl
  exact .ite (fun _ => h) (fun _ => h.trans (keepsGuidance_reportGiveUp x _))

theorem keepsGuidance_attemptFails (i : Nat) (x : Slot) (s : State) : KeepsGuidance s (attemptFails i x s) := by
  have h : ∀ y, KeepsGuidance s (putSlot i y s) := fun y => .of_does (does_putSlot s i y) rfl
  refine .afterDoes ?_ (does_setErrors _ _) rfl
  exact .ite (fun _ => keepsGuidance_giveUp i x s) (fun _ => .ite (fun _ => h _) (fun _ => h _))

/-! ## The parts of the taps (R174) -/

theorem keepsGuidance_runT32 (loops : BitVec 8) (keys : BitVec 2) (s : State) (p : T32Part) :
    KeepsGuidance s (runT32 loops keys s p) := by
  refine .ite (fun _ => .refl s) (fun _ => ?_)
  cases p with
  | loops => exact .foldl _ (fun t i => keepsGuidance_loopTap i _ t) _ s
  | keys => exact .foldl _ (fun t k => keepsGuidance_keyTap k _ t) _ s
  | paths => exact .of_does (does_pathsT32 s) rfl

theorem keepsGuidance_runT4 (rdy : BitVec 12) (s : State) (p : T4Part) : KeepsGuidance s (runT4 rdy s p) := by
  refine .ite (fun _ => .refl s) (fun _ => ?_)
  cases p with
  | bays => exact keepsGuidance_bayT4 s
  | fans => exact keepsGuidance_fansT4 rdy s
  | bus => exact .of_does (does_busT4 s) rfl

theorem keepsGuidance_runT1 (ain : Tab (BitVec 10) 8) (s : State) (p : T1Part) : KeepsGuidance s (runT1 ain s p) := by
  cases p with
  | clock => exact .of_does (does_time s _) rfl
  | sounder => exact .ite (fun _ => .refl s) (fun _ => .of_does (does_sounderTap s) rfl)
  | air => exact keepsGuidance_airTap ain s
  | bays => exact keepsGuidance_bayT1 s
  | fans => exact .ite (fun _ => .refl s) (fun _ => .of_does (does_fan s _) rfl)
  | lights => exact .ite (fun _ => .refl s) (fun _ => .of_does (does_lightsT1 s) rfl)
  | loops => exact keepsGuidance_loopT1 s
  | guide => exact .ite (fun _ => .refl s) (fun _ => keepsGuidance_guideT1 s)
  | stack => exact .ite (fun _ => .refl s) (fun _ => keepsGuidance_expireRestacked _ s)

/-! ## Resets and the entry to EDITING -/

/-- R138: after a reset nothing is tracked, and every lamp is dark. -/
theorem keepsGuidance_reset {s t : State} (hr : running t = false) (hg : t.guide = Guidance.start) : KeepsGuidance s t :=
  ⟨fun _ => lampLaw_untracked (s := State.reset) running_reset hr (fun b => by rw [hg]; rfl) lampLaw_reset,
    fun _ k => absurd k (by simp [hr])⟩

theorem keepsGuidance_resetCommanded (straps : Straps) (s : State) : KeepsGuidance s (resetCommanded straps s) :=
  keepsGuidance_reset rfl rfl

/-- R136: in EDITING every lamp is dark. -/
theorem enterEditing_lamp {b : Nat} (hb : b < 512) (s : State) : ((enterEditing s).guide.lamps.nth b).wanted = .off := by
  unfold enterEditing guideToEditing
  rw [(does_postAll _ _).guide rfl]
  exact congrArg Lamp.wanted (Tab.nth_each _ _ hb)

theorem keepsGuidance_enterEditing (s : State) : KeepsGuidance s (enterEditing s) := by
  have hr : running (enterEditing s) = false := by
    rw [running, enterEditing_cfg]
    rfl
  exact ⟨fun _ b hb => by rw [enterEditing_lamp hb, lampColour_untracked hr], fun _ k => absurd k (by simp [hr])⟩

/-! ## The entry to RUNNING (R121, R139) -/

/-- R121, R139: guidance as RUNNING is entered, with its statuses taken and no lamp or face formed. -/
def guideStarted (s : State) : State :=
  { s with guide := { Guidance.start with status := Tab.build 16 (startStatus s) } }

theorem guideToRunning_status (s : State) : (guideToRunning s).guide.status = (guideStarted s).guide.status := rfl

theorem guideToRunning_levels (s : State) : (guideToRunning s).guide.levels = (guideStarted s).guide.levels := rfl

/-- R139: every lamp is formed from the statuses and the bays as the entry leaves them. -/
theorem lampLaw_guideToRunning (s : State) : LampLaw (guideToRunning s) := by
  rw [lampLaw_iff]
  intro b hb
  refine .inr ?_
  have h : (guideToRunning s).guide.lamps.nth b = startLamp (guideStarted s) b := (Tab.nth_build _ _).trans (if_pos hb)
  have d := does_guideToRunning s
  have k : lampColour (guideToRunning s) b = lampColour (guideStarted s) b :=
    lampColour_congr (d.running rfl) (by rw [d.cfg rfl]; rfl) (by rw [d.bayOf rfl]; rfl) (by rw [d.bayOf rfl]; rfl)
      (by rw [zoneOpen, guideToRunning_status, d.cfg rfl]; rfl)
  rw [LampAt, h, k]
  rfl

/-- R139: every present face is formed from the statuses, the free counts and the levels as the entry leaves them. -/
theorem faceLaw_guideToRunning (s : State) : FaceLaw (guideToRunning s) := by
  rw [faceLaw_iff]
  intro _ x hx
  obtain ⟨hi, hf⟩ := lt_of_mem_allFaces hx
  obtain ⟨hsign, hface⟩ := mem_allFaces.mp hx
  have v : SameView (guideStarted s) (guideToRunning s) :=
    ⟨rfl, rfl, guideToRunning_status s, rfl, fun _ => rfl, fun w => by rw [levelValue, guideToRunning_levels, levelValue]⟩
  have e : faceOf (guideToRunning s) x.1 x.2 =
      { formedFace (guideStarted s) (faceRec s x.1 x.2) Face.start with waiting := true } := by
    have hs : (guideToRunning s).guide.signs.nth x.1 = startSign (guideStarted s) x.1 :=
      (Tab.nth_build _ _).trans (if_pos hi)
    rw [faceOf, hs]
    refine (Tab.nth_build _ _).trans ((if_pos hf).trans (if_pos ?_))
    rw [Bool.and_eq_true]
    exact ⟨(List.mem_filter.mp hsign).2, (List.mem_filter.mp hface).2⟩
  refine .inr ?_
  rw [FaceAt, e]
  exact (v.sight (faceRec s x.1 x.2)).faceHolds (x := formedFace (guideStarted s) (faceRec s x.1 x.2) Face.start) rfl rfl
    (faceHolds_formedFace _ _ _)

theorem keepsGuidance_enterRunning (r s : State) : KeepsGuidance r (enterRunning s) := by
  refine .afterDoes ⟨fun _ => lampLaw_guideToRunning _, fun _ => faceLaw_guideToRunning _⟩ (does_formSounder _) rfl

/-! ## The end of a load (R183) -/

theorem loadFallback_lamps (why : FallbackReason) (s : State) : (loadFallback why s).guide.lamps = s.guide.lamps := by
  unfold loadFallback
  dsimp only
  rw [(does_busEntry _ _ _).guide rfl]
  rfl

/-- R136, R183: a load that ends in FALLBACK leaves the lamps as dark as LOADING has them. -/
theorem keepsGuidance_endLoad (source : LoadSource) {s : State} (hl : loading s = true) :
    KeepsGuidance s (endLoad source s) := by
  dsimp only [endLoad]
  split
  · exact keepsGuidance_enterRunning _ _
  · rename_i why _
    have hs : running s = false := by
      unfold loading at hl
      unfold running
      rw [beq_iff_eq] at hl
      rw [hl]
      rfl
    have hr (t : State) : running (loadFallback why t) = false := by
      rw [running, (loadFallback_cfg _ _).1]
      rfl
    exact ⟨lampLaw_untracked hs (hr _) fun b => by rw [loadFallback_lamps], fun _ k => absurd k (by simp [hr])⟩

end Sys2Proof.Machine
end

section
/-! SUPPORT. Every command keeps the laws of lamps and faces (R122, R126 to R132). -/

namespace Sys2Proof.Machine

/-! ## Requests -/

theorem keepsGuidance_answer (kind : Nat) (r : Result) (fields : List Byte) (s : State) :
    KeepsGuidance s (answer kind r fields s) := (KeepsGuidance.refl s).answered _ _ _

theorem keepsGuidance_arrive (s : State) : KeepsGuidance s (arrive s) := by
  refine .after (t := if s.link.resetDue = true then resetCommanded s.link.pins s else s) ?_
    (.of_units rfl rfl rfl rfl rfl)
  exact .ite (fun _ => keepsGuidance_resetCommanded _ s) (fun _ => .refl s)

/-- R195: a request keeps the laws when its rule does. -/
theorem keepsGuidance_request {α : Type} {kind : Nat} {always : Bool} {r : Req α} {rule : α → State → State} {s : State}
    (h : ∀ x t, KeepsGuidance t (rule x t)) : KeepsGuidance s (request kind always r rule s) := by
  have k := keepsGuidance_arrive s
  refine .ite (fun _ => .refl s) (fun _ => .ite (fun _ => k.answered _ _ _) (fun _ => ?_))
  cases r with
  | misfit => exact k.answered _ _ _
  | fits x => exact k.trans (h x _)

theorem keepsGuidance_broadcastIn {α : Type} {r : Req α} {rule : α → State → State} {s : State}
    (h : ∀ x t, KeepsGuidance t (rule x t)) : KeepsGuidance s (broadcastIn r rule s) := by
  have k : KeepsGuidance s { s with link := { s.link with receiver := .hunting } } := .of_units rfl rfl rfl rfl rfl
  refine .ite (fun _ => .refl s) (fun _ => .ite (fun _ => k) (fun _ => ?_))
  cases r with
  | misfit => exact k
  | fits x => exact k.trans (h x _)

theorem keepsGuidance_thenFill {α : Type} {rule : α → State → State} (h : ∀ x t, KeepsGuidance t (rule x t)) (x : α)
    (s : State) : KeepsGuidance s (thenFill rule x s) := (h x s).fill

/-- A rule that one condition of the part refuses. -/
theorem keepsGuidance_refusable {kind : Nat} {r : Result} {c : Prop} [Decidable c] {s t : State} (h : KeepsGuidance s t) :
    KeepsGuidance s (if c then answer kind r [] s else t) := .ite (fun _ => keepsGuidance_answer _ _ _ s) (fun _ => h)

/-- A rule that the part takes in one condition. -/
theorem keepsGuidance_taken {kind : Nat} {r : Result} {c : Prop} [Decidable c] {s t : State} (h : KeepsGuidance s t) :
    KeepsGuidance s (if c then t else answer kind r [] s) := .ite (fun _ => h) (fun _ => keepsGuidance_answer _ _ _ s)

theorem keepsGuidance_unlessStoring {kind : Nat} {rule : State → State} {s : State} (h : KeepsGuidance s (rule s)) :
    KeepsGuidance s (unlessStoring kind rule s) := keepsGuidance_refusable h

theorem keepsGuidance_notInFallback {kind : Nat} {rule : State → State} {s : State} (h : KeepsGuidance s (rule s)) :
    KeepsGuidance s (notInFallback kind rule s) := keepsGuidance_refusable h

theorem keepsGuidance_inRunning {kind : Nat} {rule : State → State} {s : State} (h : KeepsGuidance s (rule s)) :
    KeepsGuidance s (inRunning kind rule s) := keepsGuidance_taken h

/-- A request that only reads, with one refusal. -/
theorem keepsGuidance_read {kind : Nat} {r q : Result} {x y : List Byte} {c : Prop} [Decidable c] (s : State) :
    KeepsGuidance s (if c then answer kind r x s else answer kind q y s) :=
  .ite (fun _ => keepsGuidance_answer _ _ _ s) (fun _ => keepsGuidance_answer _ _ _ s)

theorem keepsGuidance_openConfig (s : State) : KeepsGuidance s (openConfig s) := by
  refine keepsGuidance_refusable ?_
  split
  · exact (keepsGuidance_enterEditing s).answered _ _ _
  · exact (keepsGuidance_enterEditing s).answered _ _ _
  · exact keepsGuidance_answer _ _ _ s
  · exact keepsGuidance_answer _ _ _ s

theorem keepsGuidance_closeConfig (s : State) : KeepsGuidance s (closeConfig s) := by
  refine keepsGuidance_taken ?_
  split
  · exact keepsGuidance_answer _ _ _ s
  · exact (keepsGuidance_enterRunning s _).answered _ _ _

theorem keepsGuidance_writeConfig (q : Req CfgWrite) (s : State) : KeepsGuidance s (writeConfig q s) := by
  refine keepsGuidance_taken ?_
  split
  · exact keepsGuidance_answer _ _ _ s
  · split
    · refine .answered ?_ _ _ _
      exact .of_units rfl rfl rfl rfl rfl
    · exact keepsGuidance_answer _ _ _ s

theorem keepsGuidance_readConfig (q : CfgRead) (s : State) : KeepsGuidance s (readConfig q s) := by
  dsimp only [readConfig]
  split
  · exact keepsGuidance_read s
  · exact keepsGuidance_answer _ _ _ s
  · exact keepsGuidance_read s

/-- R95: the dimming table and the wanted levels of the groups are nothing to guidance. -/
theorem sameGuidance_takeCurve (block : Nat) (outputs : List Nat) (s : State) : SameGuidance s (takeCurve block outputs s) :=
  .of_cfg (does_takeCurve block outputs s) rfl (by rw [takeCurve_cfg]) (by rw [takeCurve_cfg])

theorem keepsGuidance_writeCurve (q : Req (Nat × Option (List Nat))) (s : State) : KeepsGuidance s (writeCurve q s) := by
  refine keepsGuidance_unlessStoring (keepsGuidance_inRunning ?_)
  split
  · exact keepsGuidance_answer _ _ _ s
  · refine keepsGuidance_refusable ?_
    split
    · exact keepsGuidance_answer _ _ _ s
    · exact keepsGuidance_refusable (.answered (.same (sameGuidance_takeCurve _ _ s)) _ _ _)

theorem keepsGuidance_mapChecks (a b : Nat) (s : State) : KeepsGuidance s (mapChecks a b s) := by
  refine keepsGuidance_refusable ?_
  split
  · exact keepsGuidance_read s
  · split
    · exact keepsGuidance_answer _ _ _ s
    · refine .ite (fun _ => keepsGuidance_answer _ _ _ s) (fun _ => ?_)
      split
      · exact keepsGuidance_answer _ _ _ s
      · exact (keepsGuidance_bindAddress _ _ _ s).answered _ _ _

theorem keepsGuidance_removeMapping (a : Addr) (s : State) : KeepsGuidance s (removeMapping a s) := by
  dsimp only [removeMapping]
  split
  · exact keepsGuidance_taken ((keepsGuidance_unbindAddress _ _ _ s).answered _ _ _)
  · exact keepsGuidance_answer _ _ _ s

theorem keepsGuidance_lookupMapping (a : Addr) (s : State) : KeepsGuidance s (lookupMapping a s) := by
  dsimp only [lookupMapping]
  split <;> exact keepsGuidance_answer _ _ _ s

theorem keepsGuidance_reserveRequest (b time : Nat) (s : State) : KeepsGuidance s (reserveRequest b time s) := by
  refine keepsGuidance_refusable ?_
  split
  · exact (keepsGuidance_reserveBay b _ s).answered _ _ _
  · exact (keepsGuidance_reserveBay b _ s).answered _ _ _
  all_goals exact keepsGuidance_answer _ _ _ s

theorem keepsGuidance_releaseRequest (b : Nat) (s : State) : KeepsGuidance s (releaseRequest b s) :=
  keepsGuidance_refusable (keepsGuidance_taken ((keepsGuidance_cancelReservation b s).answered _ _ _))

theorem keepsGuidance_closeRequest (b : Nat) (s : State) : KeepsGuidance s (closeRequest b s) :=
  keepsGuidance_refusable (keepsGuidance_refusable ((keepsGuidance_closeBay b s).answered _ _ _))

theorem keepsGuidance_openRequest (b : Nat) (s : State) : KeepsGuidance s (openRequest b s) :=
  keepsGuidance_refusable (keepsGuidance_taken ((keepsGuidance_openBay b s).answered _ _ _))

theorem keepsGuidance_clearFan (n : Nat) (s : State) : KeepsGuidance s (clearFan n s) :=
  keepsGuidance_refusable (keepsGuidance_taken ((keepsGuidance_takeChannel n _ s).answered _ _ _))

theorem keepsGuidance_levelCountsRule (q : Req (List (Nat × Nat))) (s : State) : KeepsGuidance s (levelCountsRule q s) := by
  refine keepsGuidance_inRunning ?_
  split
  · exact keepsGuidance_answer _ _ _ s
  · exact keepsGuidance_refusable (keepsGuidance_taken ((keepsGuidance_writeLevels _ s).answered _ _ _))

theorem keepsGuidance_levelCountsBroadcast (items : List (Nat × Nat)) (s : State) :
    KeepsGuidance s (levelCountsBroadcast items s) :=
  .ite (fun _ => keepsGuidance_writeLevels items s) (fun _ => .refl s)

theorem keepsGuidance_pushRule (q : PushReq) (s : State) : KeepsGuidance s (pushRule q s) := by
  dsimp only [pushRule]
  split
  · exact keepsGuidance_answer _ _ _ s
  · exact keepsGuidance_refusable (keepsGuidance_refusable ((keepsGuidance_restack _ s).answered _ _ _))

theorem keepsGuidance_popRule (s : State) : KeepsGuidance s (popRule s) := by
  dsimp only [popRule]
  split
  · exact keepsGuidance_answer _ _ _ s
  · exact (keepsGuidance_removeEntries _ s).answered _ _ _

theorem keepsGuidance_removeRule (id : Nat) (s : State) : KeepsGuidance s (removeRule id s) := by
  dsimp only [removeRule]
  split
  · exact keepsGuidance_answer _ _ _ s
  · exact keepsGuidance_taken ((keepsGuidance_removeEntries _ s).answered _ _ _)

/-! ## Frames and events -/

/-- An event that, when it is due, keeps the laws. -/
theorem keepsGuidance_event {c : Prop} [Decidable c] {s u : State} (h : c → KeepsGuidance s u) :
    KeepsGuidance s (if c then u else s) := .ite h (fun _ => .refl s)

/-- The same, with the slots filled after it. -/
theorem keepsGuidance_eventFill {c : Prop} [Decidable c] {s u : State} (h : KeepsGuidance s u) :
    KeepsGuidance s (if c then fillSlots u else s) := keepsGuidance_event fun _ => h.fill

/-- An event that the part does not take in one condition. -/
theorem keepsGuidance_unless {c : Prop} [Decidable c] {s u : State} (h : KeepsGuidance s u) :
    KeepsGuidance s (if c then s else u) := .ite (fun _ => .refl s) (fun _ => h)

theorem keepsGuidance_deliver {a : Addr} {effect : State → State} {s : State} (h : KeepsGuidance s (effect s)) :
    KeepsGuidance s (deliver a effect s) := keepsGuidance_eventFill h

theorem keepsGuidance_endAttempt {effect : Nat → Slot → State → State} (h : ∀ i x s, KeepsGuidance s (effect i x s))
    (s : State) : KeepsGuidance s (endAttempt effect s) := by
  dsimp only [endAttempt]
  split
  · exact keepsGuidance_eventFill (h _ _ s)
  · exact .refl s

theorem keepsGuidance_receiverTo (r : Receiver) (s : State) : KeepsGuidance s (receiverTo r s) :=
  .ite (fun _ => .refl s) (fun _ => .of_units rfl rfl rfl rfl rfl)

theorem keepsGuidance_endWarmup (n : Nat) (raw : BitVec 10) (s : State) : KeepsGuidance s (endWarmup n raw s) :=
  .ite (fun _ => .ite (fun _ => .same (sameGuidance_takeSensorState n _ s)) (fun _ => .same (.of_air fun _ => rfl)))
    (fun _ => .refl s)

/-! ## Every command -/

/-- A command that answers a next state keeps the laws of lamps and faces. -/
def OutKeepsGuidance (s : State) (o : Out) : Prop := ∀ t, o = .next t → KeepsGuidance s t

namespace OutKeepsGuidance

variable {s u : State}

theorem next (k : KeepsGuidance s u) : OutKeepsGuidance s (.next u) := fun t h => by
  rw [← Host.Outcome.next.inj h]
  exact k

theorem within {i n : Nat} (k : KeepsGuidance s u) : OutKeepsGuidance s (Machine.within i n u) := by
  unfold Machine.within
  split
  · exact next k
  · exact fun t h => absurd h (by simp)

end OutKeepsGuidance

theorem keepsGuidance_exec (i : Instr) (s : State) : OutKeepsGuidance s (exec i s) := by
  cases i with
  | powerOnReset straps => exact .next (keepsGuidance_reset rfl rfl)
  | commandedReset straps => exact .next (keepsGuidance_event fun _ => keepsGuidance_resetCommanded straps s)
  | loadEnd source => exact .next (keepsGuidance_event fun hl => (keepsGuidance_endLoad source hl).fill)
  | t32Tap loops keys order => exact .next (.fill (.foldl _ (keepsGuidance_runT32 loops keys) _ s))
  | t4Tap rdy order => exact .next (.fill (.foldl _ (keepsGuidance_runT4 rdy) _ s))
  | t1Tap ain order => exact .next (.fill (.foldl _ (keepsGuidance_runT1 ain) _ s))
  | correctionWindow => exact .next (keepsGuidance_event fun _ => .of_units rfl rfl rfl rfl rfl)
  | warmupEnd slot raw => exact .within (keepsGuidance_endWarmup slot raw s)
  | sensorSilent slot => exact .within (keepsGuidance_event fun _ => .same (sameGuidance_takeSensorState slot _ s))
  | doseRingAdvance zone =>
    exact .within (keepsGuidance_event fun _ => .same (sameGuidance_setZoneAir (advanceRing_state _)))
  | creditDecay zone => exact .within (keepsGuidance_event fun _ => .same (sameGuidance_setZoneAir rfl))
  | alarmHoldEnd zone => exact .within (keepsGuidance_event fun _ => .same (sameGuidance_setZoneAir rfl))
  | bayState a d x => exact .next (keepsGuidance_deliver (keepsGuidance_takeBayState a d x s))
  | gasValue a g => exact .next (keepsGuidance_deliver (keepsGuidance_takeGasValue a g s))
  | pedPresence a p => exact .next (keepsGuidance_deliver (keepsGuidance_takePed a p s))
  | lumState a x => exact .next (keepsGuidance_deliver (keepsGuidance_takeLumState a x s))
  | signState a x => exact .next (keepsGuidance_deliver (keepsGuidance_takeSignState a x s))
  | announce a type => exact .next (keepsGuidance_deliver (keepsGuidance_takeAnnounce a type s))
  | fieldFrameDiscarded why =>
    cases why with
    | malformed => exact .next (keepsGuidance_event fun _ => .of_units rfl rfl rfl rfl rfl)
    | sentKind | unknownKind | notDevice => exact .next (.refl s)
  | settleExpiry bay => exact .within (keepsGuidance_eventFill (keepsGuidance_settleTap bay s))
  | silenceScan => exact .next (keepsGuidance_eventFill (keepsGuidance_scanTap s))
  | reservationExpiry bay => exact .within (keepsGuidance_eventFill (keepsGuidance_reservationTap bay s))
  | stayLitEnd g => exact .within (keepsGuidance_eventFill (.of_does (does_stayTap g s) rfl))
  | pathStep p => exact .within (keepsGuidance_eventFill (.of_does (does_pathTap p s) rfl))
  | lightResend => exact .next (keepsGuidance_eventFill (.of_does (does_lightResendTap s) rfl))
  | readyTimeout n => exact .within (keepsGuidance_eventFill (keepsGuidance_fanTap n false s))
  | readyLoss n => exact .within (keepsGuidance_eventFill (keepsGuidance_fanTap n false s))
  | coastEnd n => exact .within (keepsGuidance_event fun _ => .of_units rfl rfl rfl rfl rfl)
  | loopOccupied i => exact .within (keepsGuidance_eventFill (keepsGuidance_loopTapActive i s))
  | loopRelease i => exact .within (keepsGuidance_unless (keepsGuidance_releaseLoop i s).fill)
  | loopStuck i => exact .within (keepsGuidance_eventFill (keepsGuidance_occupiedTap i s))
  | sequenceTimeout p => exact .within (keepsGuidance_event fun _ => .of_units rfl rfl rfl rfl rfl)
  | rotationAdvance => exact .next (keepsGuidance_eventFill (keepsGuidance_rotationTap s))
  | guidanceResend => exact .next (keepsGuidance_eventFill (.same (sameGuidance_guideResendTap s)))
  | levelStale v => exact .within (keepsGuidance_eventFill (keepsGuidance_levelTap v s))
  | overrideExpiry => exact .next (keepsGuidance_unless (keepsGuidance_expireRestacked _ s).fill)
  | inputActive k => exact .within (keepsGuidance_eventFill (keepsGuidance_keyTapActive k s))
  | inputRelease k => exact .within (keepsGuidance_unless (keepsGuidance_keyRelease k s).fill)
  | frameOffer =>
    refine .next (keepsGuidance_event fun _ => ?_)
    split
    · exact .of_does (does_putSlot s _ _) rfl
    · exact .refl s
  | arbitrationLost =>
    exact .next (keepsGuidance_endAttempt (fun i x s => .of_does (does_arbitrationLoses i x s) rfl) s)
  | attemptSuccess => exact .next (keepsGuidance_endAttempt keepsGuidance_attemptSucceeds s)
  | attemptFailed => exact .next (keepsGuidance_endAttempt keepsGuidance_attemptFails s)
  | busOffRecovery => exact .next (keepsGuidance_eventFill (.of_does (does_recoverBus s) rfl))
  | storePageDone =>
    refine .next ?_
    split
    · exact keepsGuidance_event fun _ => .of_units rfl rfl rfl rfl rfl
    · exact .refl s
  | storeReadbackDone agrees =>
    refine .next ?_
    split
    · exact keepsGuidance_event fun _ => .ite (fun _ => .of_units rfl rfl rfl rfl rfl) (fun _ => .of_units rfl rfl rfl rfl rfl)
    · exact .refl s
  | storePageTimeout =>
    refine .next ?_
    split
    · exact keepsGuidance_event fun _ => .of_units rfl rfl rfl rfl rfl
    · exact .refl s
  | frameSync | frameGapTimeout | frameCrcMismatch => exact .next (keepsGuidance_receiverTo _ s)
  | frameIgnored a k => exact .next (keepsGuidance_event fun _ => keepsGuidance_receiverTo _ s)
  | frameLenAbandoned len => exact .next (keepsGuidance_event fun _ => keepsGuidance_receiverTo _ s)
  | unknownKind k => exact .next (keepsGuidance_unless ((keepsGuidance_arrive s).answered _ _ _))
  | replyStart =>
    refine .next (keepsGuidance_unless ?_)
    split
    · exact .of_units rfl rfl rfl rfl rfl
    · exact .refl s
  | replyEnd => exact .next (keepsGuidance_event fun _ => .of_units rfl rfl rfl rfl rfl)
  | identify r | getStatus r | getClock r | listUnknown r | readLoops r | overrideList r =>
    exact .next (keepsGuidance_request fun _ t => keepsGuidance_answer _ _ _ t)
  | reset r | clearUnknown r | fetchNotices r | noticeClasses r =>
    exact .next (keepsGuidance_request fun _ t => .of_units rfl rfl rfl rfl rfl)
  | curveRead r | mapReadSet r | readBays r | readSensor r | readFan r | readGroup r | readSign r =>
    exact .next (keepsGuidance_request fun _ t => keepsGuidance_read t)
  | setClock broadcast r =>
    exact .next (.ite (fun _ => keepsGuidance_broadcastIn fun _ t => .of_units rfl rfl rfl rfl rfl)
      (fun _ => keepsGuidance_request fun _ t => .of_units rfl rfl rfl rfl rfl))
  | configOpen r => exact .next (keepsGuidance_request (keepsGuidance_thenFill fun _ t => keepsGuidance_openConfig t))
  | configWrite r => exact .next (keepsGuidance_request keepsGuidance_writeConfig)
  | configRead r => exact .next (keepsGuidance_request keepsGuidance_readConfig)
  | configClose r => exact .next (keepsGuidance_request (keepsGuidance_thenFill fun _ t => keepsGuidance_closeConfig t))
  | configStore r =>
    refine .next (keepsGuidance_request fun id t => keepsGuidance_unlessStoring (keepsGuidance_inRunning (.answered ?_ _ _ _)))
    exact .of_units rfl rfl rfl rfl rfl
  | curveWrite r => exact .next (keepsGuidance_request (keepsGuidance_thenFill keepsGuidance_writeCurve))
  | mapWrite r =>
    exact .next (keepsGuidance_request (keepsGuidance_thenFill fun x t =>
      keepsGuidance_unlessStoring (keepsGuidance_notInFallback (keepsGuidance_mapChecks x.1 x.2 t))))
  | mapRemove r =>
    exact .next (keepsGuidance_request (keepsGuidance_thenFill fun a t =>
      keepsGuidance_unlessStoring (keepsGuidance_notInFallback (keepsGuidance_removeMapping a t))))
  | mapLookup r => exact .next (keepsGuidance_request keepsGuidance_lookupMapping)
  | readZone r =>
    exact .next (keepsGuidance_request fun z t =>
      keepsGuidance_refusable (keepsGuidance_inRunning (keepsGuidance_answer _ _ _ t)))
  | bayReserve r =>
    exact .next (keepsGuidance_request (keepsGuidance_thenFill fun x t =>
      keepsGuidance_inRunning (keepsGuidance_reserveRequest x.1 x.2 t)))
  | bayRelease r =>
    exact .next (keepsGuidance_request (keepsGuidance_thenFill fun b t =>
      keepsGuidance_inRunning (keepsGuidance_releaseRequest b t)))
  | bayClose r =>
    exact .next (keepsGuidance_request (keepsGuidance_thenFill fun b t =>
      keepsGuidance_unlessStoring (keepsGuidance_inRunning (keepsGuidance_closeRequest b t))))
  | bayOpen r =>
    exact .next (keepsGuidance_request (keepsGuidance_thenFill fun b t =>
      keepsGuidance_unlessStoring (keepsGuidance_inRunning (keepsGuidance_openRequest b t))))
  | fanClear r => exact .next (keepsGuidance_request (keepsGuidance_thenFill keepsGuidance_clearFan))
  | levelCounts broadcast r =>
    exact .next (.ite (fun _ => keepsGuidance_broadcastIn (keepsGuidance_thenFill keepsGuidance_levelCountsBroadcast))
      (fun _ => keepsGuidance_request (keepsGuidance_thenFill keepsGuidance_levelCountsRule)))
  | overridePush r => exact .next (keepsGuidance_request (keepsGuidance_thenFill keepsGuidance_pushRule))
  | overridePop r => exact .next (keepsGuidance_request (keepsGuidance_thenFill fun _ t => keepsGuidance_popRule t))
  | overrideRemove r => exact .next (keepsGuidance_request (keepsGuidance_thenFill keepsGuidance_removeRule))
  | pwmPeriodStart => exact .next (.of_units rfl rfl rfl rfl rfl)

/-- Every step keeps the laws of lamps and faces. -/
theorem keepsGuidance_step {s t : State} (h : step s = .next t) : KeepsGuidance s t := by
  unfold step at h
  split at h
  · rw [← Host.Outcome.next.inj h]
    exact .of_units rfl rfl rfl rfl rfl
  · rename_i c rest _
    exact .trans (t := { s with pending := rest }) (.of_units rfl rfl rfl rfl rfl) (keepsGuidance_exec c _ t h)

/-- Settles O56: every command keeps the law of the bay lamps. A bay whose state is derived again forms its own lamp, a
zone whose status changes the lamps of its bays, and an entry to RUNNING every lamp; outside RUNNING all are dark. -/
theorem lampsFollowTheirBays : Obligations.LampsFollowTheirBays := fun _ _ l h => (keepsGuidance_step h).lamps l

/-- Settles O57: every command keeps the law of the faces. A change of a zone's status, free counts or air state, and of
an other-level entry, forms the faces again that look at it, an advance selects from the eligible set, and an entry to
RUNNING forms every face. -/
theorem facesFollowTheirInputs : Obligations.FacesFollowTheirInputs := fun _ _ l h => (keepsGuidance_step h).faces l

end Sys2Proof.Machine
end

section
/-! SUPPORT. The rotation (R129, R130): at the 16th T1 tap the signs without a pair are advanced, one after another. -/

namespace Sys2Proof.Machine

/-! ## The rotation counter -/

theorem putFace_rotation (i f : Nat) (x : Face) (s : State) : (putFace i f x s).guide.rotation = s.guide.rotation :=
  (marks_note (.face i f) _ (setFace i f x s)).rotation

theorem advanceFace_rotation (i f : Nat) (s : State) : (advanceFace i f s).guide.rotation = s.guide.rotation := by
  dsimp only [advanceFace]
  split
  · exact putFace_rotation i f _ s
  · rfl

theorem advanceSign_rotation (i : Nat) (s : State) : (advanceSign i s).guide.rotation = s.guide.rotation := by
  unfold advanceSign
  split
  · exact foldl_keeps (π := fun t : State => t.guide.rotation) fun _ f _ _ => advanceFace_rotation i f _
  · rfl

theorem advanceUnpaired_rotation (s : State) : (advanceUnpaired s).guide.rotation = s.guide.rotation :=
  foldl_keeps (f := fun t i => advanceSign i t) (π := fun t : State => t.guide.rotation) fun _ i _ _ =>
    advanceSign_rotation i _

/-! ## The faces of the unpaired signs -/

/-- The present signs without a pair. -/
def unpairedSigns (s : State) : List Nat :=
  (presentSigns s).filter (fun i => (s.cfg.inForce.signs.nth i).pair.isNone)

theorem advanceUnpaired_eq (s : State) : advanceUnpaired s = (unpairedSigns s).foldl (fun t i => advanceSign i t) s := rfl

theorem mem_unpairedSigns {s : State} {i : Nat} :
    i ∈ unpairedSigns s ↔ i ∈ presentSigns s ∧ (s.cfg.inForce.signs.nth i).pair = none := by
  rw [unpairedSigns, List.mem_filter, Option.isNone_iff_eq_none]

theorem nodup_unpairedSigns (s : State) : (unpairedSigns s).Nodup := (List.nodup_range.filter _).filter _

/-- R130: the advance of another sign leaves a face, but for its mark. -/
theorem advanceSign_face_of_ne {i j : Nat} (h : j ≠ i) (f : Nat) (s : State) :
    (faceOf (advanceSign i s) j f).bare = (faceOf s j f).bare := (advanceSign_faces i s).2 j f fun e => h e.1

/-- What a choice among candidates looks at stands through the advances of some signs. -/
theorem quiet_advanceSigns (l : List Nat) (s : State) : Quiet s (l.foldl (fun t i => advanceSign i t) s) :=
  .foldl _ (fun t i => quiet_advanceSign i t) l s

/-- R129, R130: every DECISION face of a present sign without a pair is advanced. -/
theorem advanceUnpaired_turned {s : State} {i f : Nat} (hm : (i, f) ∈ allFaces s)
    (hd : (faceRec s i f).kind = .decision) (hp : (s.cfg.inForce.signs.nth i).pair = none) :
    Advanced s (faceRec s i f) (faceOf s i f) (faceOf (advanceUnpaired s) i f) := by
  have hi : i ∈ unpairedSigns s := mem_unpairedSigns.mpr ⟨(mem_allFaces.mp hm).1, hp⟩
  obtain ⟨l₁, l₂, -, before, after⟩ := foldl_once (f := fun t i => advanceSign i t)
    (π := fun t : State => (faceOf t i f).bare) (s := s) (nodup_unpairedSigns s) hi
    fun l₁ q l₂ _ hq => advanceSign_face_of_ne (Ne.symm hq) f _
  have q := quiet_advanceSigns l₁ s
  have hall := allFaces_congr q.inForce
  have hrec := faceRec_congr q.inForce i f
  have turned := (advanceSign_faces i (l₁.foldl (fun t i => advanceSign i t) s)).1 f (hall ▸ hm) (by rw [hrec]; exact hd)
  rw [hrec] at turned
  exact turned.congr (.of_quiet q) before after

/-- R130: every other face stands, but for its mark. -/
theorem advanceUnpaired_other {s : State} {i f : Nat}
    (h : (faceRec s i f).kind ≠ .decision ∨ (s.cfg.inForce.signs.nth i).pair ≠ none) :
    (faceOf (advanceUnpaired s) i f).bare = (faceOf s i f).bare := by
  rw [advanceUnpaired_eq]
  refine foldl_keeps (π := fun t : State => (faceOf t i f).bare) fun l₁ j l₂ e => ?_
  by_cases hj : i = j
  · subst hj
    have hp : (s.cfg.inForce.signs.nth i).pair = none := (mem_unpairedSigns.mp (by rw [e]; simp)).2
    refine (advanceSign_faces i _).2 i f fun k => ?_
    rw [faceRec_congr (quiet_advanceSigns l₁ s).inForce] at k
    exact h.elim (fun n => n k.2.2) (fun n => n hp)
  · exact advanceSign_face_of_ne hj f _

/-- The rotation counter come round. -/
def rotationRound (s : State) : State := { s with guide := { s.guide with rotation := 0 } }

theorem rotationTap_round {s : State} (h : s.guide.rotation = 15) : rotationTap s = advanceUnpaired (rotationRound s) := by
  simp [rotationTap, h, rotationRound]

/-- Settles O27: as the counter comes round each sign without a pair is advanced once, which turns its DECISION faces and
no other face; what the choices are made from stands through the advances, and filling the slots touches only marks. -/
theorem rotationTurnsUnpairedDecisions : Obligations.RotationTurnsUnpairedDecisions := by
  intro s hr h15
  have m := marks_fillSlots (advanceUnpaired (rotationRound s))
  have d := ((does_rotationTap s).mono (bs := [.light, .guide, .slots]) rfl).trans ((does_fillSlots _).mono rfl)
  have same : SameChoices s (rotationRound s) := ⟨rfl, rfl, rfl, fun _ => rfl⟩
  refine ⟨fillSlots (rotationTap s), congrArg _ (if_pos ⟨hr, h15⟩), d.frame, ?_⟩
  rw [rotationTap_round h15]
  refine ⟨m.rotation.trans (advanceUnpaired_rotation _), fun x hx => ⟨fun hd hp => ?_, fun h => ?_⟩⟩
  · exact (advanceUnpaired_turned (s := rotationRound s) hx hd hp).congr same rfl (m.face x.1 x.2)
  · exact (m.face x.1 x.2).trans (advanceUnpaired_other (s := rotationRound s) h)

end Sys2Proof.Machine
end

section
/-! SUPPORT. LEVEL_COUNTS and the ages of the other levels (R134, R135): what a list leaves in the table, what is refused,
and the notice of an entry that turns stale. -/

namespace Sys2Proof.Machine

/-! ## The other-level table -/

/-- R132: forming faces again leaves the other-level table. -/
theorem formFaces_levels (p : FaceRec → Bool) (s : State) : (formFaces p s).guide.levels = s.guide.levels :=
  foldl_keeps (f := fun t (x : Nat × Nat) => formFace x.1 x.2 t) (π := fun t : State => t.guide.levels)
    fun _ x _ _ => (marks_note (.face x.1 x.2) _ (setFace x.1 x.2 _ _)).levels

/-- R135. -/
theorem staleLevel_levels (v : Nat) (e : OtherLevel) (s : State) :
    (staleLevel v e s).guide.levels = s.guide.levels.put v (some { e with age := 120 }) := formFaces_levels _ _

/-- R134. -/
theorem writeLevels_levels (items : List (Nat × Nat)) (s : State) :
    (writeLevels items s).guide.levels = levelsWritten items s.guide.levels := by
  unfold writeLevels guideLevels
  rw [formFaces_levels, writeLevelList_guide]

theorem levelsFit_iff {items : List (Nat × Nat)} : levelsFit items = true ↔ ∀ x ∈ items, 1 ≤ x.1 ∧ x.1 ≤ 7 := by
  simp only [levelsFit, List.all_eq_true, Bool.and_eq_true, decide_eq_true_eq]

/-! ## An entry that turns stale (R135) -/

theorem levelTap_stale {v : Nat} {e : OtherLevel} {s : State} (h : s.guide.levels.nth v = some e) (ha : e.age = 119) :
    levelTap v s = staleLevel v e s := by
  simp only [levelTap, h, ha, Nat.reduceAdd, ge_iff_le, Nat.reduceLeDiff, if_false, if_true]

theorem announced_staleLevel (v : Nat) (e : OtherLevel) (s : State) :
    announced s (staleLevel v e s) (.levelStale v true) :=
  ((does_setLevel s v _).announced_post _ rfl rfl).kept (does_guideLevels _ _) rfl

/-! ## LEVEL_COUNTS (R134) -/

section LevelCounts

variable {items : List (Nat × Nat)} {s : State}

theorem levelCountsRule_badLength (hr : running s = true) (h : items.length = 0 ∨ items.length > 7) :
    levelCountsRule (.fits items) s = answer 0x45 .badLength [] s := (inRunning_taken hr).trans (if_pos h)

theorem levelCountsRule_badIndex (hr : running s = true) (h : ¬(items.length = 0 ∨ items.length > 7))
    (hf : ¬levelsFit items = true) : levelCountsRule (.fits items) s = answer 0x45 .badIndex [] s :=
  (inRunning_taken hr).trans ((if_neg h).trans (if_neg hf))

theorem levelCountsRule_fits (hr : running s = true) (h : ¬(items.length = 0 ∨ items.length > 7))
    (hf : levelsFit items = true) :
    levelCountsRule (.fits items) s = answer 0x45 .ok (u8 items.length) (writeLevels items s) :=
  (inRunning_taken hr).trans ((if_neg h).trans (if_pos hf))

/-- The part as it has taken a broadcast, before what the broadcast does. -/
def broadcastTaken (s : State) : State := { s with link := { s.link with receiver := .hunting } }

theorem does_broadcastTaken (s : State) : Does [.link] s (broadcastTaken s) := does_link s ⟨rfl, rfl, rfl⟩

theorem exec_levelCounts_broadcast (h : takesRequests s) : exec (.levelCounts true (.fits items)) s =
    .next (fillSlots (levelCountsBroadcast items (broadcastTaken s))) := by
  change execLevelCounts true (.fits items) s = _
  rw [execLevelCounts, if_pos rfl, broadcast_taken h]
  rfl

/-- R134: a list that is refused is answered, and as a broadcast it does nothing. -/
theorem levelCounts_refused {r : Result} (h : takesRequests s) (hf : FillLaw s)
    (hr : levelCountsRule (.fits items) (received s) = answer 0x45 r [] (received s))
    (hb : ¬(running s = true ∧ items.length ≠ 0 ∧ items.length ≤ 7 ∧ levelsFit items = true)) :
    exec (.levelCounts false (.fits items)) s = .next (repliedOnly s 0x45 r []) ∧
      exec (.levelCounts true (.fits items)) s = .next { s with link := { s.link with receiver := .hunting } } := by
  refine ⟨taken_answer (rule := levelCountsRule) (x := .fits items) h hf hr, ?_⟩
  have hfill : FillLaw (broadcastTaken s) := hf
  have hn : levelCountsBroadcast items (broadcastTaken s) = broadcastTaken s := if_neg hb
  rw [exec_levelCounts_broadcast h, hn, fillSlots_eq_self hfill, broadcastTaken]

/-- R134: a list that fits is written and answered. -/
theorem levelCounts_answered (h : takesRequests s) (hr : running s = true) (hn : ¬(items.length = 0 ∨ items.length > 7))
    (hf : levelsFit items = true) : ∃ t, exec (.levelCounts false (.fits items)) s = .next t ∧
      changesOnly [.light, .guide, .slots, .notices, .link] s t ∧ answers s t 0x45 .ok (u8 items.length) ∧
      t.guide.levels = levelsWritten items s.guide.levels := by
  have d := does_writeLevels items (received s)
  refine ⟨finished 0x45 .ok (u8 items.length) (writeLevels items (received s)),
    taken_finished (rule := levelCountsRule) (x := .fits items) h (levelCountsRule_fits hr hn hf), ?_,
    answers_finished d rfl, ?_⟩
  · exact (((does_received s).mono rfl).trans ((d.mono rfl).trans ((does_finished _ _ _ _).mono rfl))).frame
  · rw [finished, (marks_fillSlots _).levels]
    exact writeLevels_levels items (received s)

/-- R134: a list that fits is written as a broadcast too, with no reply. -/
theorem levelCounts_broadcast (h : takesRequests s) (hr : running s = true) (hn : ¬(items.length = 0 ∨ items.length > 7))
    (hf : levelsFit items = true) : ∃ t, exec (.levelCounts true (.fits items)) s = .next t ∧
      changesOnly [.light, .guide, .slots, .notices, .link] s t ∧ t.link.reply = s.link.reply ∧
      t.guide.levels = levelsWritten items s.guide.levels := by
  have d := does_writeLevels items (broadcastTaken s)
  have hw : levelCountsBroadcast items (broadcastTaken s) = writeLevels items (broadcastTaken s) :=
    if_pos ⟨hr, fun e => hn (.inl e), Nat.not_lt.mp fun e => hn (.inr e), hf⟩
  refine ⟨fillSlots (writeLevels items (broadcastTaken s)), (exec_levelCounts_broadcast h).trans (by rw [hw]), ?_, ?_, ?_⟩
  · exact (((does_broadcastTaken s).mono rfl).trans ((d.mono rfl).trans ((does_fillSlots _).mono rfl))).frame
  · rw [fillSlots_link, d.link rfl]
    rfl
  · rw [(marks_fillSlots _).levels]
    exact writeLevels_levels items (broadcastTaken s)

end LevelCounts

/-- Settles O28: an entry whose age reaches 120 is written, posted and its faces formed again; a list is refused or
written by the conditions of the rule in their order, and forming faces and filling slots leave the table. -/
theorem otherLevelsAreWrittenAndTurnStale : Obligations.OtherLevelsAreWrittenAndTurnStale := by
  intro s
  refine ⟨fun v e hr hv he ha => ?_, fun items h hf => ⟨fun hr => ?_, fun hr hl => ?_, fun hr h1 h7 x hx hi => ?_⟩,
    fun items hr h h1 h7 hi => ?_⟩
  · refine ⟨fillSlots (staleLevel v e s), ?_, ?_, ?_, ?_⟩
    · change execLevelStale v s = _
      rw [execLevelStale, within_of_lt hv, if_pos ⟨hr, by simp [he, ha]⟩, levelTap_stale he ha]
    · exact (((does_staleLevel v e s).mono (bs := [.light, .guide, .slots, .notices]) rfl).trans
        ((does_fillSlots _).mono rfl)).frame
    · rw [(marks_fillSlots _).levels, staleLevel_levels]
    · exact (announced_staleLevel v e s).kept (does_fillSlots _) rfl
  · exact levelCounts_refused h hf (inRunning_refused hr) fun k => by simp [hr] at k
  · exact levelCounts_refused h hf (levelCountsRule_badLength hr hl) fun ⟨_, hn, hm, _⟩ => by omega
  · have hn : ¬levelsFit items = true := fun k => by
      have := levelsFit_iff.mp k x hx
      omega
    exact levelCounts_refused h hf (levelCountsRule_badIndex hr (by omega) hn) fun k => hn k.2.2.2
  · have hl : ¬(items.length = 0 ∨ items.length > 7) := by omega
    exact ⟨levelCounts_answered h hr hl (levelsFit_iff.mpr hi), levelCounts_broadcast h hr hl (levelsFit_iff.mpr hi)⟩

end Sys2Proof.Machine
end

section
/-! SUPPORT. Passages and sensed changes bring the air monitor their credit and nothing else (R42, R116): the loop inputs
one by one, and the reports and settles of the bays. -/

namespace Sys2Proof.Machine

theorem credited_pairCovered (i : Nat) (s : State) : Credited s (pairCovered i s) := by
  dsimp only [pairCovered]
  split
  · exact .refl s
  · split
    · exact credited_passage _ _ s
    · exact .of_air rfl

theorem credited_loopTapActive (i : Nat) (s : State) : Credited s (loopTapActive i s) := by
  refine .ite (fun _ => .ite (fun _ => ?_) (fun _ => .of_air rfl)) (fun _ => .of_air rfl)
  have h : ∀ x y, Credited s (setLoop i x (setLoop i y s)) := fun _ _ => .of_air rfl
  exact (h _ _).trans (credited_pairCovered i _)

theorem credited_releaseLoop (i : Nat) (s : State) : Credited s (releaseLoop i s) := by
  have h : ∀ x, Credited s (setLoop i x s) := fun _ => .of_air rfl
  dsimp only [releaseLoop]
  split
  · exact h _
  · exact (h _).trans (credited_pairCleared i _)
  · exact .of_air rfl

theorem credited_loopsT32 (levels : BitVec 8) (s : State) : Credited s (loopsT32 levels s) :=
  .foldl (fun t i => loopTap i (levels.getLsbD i) t)
    (fun t i => .ite (fun _ => credited_loopTapActive i t) (fun _ => credited_releaseLoop i t)) _ s

theorem credited_sensedChange (b : Nat) (d : Det) (s : State) : Credited s (sensedChange b d s) :=
  ((credited_credit _ _ s).trans (.of_does (does_lightSensed b _) rfl)).trans (.of_does (does_guideSensed b _) rfl)

theorem credited_settleBay (b : Nat) (d : Det) (s : State) : Credited s (settleBay b d s) :=
  .trans (.of_does (does_takeSensed b d s) rfl) (credited_sensedChange b d _)

theorem credited_compareReport (b : Nat) (d : Det) (s : State) : Credited s (compareReport b d s) := by
  refine .ite (fun _ => .of_air rfl) (fun _ => .ite (fun _ => .refl s) (fun _ => ?_))
  exact .ite (fun _ => credited_settleBay b d s) (fun _ => .of_air rfl)

theorem credited_bayReport (b : Nat) (d : Det) (h : Health) (s : State) : Credited s (bayReport b d h s) := by
  cases h with
  | fault => exact .of_does (does_faultReport b s) rfl
  | ok =>
    change Credited s (okReport b d s)
    rw [okReport_eq]
    refine .trans (.trans (.of_does (does_heard b s) rfl) ?_) (.of_does (does_recovered b s _) rfl)
    exact .ite (fun _ => .of_does (does_takeSensed b d _) rfl) (fun _ => credited_compareReport b d _)

theorem credited_settleTap (b : Nat) (s : State) : Credited s (settleTap b s) := by
  dsimp only [settleTap]
  split
  · exact .ite (fun _ => credited_settleBay b _ s) (fun _ => .of_air rfl)
  · exact .refl s

theorem credited_bayT4 (s : State) : Credited s (bayT4 s) :=
  .ite (fun _ => .foldl _ (fun t b => credited_settleTap b t) _ s) (fun _ => .refl s)

end Sys2Proof.Machine
end

section
/-! SUPPORT. The laws of the override stack and of the sounder (R140, R141, R152): what keeps the stack bounded and its ids
distinct, what the sounder's condition looks at, and the operations that touch neither. -/

namespace Sys2Proof.Machine

/-! ## The stack (R140, R141) -/

namespace StackLaw

variable {l : List Entry}

/-- R141: entries removed. -/
theorem filter (h : StackLaw l) (p : Entry → Bool) : StackLaw (l.filter p) where
  bounded := (List.length_filter_le p l).trans h.bounded
  distinct := h.distinct.sublist (List.filter_sublist.map _)
  range e he := h.range e (List.mem_filter.mp he).1
  values := values_filter p h.values

/-- R146: entries whose remaining times move. -/
theorem map (h : StackLaw l) {f : Entry → Entry} (hi : ∀ e, (f e).id = e.id) (hv : ∀ e, (f e).value = e.value) :
    StackLaw (l.map f) where
  bounded := by
    rw [List.length_map]
    exact h.bounded
  distinct := by
    rw [List.map_map, show (·.id) ∘ f = (·.id) from funext hi]
    exact h.distinct
  range := List.forall_mem_map.mpr fun e he => by
    rw [hi]
    exact h.range e he
  values := List.forall_mem_map.mpr fun e he => by
    rw [hv]
    exact h.values e he

/-- R141: an entry placed on top of a stack with room, with the lowest free id. -/
theorem push (h : StackLaw l) (room : l.length < 8) {e : Entry} (hi : e.id = lowestFreeId l) (hv : e.value ≤ 1000) :
    StackLaw (l ++ [e]) := by
  obtain ⟨lower, upper, free, -⟩ := lowestFreeId_spec (stack := l) (by omega)
  rw [← hi] at lower upper free
  refine ⟨by simpa using room, ?_, ?_, values_snoc hv h.values⟩
  · rw [List.map_append, List.map_singleton, List.nodup_append_comm, List.singleton_append, List.nodup_cons]
    refine ⟨fun hm => ?_, h.distinct⟩
    obtain ⟨x, hx, hid⟩ := List.mem_map.mp hm
    exact free x hx hid
  · intro x hx
    rcases List.mem_append.mp hx with hx | hx
    · exact h.range x hx
    · rw [List.mem_singleton.mp hx]
      exact ⟨lower, upper⟩

end StackLaw

/-! ## The sounder (R152) -/

section Sounder

variable {s t : State}

/-- R152: the law looks at the air states, at the kinds on the stack and at the condition. -/
theorem sounderLaw_congr (alarm : ∀ z, (t.air.zones.nth z).state = (s.air.zones.nth z).state) (mute : muted t = muted s)
    (cond : t.ovr.sounder = s.ovr.sounder) (h : SounderLaw s) : SounderLaw t := by
  have zones : alarmZones t = alarmZones s := by simp only [alarmZones, alarm]
  exact ⟨by rw [cond, zones, mute]; exact h.sounds, by rw [cond, zones]; exact h.silent⟩

/-- R152: the condition formed again is silent exactly when no zone is in ALARM. -/
theorem deriveSounder_silent_iff (s : State) : deriveSounder s = .silent ↔ alarmZones s = [] := by
  by_cases ha : alarmZones s = []
  · simp [deriveSounder, ha]
  · rw [deriveSounder, if_neg (by simpa using ha)]
    split
    · simp [ha]
    · split <;> simp [ha]

/-- R152, R154: it sounds, in some phase, exactly when a zone is in ALARM and no mute stands. -/
theorem deriveSounder_sounding_iff (s : State) :
    (∃ on, deriveSounder s = .sounding on) ↔ (alarmZones s ≠ [] ∧ muted s = false) := by
  by_cases ha : alarmZones s = []
  · simp [deriveSounder, ha]
  · rw [deriveSounder, if_neg (by simpa using ha)]
    by_cases hm : muted s = true
    · simp [hm]
    · rw [if_neg hm]
      split <;> simp [ha, hm]

/-- R152: the condition formed again is the one that the zones and the stack give, whatever it was. -/
theorem sounderLaw_formSounder (s : State) : SounderLaw (formSounder s) :=
  ⟨deriveSounder_sounding_iff s, deriveSounder_silent_iff s⟩

end Sounder

/-! ## What keeps both laws -/

/-- From `s` to `t` the laws of the override stack and of the sounder are kept. -/
structure KeepsOverrides (s t : State) : Prop where
  stack : StackLaw s.ovr.stack → StackLaw t.ovr.stack
  sounder : SounderLaw s → SounderLaw t

namespace KeepsOverrides

variable {s t u : State} {bs : List Block}

theorem refl (s : State) : KeepsOverrides s s := ⟨id, id⟩

theorem trans (h : KeepsOverrides s t) (k : KeepsOverrides t u) : KeepsOverrides s u :=
  ⟨k.stack ∘ h.stack, k.sounder ∘ h.sounder⟩

theorem ite {c : Prop} [Decidable c] (h : c → KeepsOverrides s t) (k : ¬c → KeepsOverrides s u) :
    KeepsOverrides s (if c then t else u) := by
  split
  · exact h ‹_›
  · exact k ‹_›

theorem foldl {α : Type} (f : State → α → State) (h : ∀ t x, KeepsOverrides t (f t x)) (l : List α) (s : State) :
    KeepsOverrides s (l.foldl f s) := by
  induction l generalizing s with
  | nil => exact refl s
  | cons x l ih => exact (h s x).trans (ih _)

/-- The stack, the condition and the air states stand. -/
theorem same (stack : t.ovr.stack = s.ovr.stack := by rfl) (cond : t.ovr.sounder = s.ovr.sounder := by rfl)
    (alarm : ∀ z, (t.air.zones.nth z).state = (s.air.zones.nth z).state := by exact fun _ => rfl) : KeepsOverrides s t :=
  ⟨fun h => by rw [stack]; exact h, sounderLaw_congr alarm (by rw [muted, muted, stack]) cond⟩

/-- An operation of a block beside the override stack that leaves the air states. -/
theorem of_airStates (a : ∀ z, (t.air.zones.nth z).state = (s.air.zones.nth z).state) (d : Does bs s t)
    (o : bs.contains .ovr = false) : KeepsOverrides s t := by
  have h := d.ovr o
  exact same (by rw [h]) (by rw [h]) a

/-- One that brings the air monitor at most a credit. -/
theorem of_credited (c : Credited s t) (d : Does bs s t) (o : bs.contains .ovr = false) : KeepsOverrides s t := by
  refine of_airStates (fun z => ?_) d o
  have k := congrArg ZoneAir.state (c.zones z)
  exact k

/-- One that leaves the air monitor. -/
theorem of_does (d : Does bs s t) (o : bs.contains .ovr = false) (a : bs.contains .air = false) : KeepsOverrides s t :=
  of_airStates (fun _ => by rw [d.air a]) d o

theorem after (h : KeepsOverrides s t) (d : Does bs t u) (o : bs.contains .ovr = false) (a : bs.contains .air = false) :
    KeepsOverrides s u := h.trans (of_does d o a)

/-- R165. -/
theorem fill (h : KeepsOverrides s t) : KeepsOverrides s (fillSlots t) := h.after (does_fillSlots t) rfl rfl

theorem answered (h : KeepsOverrides s t) (kind : Nat) (r : Result) (fs : List Byte) :
    KeepsOverrides s (answer kind r fs t) := h.after (does_answer t kind r fs) rfl rfl

/-- R152: whatever comes before it, the condition is formed again at the end. -/
theorem formed (h : StackLaw s.ovr.stack → StackLaw t.ovr.stack) : KeepsOverrides s (formSounder t) :=
  ⟨h, fun _ => sounderLaw_formSounder t⟩

end KeepsOverrides

end Sys2Proof.Machine
end

section
/-! SUPPORT. The changes of the override stack (R141, R146, R149 to R151, R153) and the air sample (R31, R54, R152) keep the
laws of the stack and of the sounder. -/

namespace Sys2Proof.Machine

/-! ## Pushes and removals (R141, R147) -/

/-- R147: a new stack is announced, and the sounder's condition formed again. -/
theorem keepsOverrides_restack {l : List Entry} {s : State} (h : StackLaw s.ovr.stack → StackLaw l) :
    KeepsOverrides s (announceStack (setStack l s)) := by
  have stands := (announceStack_ovr (setStack l s)).1
  exact ⟨fun k => by rw [stands]; exact h k, fun _ => sounderLaw_formSounder _⟩

theorem keepsOverrides_pushEntry {e : Entry} {s : State} (room : s.ovr.stack.length < 8)
    (hi : e.id = lowestFreeId s.ovr.stack) (hv : e.value ≤ 1000) : KeepsOverrides s (pushEntry e s) :=
  keepsOverrides_restack fun h => h.push room hi hv

theorem keepsOverrides_setKey (k : Nat) (x : Key) (s : State) : KeepsOverrides s (setKey k x s) := .same

/-- R149: the entry of a key input placed on a stack with room. -/
theorem stackLaw_keyEntry {k : Nat} {kind : OverrideKind} {s : State} (room : s.ovr.stack.length < 8)
    (h : StackLaw s.ovr.stack) : StackLaw (s.ovr.stack ++ [keyEntry s k kind]) := h.push room rfl (takeValue_le _ _)

theorem keepsOverrides_keyPush {k : Nat} {s : State} (room : s.ovr.stack.length < 8) : KeepsOverrides s (keyPush k s) := by
  dsimp only [keyPush]
  split
  · exact .refl s
  · exact .trans (keepsOverrides_setKey k _ s) (keepsOverrides_restack (stackLaw_keyEntry room))

theorem keepsOverrides_pendingPush (k : Nat) (s : State) : KeepsOverrides s (pendingPush k s) :=
  .ite (fun h => (keepsOverrides_keyPush h.2).after (does_post _ _) rfl rfl) (fun _ => .refl s)

theorem keepsOverrides_removeEntries (p : Entry → Bool) (s : State) : KeepsOverrides s (removeEntries p s) :=
  (keepsOverrides_restack fun h => h.filter _).trans
    ((keepsOverrides_pendingPush 0 _).trans (keepsOverrides_pendingPush 1 _))

/-! ## Key inputs (R149 to R151) -/

theorem keepsOverrides_keyAct (k : Nat) (s : State) : KeepsOverrides s (keyAct k s) := by
  have h : ∀ x, KeepsOverrides s (setKey k x s) := fun x => keepsOverrides_setKey k x s
  refine .ite (fun room => (h _).trans (keepsOverrides_keyPush room)) (fun _ => ?_)
  exact ((h _).trans (keepsOverrides_setKey k _ _)).after (does_post _ _) rfl rfl

theorem keepsOverrides_keyRelease (k : Nat) (s : State) : KeepsOverrides s (keyRelease k s) := by
  have h : ∀ x, KeepsOverrides s (setKey k x s) := fun x => keepsOverrides_setKey k x s
  dsimp only [keyRelease]
  split
  · exact (h _).trans (keepsOverrides_removeEntries _ _)
  · exact (h _).after (does_post _ _) rfl rfl
  · exact h _
  · exact h _

theorem keepsOverrides_keyTapActive (k : Nat) (s : State) : KeepsOverrides s (keyTapActive k s) := by
  have h : ∀ x, KeepsOverrides s (setKey k x s) := fun x => keepsOverrides_setKey k x s
  refine .ite (fun _ => h _) (fun _ => .ite (fun _ => .ite (fun _ => ?_) (fun _ => ?_)) (fun _ => h _))
  · exact (h _).trans (keepsOverrides_keyAct k _)
  · exact (h _).trans (keepsOverrides_setKey k _ _)

theorem keepsOverrides_keyTap (k : Nat) (active : Bool) (s : State) : KeepsOverrides s (keyTap k active s) :=
  .ite (fun _ => keepsOverrides_keyTapActive k s) (fun _ => keepsOverrides_keyRelease k s)

/-! ## Expiry (R146), the cancelling of mutes (R153) and the phase (R154) -/

theorem keepsOverrides_expireEntries (s : State) : KeepsOverrides s (expireEntries s) :=
  .ite (fun _ => .refl s) (fun _ =>
    .trans (.of_does (does_postAll _ s) rfl rfl) (keepsOverrides_removeEntries _ _))

/-- R146: remaining times move, then the entries that have run out are removed. -/
theorem keepsOverrides_expireMapped {f : Entry → Entry} (hi : ∀ e, (f e).id = e.id) (hk : ∀ e, (f e).kind = e.kind)
    (hv : ∀ e, (f e).value = e.value) (s : State) :
    KeepsOverrides s (expireEntries (setStack (s.ovr.stack.map f) s)) := by
  have mute : muted (setStack (s.ovr.stack.map f) s) = muted s := by
    simp only [muted, setStack, List.any_map, Function.comp_def, hk]
  exact .trans (t := setStack (s.ovr.stack.map f) s)
    ⟨fun h => h.map hi hv, sounderLaw_congr (fun _ => rfl) mute rfl⟩ (keepsOverrides_expireEntries _)

theorem keepsOverrides_stackT1 (s : State) : KeepsOverrides s (stackT1 s) :=
  keepsOverrides_expireMapped (f := Entry.tick) (fun _ => rfl) (fun _ => rfl) (fun _ => rfl) s

theorem keepsOverrides_spendKey (ids : List Nat) (k : Nat) (s : State) : KeepsOverrides s (spendKey ids k s) := by
  have h : ∀ x, KeepsOverrides s (setKey k x s) := fun x => keepsOverrides_setKey k x s
  refine .ite (fun _ => ?_) (fun _ => .refl s)
  split
  · exact .ite (fun _ => h _) (fun _ => .refl s)
  · exact (h _).after (does_post _ _) rfl rfl
  · exact .refl s
  · exact .refl s

theorem keepsOverrides_cancelMutes (s : State) : KeepsOverrides s (cancelMutes s) := by
  have spent : ∀ ns ids, KeepsOverrides s (spendKey ids 1 (spendKey ids 0 (postAll ns s))) := fun ns ids =>
    .trans (.of_does (does_postAll ns s) rfl rfl)
      ((keepsOverrides_spendKey ids 0 _).trans (keepsOverrides_spendKey ids 1 _))
  exact .ite (fun _ => spent _ _) (fun _ => (spent _ _).trans (keepsOverrides_removeEntries _ _))

theorem keepsOverrides_sounderTap (s : State) : KeepsOverrides s (sounderTap s) := by
  dsimp only [sounderTap]
  split
  · rename_i on cond
    refine ⟨id, fun h => ⟨?_, ?_⟩⟩
    · exact ⟨fun _ => h.sounds.mp ⟨on, cond⟩, fun _ => ⟨!on, rfl⟩⟩
    · exact ⟨fun k => absurd k (by simp), fun k => absurd (h.silent.mpr k) (by simp [cond])⟩
  · exact .refl s
  · exact .refl s

/-! ## The air sample (R31, R54) -/

/-- A zone's air record written with the air state that it has. -/
theorem keepsOverrides_setZoneAir {z : Nat} {x : ZoneAir} {s : State}
    (h : x.state = (s.air.zones.nth z).state := by rfl) : KeepsOverrides s (setZoneAir z x s) :=
  .same (alarm := (sameLevels_setZoneAir h).airState)

/-- R54, R152: a change of air states is announced, and the sounder's condition formed again. -/
theorem keepsOverrides_announceAir {z : Nat} {s u : State} (h : u.ovr = s.ovr) : KeepsOverrides s (announceAir z u) := by
  have told : Does [.guide, .light, .slots, .notices] u
      (lightAir z (guideAir z (post (.airState z (u.air.zones.nth z).state) u))) :=
    ((does_post _ u).mono rfl).trans (((does_guideAir z _).mono rfl).trans ((does_lightAir z _).mono rfl))
  have kept := KeepsOverrides.of_does told rfl rfl
  refine .formed fun l => KeepsOverrides.stack (s := u) ?_ (by rw [h]; exact l)
  exact .ite (fun _ => kept.trans (keepsOverrides_cancelMutes _)) (fun _ => kept)

theorem keepsOverrides_sampleZone (old : Tab Sensor 32) (z : Nat) (s : State) : KeepsOverrides s (sampleZone old z s) := by
  refine .ite (fun e => ?_) (fun _ => keepsOverrides_announceAir ?_)
  · exact (keepsOverrides_setZoneAir e.symm).after (does_postSensors old _ _) rfl rfl
  · rw [(does_postSensors old _ _).ovr rfl, (does_setZoneAir s z _).ovr rfl]

theorem keepsOverrides_airTap (ain : Tab (BitVec 10) 8) (s : State) : KeepsOverrides s (airTap ain s) := by
  have sensors : ∀ x, KeepsOverrides s { s with air := { s.air with sensors := x } } := fun _ => .same
  refine .ite (fun _ => sensors _) (fun _ => .ite (fun _ => ?_) (fun _ => sensors _))
  exact ((sensors _).after (does_postSensors _ _ _) rfl rfl).trans
    (.foldl _ (fun t z => keepsOverrides_sampleZone _ z t) _ _)

theorem keepsOverrides_takeSensorState (n : Nat) (x : Sensor) (s : State) : KeepsOverrides s (takeSensorState n x s) :=
  .of_airStates (sameLevels_takeSensorState n x s).airState (does_takeSensorState n x s) rfl

/-! ## The parts of the taps (R174) -/

theorem keepsOverrides_runT32 (levels : BitVec 8) (keys : BitVec 2) (s : State) (p : T32Part) :
    KeepsOverrides s (runT32 levels keys s p) := by
  refine .ite (fun _ => .refl s) (fun _ => ?_)
  cases p with
  | loops => exact .of_credited (credited_loopsT32 levels s) (does_loopsT32 levels s) rfl
  | keys => exact .foldl _ (fun t k => keepsOverrides_keyTap k _ t) _ s
  | paths => exact .of_does (does_pathsT32 s) rfl rfl

theorem keepsOverrides_runT4 (rdy : BitVec 12) (s : State) (p : T4Part) : KeepsOverrides s (runT4 rdy s p) := by
  refine .ite (fun _ => .refl s) (fun _ => ?_)
  cases p with
  | bays => exact .of_credited (credited_bayT4 s) (does_bayT4 s) rfl
  | fans => exact .of_does (does_fansT4 rdy s) rfl rfl
  | bus => exact .of_does (does_busT4 s) rfl rfl

theorem keepsOverrides_runT1 (ain : Tab (BitVec 10) 8) (s : State) (p : T1Part) : KeepsOverrides s (runT1 ain s p) := by
  cases p with
  | clock => exact .of_does (does_time s _) rfl rfl
  | sounder => exact .ite (fun _ => .refl s) (fun _ => keepsOverrides_sounderTap s)
  | air => exact keepsOverrides_airTap ain s
  | bays => exact .of_does (does_bayT1 s) rfl rfl
  | fans => exact .ite (fun _ => .refl s) (fun _ => .of_does (does_fan s _) rfl rfl)
  | lights => exact .ite (fun _ => .refl s) (fun _ => .of_does (does_lightsT1 s) rfl rfl)
  | loops => exact .of_credited (credited_loopT1 s) (does_loopT1 s) rfl
  | guide => exact .ite (fun _ => .refl s) (fun _ => .of_does (does_guideT1 s) rfl rfl)
  | stack => exact .ite (fun _ => .refl s) (fun _ => keepsOverrides_stackT1 s)

/-! ## Resets and entries (R155, R183, R184, R187) -/

theorem keepsOverrides_resetPowerOn (straps : Straps) (s : State) : KeepsOverrides s (resetPowerOn straps s) :=
  ⟨fun _ => stackLaw_reset, fun _ => ⟨sounderLaw_reset.sounds, sounderLaw_reset.silent⟩⟩

theorem keepsOverrides_resetCommanded (straps : Straps) (s : State) : KeepsOverrides s (resetCommanded straps s) :=
  ⟨fun _ => stackLaw_reset, fun _ => ⟨sounderLaw_reset.sounds, sounderLaw_reset.silent⟩⟩

/-- R155: the entry that a changed input held is removed. -/
theorem stackLaw_inputEntry (old : Cfg) (k : Nat) (s : State) (h : StackLaw s.ovr.stack) :
    StackLaw (inputEntry old k s).ovr.stack := by
  dsimp only [inputEntry]
  split
  · split
    · exact h.filter _
    · exact h
    · exact h
    · exact h
  · exact h

/-- R151: a PENDING input pushes into the room. -/
theorem stackLaw_inputPush (k : Nat) (s : State) (h : StackLaw s.ovr.stack) : StackLaw (inputPush k s).ovr.stack := by
  dsimp only [inputPush]
  split
  · split
    · rename_i pending
      exact stackLaw_keyEntry pending.2 h
    · exact h
  · exact h

/-- R151, R155: the stack as RUNNING is entered; the sounder's condition is formed again from it. -/
theorem keepsOverrides_enterRunning (s : State) : KeepsOverrides s (enterRunning s) := by
  refine .formed fun h => ?_
  rw [(does_guideToRunning _).ovr rfl, (does_loopsToRunning _).ovr rfl, (does_lightToRunning _).ovr rfl,
    (does_fanToRunning _).ovr rfl, (does_airToRunning _ _).ovr rfl, (does_occToRunning _).ovr rfl]
  refine stackLaw_inputPush 1 _ (stackLaw_inputPush 0 _ (stackLaw_inputEntry _ 1 _ (stackLaw_inputEntry _ 0 _ ?_)))
  rw [(does_busToRunning _).ovr rfl, (does_cfgToRunning s).ovr rfl]
  exact h

/-- R59, R184: every zone becomes UNKNOWN, and the sounder's condition is formed again. -/
theorem keepsOverrides_airToEditing (s : State) : KeepsOverrides s (airToEditing s) :=
  .formed fun h => by
    rw [(does_postAll _ _).ovr rfl]
    exact h

theorem keepsOverrides_enterEditing (s : State) : KeepsOverrides s (enterEditing s) := by
  have before : KeepsOverrides s (occToEditing (busEntry s.bus.bitRate [] (cfgToEditing s))) :=
    ((KeepsOverrides.of_does (does_cfgToEditing s) rfl rfl).after (does_busEntry _ _ _) rfl rfl).after
      (does_occToEditing _) rfl rfl
  have air := before.trans (keepsOverrides_airToEditing _)
  exact ((air.after (does_fanToEditing _) rfl rfl).after (does_lightToEditing _) rfl rfl).after
    (does_guideToEditing _) rfl rfl

/-- R183: a load that ends in FALLBACK leaves the stack, the condition and the air states. -/
theorem keepsOverrides_loadFallback (why : FallbackReason) (s : State) : KeepsOverrides s (loadFallback why s) :=
  .after .same (does_busEntry _ _ _) rfl rfl

theorem keepsOverrides_endLoad (source : LoadSource) (s : State) : KeepsOverrides s (endLoad source s) := by
  dsimp only [endLoad]
  split
  · exact .trans .same (keepsOverrides_enterRunning _)
  · exact .trans .same (keepsOverrides_loadFallback _ _)

end Sys2Proof.Machine
end

section
/-! SUPPORT. Every command keeps the laws of the override stack and of the sounder (R140, R141, R152). -/

namespace Sys2Proof.Machine

/-! ## Requests -/

section Requests

variable {α : Type} {kind : Nat} {always : Bool} {r : Req α} {rule : α → State → State} {s : State}

theorem keepsOverrides_arrive (s : State) : KeepsOverrides s (arrive s) := by
  have reset : KeepsOverrides s (if s.link.resetDue = true then resetCommanded s.link.pins s else s) :=
    .ite (fun _ => keepsOverrides_resetCommanded _ s) (fun _ => .refl s)
  exact reset.after (does_link _ ⟨rfl, rfl, rfl⟩) rfl rfl

/-- R195: a request keeps the laws when its rule does. -/
theorem keepsOverrides_request (h : ∀ x t, KeepsOverrides t (rule x t)) :
    KeepsOverrides s (request kind always r rule s) := by
  have arrived := keepsOverrides_arrive s
  refine .ite (fun _ => .refl s) (fun _ => .ite (fun _ => arrived.answered _ _ _) (fun _ => ?_))
  cases r with
  | misfit => exact arrived.answered _ _ _
  | fits x => exact arrived.trans (h x _)

/-- The same, with the slots filled after it (R165). -/
theorem keepsOverrides_requestFill (h : ∀ x t, KeepsOverrides t (rule x t)) :
    KeepsOverrides s (request kind always r (thenFill rule) s) := keepsOverrides_request fun x t => (h x t).fill

theorem keepsOverrides_broadcastIn (h : ∀ x t, KeepsOverrides t (rule x t)) :
    KeepsOverrides s (broadcastIn r rule s) := by
  have heard : KeepsOverrides s { s with link := { s.link with receiver := .hunting } } := .same
  refine .ite (fun _ => .refl s) (fun _ => .ite (fun _ => heard) (fun _ => ?_))
  cases r with
  | misfit => exact heard
  | fits x => exact heard.trans (h x _)

end Requests

section Rules

variable {kind : Nat} {r : Result} {fs : List Byte} {s t : State} {c : Prop} [Decidable c]

theorem keepsOverrides_answer (kind : Nat) (r : Result) (fs : List Byte) (s : State) :
    KeepsOverrides s (answer kind r fs s) := (KeepsOverrides.refl s).answered _ _ _

/-- A rule that one condition of the part refuses. -/
theorem keepsOverrides_refusable (h : KeepsOverrides s t) : KeepsOverrides s (if c then answer kind r fs s else t) :=
  .ite (fun _ => keepsOverrides_answer _ _ _ s) (fun _ => h)

/-- A rule that needs one condition of the part. -/
theorem keepsOverrides_requires (h : KeepsOverrides s t) : KeepsOverrides s (if c then t else answer kind r fs s) :=
  .ite (fun _ => h) (fun _ => keepsOverrides_answer _ _ _ s)

/-- A request that only reads, with one refusal. -/
theorem keepsOverrides_reads {q : Result} {gs : List Byte} (s : State) :
    KeepsOverrides s (if c then answer kind r fs s else answer kind q gs s) :=
  keepsOverrides_refusable (keepsOverrides_answer _ _ _ s)

/-- A reply to what the rule has done beside the override stack and the air monitor. -/
theorem keepsOverrides_done {bs : List Block} (d : Does bs s t) (o : bs.contains .ovr = false)
    (a : bs.contains .air = false) : KeepsOverrides s (answer kind r fs t) := (KeepsOverrides.of_does d o a).answered _ _ _

end Rules

section RuleBodies

variable (s : State)

theorem keepsOverrides_openConfig : KeepsOverrides s (openConfig s) := by
  have entered : ∀ k r fs, KeepsOverrides s (answer k r fs (enterEditing s)) := fun k r fs =>
    (keepsOverrides_enterEditing s).answered k r fs
  refine keepsOverrides_refusable ?_
  split
  · exact entered _ _ _
  · exact entered _ _ _
  · exact keepsOverrides_answer _ _ _ s
  · exact keepsOverrides_answer _ _ _ s

theorem keepsOverrides_closeConfig : KeepsOverrides s (closeConfig s) := by
  refine keepsOverrides_requires ?_
  split
  · exact keepsOverrides_answer _ _ _ s
  · exact .answered (.trans .same (keepsOverrides_enterRunning _)) _ _ _

theorem keepsOverrides_writeConfig (q : Req CfgWrite) : KeepsOverrides s (writeConfig q s) := by
  refine keepsOverrides_requires ?_
  split
  · exact keepsOverrides_answer _ _ _ s
  · split
    · exact keepsOverrides_done (does_cfg s _) rfl rfl
    · exact keepsOverrides_answer _ _ _ s

theorem keepsOverrides_readConfig (q : CfgRead) : KeepsOverrides s (readConfig q s) := by
  cases q with
  | record | misfit => exact keepsOverrides_reads s
  | unknownKind => exact keepsOverrides_answer _ _ _ s

theorem keepsOverrides_writeCurve (q : Req (Nat × Option (List Nat))) : KeepsOverrides s (writeCurve q s) := by
  refine keepsOverrides_refusable (keepsOverrides_requires ?_)
  split
  · exact keepsOverrides_answer _ _ _ s
  · refine keepsOverrides_refusable ?_
    split
    · exact keepsOverrides_answer _ _ _ s
    · exact keepsOverrides_refusable (keepsOverrides_done (does_takeCurve _ _ s) rfl rfl)

theorem keepsOverrides_mapChecks (a b : Nat) : KeepsOverrides s (mapChecks a b s) := by
  refine keepsOverrides_refusable ?_
  split
  · exact keepsOverrides_reads s
  · split
    · exact keepsOverrides_answer _ _ _ s
    · refine keepsOverrides_refusable ?_
      split
      · exact keepsOverrides_answer _ _ _ s
      · exact keepsOverrides_done (bindAddress_does s _ _ _) rfl rfl

theorem keepsOverrides_removeMapping (a : Addr) : KeepsOverrides s (removeMapping a s) := by
  dsimp only [removeMapping]
  split
  · exact keepsOverrides_requires (keepsOverrides_done (unbindAddress_does s _ _ _) rfl rfl)
  · exact keepsOverrides_answer _ _ _ s

theorem keepsOverrides_lookupMapping (a : Addr) : KeepsOverrides s (lookupMapping a s) := by
  dsimp only [lookupMapping]
  split <;> exact keepsOverrides_answer _ _ _ s

theorem keepsOverrides_reserveRequest (b time : Nat) : KeepsOverrides s (reserveRequest b time s) := by
  have reserved : ∀ k r fs n, KeepsOverrides s (answer k r fs (reserveBay b n s)) := fun _ _ _ n =>
    keepsOverrides_done (does_reserveBay b n s) rfl rfl
  refine keepsOverrides_refusable ?_
  split
  · exact reserved _ _ _ _
  · exact reserved _ _ _ _
  all_goals exact keepsOverrides_answer _ _ _ s

theorem keepsOverrides_levelCountsRule (q : Req (List (Nat × Nat))) : KeepsOverrides s (levelCountsRule q s) := by
  refine keepsOverrides_requires ?_
  split
  · exact keepsOverrides_answer _ _ _ s
  · exact keepsOverrides_refusable (keepsOverrides_requires (keepsOverrides_done (does_writeLevels _ s) rfl rfl))

theorem keepsOverrides_levelCountsBroadcast (items : List (Nat × Nat)) :
    KeepsOverrides s (levelCountsBroadcast items s) :=
  .ite (fun _ => .of_does (does_writeLevels items s) rfl rfl) (fun _ => .refl s)

/-- R142: an entry of the link is placed on a stack with room, with its value clamped. -/
theorem keepsOverrides_pushRule (q : PushReq) : KeepsOverrides s (pushRule q s) := by
  dsimp only [pushRule]
  split
  · exact keepsOverrides_answer _ _ _ s
  · refine keepsOverrides_refusable (.ite (fun _ => keepsOverrides_answer _ _ _ s) (fun room => ?_))
    exact (keepsOverrides_pushEntry (Nat.not_le.mp room) rfl (takeValue_le _ _)).answered _ _ _

theorem keepsOverrides_popRule : KeepsOverrides s (popRule s) := by
  dsimp only [popRule]
  split
  · exact keepsOverrides_answer _ _ _ s
  · exact (keepsOverrides_removeEntries _ s).answered _ _ _

theorem keepsOverrides_removeRule (id : Nat) : KeepsOverrides s (removeRule id s) := by
  dsimp only [removeRule]
  split
  · exact keepsOverrides_answer _ _ _ s
  · exact keepsOverrides_requires ((keepsOverrides_removeEntries _ s).answered _ _ _)

end RuleBodies

/-! ## Frames and events -/

section Events

variable {bs : List Block} {c : Prop} [Decidable c] {s u : State}

/-- An event that, when it is due, keeps the laws. -/
theorem keepsOverrides_event (h : KeepsOverrides s u) : KeepsOverrides s (if c then u else s) :=
  .ite (fun _ => h) (fun _ => .refl s)

/-- The same, with the slots filled after it (R165). -/
theorem keepsOverrides_eventFill (h : KeepsOverrides s u) : KeepsOverrides s (if c then fillSlots u else s) :=
  keepsOverrides_event h.fill

/-- An event of a block beside the override stack and the air monitor, due or not. -/
theorem keepsOverrides_other (d : Does bs s u) (o : bs.contains .ovr = false) (a : bs.contains .air = false) :
    KeepsOverrides s (if c then fillSlots u else s) := keepsOverrides_eventFill (.of_does d o a)

/-- An event that the part does not take in one condition. -/
theorem keepsOverrides_unless (h : KeepsOverrides s u) : KeepsOverrides s (if c then s else u) :=
  .ite (fun _ => .refl s) (fun _ => h)

end Events

theorem keepsOverrides_takeBayState (a : Addr) (d : Det) (h : Health) (s : State) :
    KeepsOverrides s (takeBayState a d h s) := by
  dsimp only [takeBayState]
  split
  · exact .of_does (does_addUnknown a _ s) rfl rfl
  · exact keepsOverrides_event (.of_credited (credited_bayReport _ d h s) (does_bayReport _ d h s) rfl)

theorem keepsOverrides_takeGasValue (a : Addr) (g : GasReport) (s : State) : KeepsOverrides s (takeGasValue a g s) := by
  dsimp only [takeGasValue]
  split
  · exact .of_does (does_addUnknown a _ s) rfl rfl
  · exact keepsOverrides_event (keepsOverrides_takeSensorState _ _ s)

theorem keepsOverrides_takePed (a : Addr) (p : Ped) (s : State) : KeepsOverrides s (takePed a p s) := by
  dsimp only [takePed]
  split
  · exact .of_does (does_addUnknown a _ s) rfl rfl
  · split
    · exact .of_does (does_trigger _ s) rfl rfl
    · exact .refl s

theorem keepsOverrides_takeLumState (a : Addr) (h : Health) (s : State) : KeepsOverrides s (takeLumState a h s) := by
  dsimp only [takeLumState]
  split
  · exact .of_does (does_addUnknown a _ s) rfl rfl
  · exact keepsOverrides_event (.of_does (does_setGroupState _ _ s) rfl rfl)

theorem keepsOverrides_takeSignState (a : Addr) (h : Health) (s : State) : KeepsOverrides s (takeSignState a h s) := by
  dsimp only [takeSignState]
  split
  · exact .of_does (does_addUnknown a _ s) rfl rfl
  · exact keepsOverrides_event (.of_does (does_setSignState _ _ s) rfl rfl)

theorem keepsOverrides_takeAnnounce (a : Addr) (type : DeviceType) (s : State) :
    KeepsOverrides s (takeAnnounce a type s) := by
  dsimp only [takeAnnounce]
  split
  · exact .of_does (does_announceBay _ s) rfl rfl
  · exact keepsOverrides_event (keepsOverrides_takeSensorState _ _ s)
  · exact .of_does (does_announceGroup _ s) rfl rfl
  · exact .refl s
  · exact .of_does (does_announceSign _ s) rfl rfl
  · exact .of_does (does_addUnknown a type s) rfl rfl

/-- The end of an attempt, which leaves the air states. -/
theorem keepsOverrides_endAttempt {effect : Nat → Slot → State → State} (h : ∀ i x s, SameLevels s (effect i x s))
    (d : ∀ i x s, Does busBlocks s (effect i x s)) (s : State) : KeepsOverrides s (endAttempt effect s) := by
  dsimp only [endAttempt]
  split
  · exact keepsOverrides_eventFill (.of_airStates (h _ _ s).airState (d _ _ s) rfl)
  · exact .refl s

theorem keepsOverrides_endWarmup (n : Nat) (raw : BitVec 10) (s : State) : KeepsOverrides s (endWarmup n raw s) :=
  .of_airStates (sameLevels_endWarmup n raw s).airState (does_endWarmup n raw s) rfl

/-! ## Every command -/

/-- A command that answers a next state keeps the laws. -/
def OutKeepsOverrides (s : State) (o : Out) : Prop := ∀ t, o = .next t → KeepsOverrides s t

namespace OutKeepsOverrides

variable {s u : State}

theorem next (k : KeepsOverrides s u) : OutKeepsOverrides s (.next u) := fun t h => by
  rw [← Host.Outcome.next.inj h]
  exact k

theorem within {i n : Nat} (k : KeepsOverrides s u) : OutKeepsOverrides s (Machine.within i n u) := by
  unfold Machine.within
  split
  · exact next k
  · exact fun t h => absurd h (by simp)

end OutKeepsOverrides

theorem keepsOverrides_exec (i : Instr) (s : State) : OutKeepsOverrides s (exec i s) := by
  cases i with
  | powerOnReset straps => exact .next (keepsOverrides_resetPowerOn straps s)
  | commandedReset straps => exact .next (keepsOverrides_event (keepsOverrides_resetCommanded straps s))
  | loadEnd source => exact .next (keepsOverrides_eventFill (keepsOverrides_endLoad source s))
  | t32Tap levels keys order => exact .next (.fill (.foldl _ (keepsOverrides_runT32 levels keys) _ s))
  | t4Tap rdy order => exact .next (.fill (.foldl _ (keepsOverrides_runT4 rdy) _ s))
  | t1Tap ain order => exact .next (.fill (.foldl _ (keepsOverrides_runT1 ain) _ s))
  | correctionWindow => exact .next (keepsOverrides_event .same)
  | warmupEnd slot raw => exact .within (keepsOverrides_endWarmup slot raw s)
  | sensorSilent slot => exact .within (keepsOverrides_event (keepsOverrides_takeSensorState slot _ s))
  | doseRingAdvance zone =>
    exact .within (keepsOverrides_event (keepsOverrides_setZoneAir (advanceRing_state _)))
  | creditDecay zone => exact .within (keepsOverrides_event keepsOverrides_setZoneAir)
  | alarmHoldEnd zone => exact .within (keepsOverrides_event keepsOverrides_setZoneAir)
  | bayState a d x => exact .next (keepsOverrides_eventFill (keepsOverrides_takeBayState a d x s))
  | gasValue a g => exact .next (keepsOverrides_eventFill (keepsOverrides_takeGasValue a g s))
  | pedPresence a p => exact .next (keepsOverrides_eventFill (keepsOverrides_takePed a p s))
  | lumState a x => exact .next (keepsOverrides_eventFill (keepsOverrides_takeLumState a x s))
  | signState a x => exact .next (keepsOverrides_eventFill (keepsOverrides_takeSignState a x s))
  | announce a type => exact .next (keepsOverrides_eventFill (keepsOverrides_takeAnnounce a type s))
  | fieldFrameDiscarded why =>
    cases why with
    | malformed => exact .next (keepsOverrides_event .same)
    | sentKind | unknownKind | notDevice => exact .next (.refl s)
  | settleExpiry bay =>
    exact .within (keepsOverrides_eventFill (.of_credited (credited_settleTap bay s) (does_settleTap bay s) rfl))
  | silenceScan => exact .next (keepsOverrides_other (does_scanTap s) rfl rfl)
  | reservationExpiry bay => exact .within (keepsOverrides_other (does_reservationTap bay s) rfl rfl)
  | stayLitEnd g => exact .within (keepsOverrides_other (does_stayTap g s) rfl rfl)
  | pathStep p => exact .within (keepsOverrides_other (does_pathTap p s) rfl rfl)
  | lightResend => exact .next (keepsOverrides_other (does_lightResendTap s) rfl rfl)
  | readyTimeout n | readyLoss n => exact .within (keepsOverrides_other (does_fanTap n false s) rfl rfl)
  | coastEnd n => exact .within (keepsOverrides_event .same)
  | loopOccupied i =>
    exact .within (keepsOverrides_eventFill (.of_credited (credited_loopTapActive i s) (does_loopTapActive i s) rfl))
  | loopRelease i =>
    exact .within (keepsOverrides_unless (.fill (.of_credited (credited_releaseLoop i s) (does_releaseLoop i s) rfl)))
  | loopStuck i =>
    exact .within (keepsOverrides_eventFill (.of_credited (credited_occupiedTap i s) (does_occupiedTap i s) rfl))
  | sequenceTimeout p => exact .within (keepsOverrides_event .same)
  | rotationAdvance => exact .next (keepsOverrides_other (does_rotationTap s) rfl rfl)
  | guidanceResend => exact .next (keepsOverrides_other (does_guideResendTap s) rfl rfl)
  | levelStale v => exact .within (keepsOverrides_other (does_levelTap v s) rfl rfl)
  | overrideExpiry =>
    refine .next (keepsOverrides_unless (.fill (keepsOverrides_expireMapped ?_ ?_ ?_ s))) <;> intro e <;> split <;> rfl
  | inputActive k => exact .within (keepsOverrides_eventFill (keepsOverrides_keyTapActive k s))
  | inputRelease k => exact .within (keepsOverrides_unless (keepsOverrides_keyRelease k s).fill)
  | frameOffer =>
    refine .next (keepsOverrides_event ?_)
    split
    · exact .of_does (does_putSlot s _ _) rfl rfl
    · exact .refl s
  | arbitrationLost =>
    exact .next (keepsOverrides_endAttempt (fun i x s => .of_does (does_arbitrationLoses i x s) rfl)
      (fun i x s => (does_arbitrationLoses i x s).mono rfl) s)
  | attemptSuccess => exact .next (keepsOverrides_endAttempt sameLevels_attemptSucceeds does_attemptSucceeds s)
  | attemptFailed => exact .next (keepsOverrides_endAttempt sameLevels_attemptFails does_attemptFails s)
  | busOffRecovery => exact .next (keepsOverrides_other (does_recoverBus s) rfl rfl)
  | storePageDone =>
    refine .next ?_
    split
    · exact keepsOverrides_event .same
    · exact .refl s
  | storeReadbackDone agrees =>
    have ended : ∀ o n id m, KeepsOverrides s (endStore o n id m s) := fun o n id m =>
      .of_does (does_endStore o n id m s) rfl rfl
    refine .next ?_
    split
    · exact keepsOverrides_event (.ite (fun _ => ended _ _ _ _) (fun _ => ended _ _ _ _))
    · exact .refl s
  | storePageTimeout =>
    refine .next ?_
    split
    · exact keepsOverrides_event (.of_does (does_endStore _ _ _ _ s) rfl rfl)
    · exact .refl s
  | frameSync | frameGapTimeout | frameCrcMismatch => exact .next (.of_does (does_receiverTo _ s) rfl rfl)
  | frameIgnored a k => exact .next (keepsOverrides_event (.of_does (does_receiverTo _ s) rfl rfl))
  | frameLenAbandoned len => exact .next (keepsOverrides_event (.of_does (does_receiverTo _ s) rfl rfl))
  | unknownKind k => exact .next (keepsOverrides_unless ((keepsOverrides_arrive s).answered _ _ _))
  | replyStart =>
    refine .next (keepsOverrides_unless ?_)
    split
    · exact .same
    · exact .refl s
  | replyEnd => exact .next (keepsOverrides_event .same)
  | identify r | getStatus r | getClock r | listUnknown r | readLoops r | overrideList r =>
    exact .next (keepsOverrides_request fun _ t => keepsOverrides_answer _ _ _ t)
  | reset r | clearUnknown r | fetchNotices r | noticeClasses r => exact .next (keepsOverrides_request fun _ t => .same)
  | curveRead r | mapReadSet r | readBays r | readSensor r | readFan r | readGroup r | readSign r =>
    exact .next (keepsOverrides_request fun _ t => keepsOverrides_reads t)
  | readZone r =>
    exact .next (keepsOverrides_request fun _ t =>
      keepsOverrides_refusable (keepsOverrides_requires (keepsOverrides_answer _ _ _ t)))
  | setClock broadcast r =>
    exact .next (.ite (fun _ => keepsOverrides_broadcastIn fun _ _ => .same)
      (fun _ => keepsOverrides_request fun _ _ => .same))
  | configOpen r => exact .next (keepsOverrides_requestFill fun _ t => keepsOverrides_openConfig t)
  | configWrite r => exact .next (keepsOverrides_request fun q t => keepsOverrides_writeConfig t q)
  | configRead r => exact .next (keepsOverrides_request fun q t => keepsOverrides_readConfig t q)
  | configClose r => exact .next (keepsOverrides_requestFill fun _ t => keepsOverrides_closeConfig t)
  | configStore r =>
    exact .next (keepsOverrides_request fun _ t =>
      keepsOverrides_refusable (keepsOverrides_requires (keepsOverrides_done (does_cfg t _) rfl rfl)))
  | curveWrite r => exact .next (keepsOverrides_requestFill fun q t => keepsOverrides_writeCurve t q)
  | mapWrite r =>
    exact .next (keepsOverrides_requestFill fun x t =>
      keepsOverrides_refusable (keepsOverrides_refusable (keepsOverrides_mapChecks t x.1 x.2)))
  | mapRemove r =>
    exact .next (keepsOverrides_requestFill fun a t =>
      keepsOverrides_refusable (keepsOverrides_refusable (keepsOverrides_removeMapping t a)))
  | mapLookup r => exact .next (keepsOverrides_request fun a t => keepsOverrides_lookupMapping t a)
  | bayReserve r =>
    exact .next (keepsOverrides_requestFill fun x t => keepsOverrides_requires (keepsOverrides_reserveRequest t x.1 x.2))
  | bayRelease r =>
    exact .next (keepsOverrides_requestFill fun b t => keepsOverrides_requires
      (keepsOverrides_refusable (keepsOverrides_requires (keepsOverrides_done (does_cancelReservation b t) rfl rfl))))
  | bayClose r =>
    exact .next (keepsOverrides_requestFill fun b t => keepsOverrides_refusable (keepsOverrides_requires
      (keepsOverrides_refusable (keepsOverrides_refusable (keepsOverrides_done (does_closeBay b t) rfl rfl)))))
  | bayOpen r =>
    exact .next (keepsOverrides_requestFill fun b t => keepsOverrides_refusable (keepsOverrides_requires
      (keepsOverrides_refusable (keepsOverrides_requires (keepsOverrides_done (does_openBay b t) rfl rfl)))))
  | fanClear r =>
    exact .next (keepsOverrides_requestFill fun n t => keepsOverrides_refusable
      (keepsOverrides_requires (keepsOverrides_done (does_takeChannel n _ t) rfl rfl)))
  | levelCounts broadcast r =>
    exact .next (.ite (fun _ => keepsOverrides_broadcastIn fun x t => (keepsOverrides_levelCountsBroadcast t x).fill)
      (fun _ => keepsOverrides_requestFill fun q t => keepsOverrides_levelCountsRule t q))
  | overridePush r => exact .next (keepsOverrides_requestFill fun q t => keepsOverrides_pushRule t q)
  | overridePop r => exact .next (keepsOverrides_requestFill fun _ t => keepsOverrides_popRule t)
  | overrideRemove r => exact .next (keepsOverrides_requestFill fun id t => keepsOverrides_removeRule t id)
  | pwmPeriodStart => exact .next (.of_does (does_fan s _) rfl rfl)

/-- Every step keeps the laws, a command's or a cycle of the crystal. -/
theorem keepsOverrides_step {s t : State} (h : step s = .next t) : KeepsOverrides s t := by
  unfold step at h
  split at h
  · rw [← Host.Outcome.next.inj h]
    exact .same
  · rename_i c rest _
    exact .trans (t := { s with pending := rest }) .same (keepsOverrides_exec c _ t h)

/-- Settles O48: every push finds room, a free id and a clamped value, and every other change of the stack removes entries
or moves remaining times; whatever changes an air state or the stack ends with the sounder's condition formed again. -/
theorem stackAndSounderKeepTheirLaws : Obligations.StackAndSounderKeepTheirLaws := fun _ _ h =>
  ⟨(keepsOverrides_step h).stack, (keepsOverrides_step h).sounder⟩

end Sys2Proof.Machine
end

section
/-! SUPPORT. The expiry of override entries and the events of the key inputs (R141, R146, R149 to R151): what they leave on
the stack and in the inputs. -/

namespace Sys2Proof.Machine

/-! ## Removals beside inputs that are not PENDING (R151) -/

/-- R151: no key input waits to push. -/
def Calm (s : State) : Prop := ∀ k, k < 2 → (s.ovr.keys.nth k).state ≠ .pending

theorem removeEntries_keys {p : Entry → Bool} {s : State} (h : Calm s) : (removeEntries p s).ovr.keys = s.ovr.keys := by
  have keys := (announceStack_ovr (setStack (s.ovr.stack.filter fun e => !p e) s)).2
  have calm : Calm (announceStack (setStack (s.ovr.stack.filter fun e => !p e) s)) := fun k hk => by
    rw [keys]
    exact h k hk
  rw [removeEntries, pendingPushes, pendingPush_calm (calm 0 (by omega)), pendingPush_calm (calm 1 (by omega)), keys]
  rfl

/-! ## Expiry (R146) -/

/-- R146: the entries that have run out are gone, and the inputs stand. -/
theorem expireEntries_ovr {s : State} (h : Calm s) :
    (expireEntries s).ovr.stack = s.ovr.stack.filter (fun e => !(e.remaining == some 0)) ∧
      (expireEntries s).ovr.keys = s.ovr.keys := by
  dsimp only [expireEntries]
  split
  · rename_i still
    refine ⟨(List.filter_eq_self.mpr fun e he => ?_).symm, rfl⟩
    simpa using List.filter_eq_nil_iff.mp (List.isEmpty_iff.mp still) e he
  · have posted : ∀ ns, (postAll ns s).ovr = s.ovr := fun ns => (does_postAll ns s).ovr rfl
    have calm : ∀ ns, Calm (postAll ns s) := fun ns k hk => by
      rw [posted]
      exact h k hk
    exact ⟨by rw [removeEntries_stack (calm _), posted], by rw [removeEntries_keys (calm _), posted]⟩

/-- R146: an entry at its last T1 tap runs out. -/
def Entry.lastTap (e : Entry) : Entry := if e.remaining = some 1 then { e with remaining := some 0 } else e

/-- R146: of the entries after their last tap, those that have not run out are those that had more than one tap left. -/
theorem filter_lastTap (l : List Entry) : (l.map Entry.lastTap).filter (fun e => !(e.remaining == some 0)) =
    l.filter (fun e => e.remaining ≠ some 1 ∧ e.remaining ≠ some 0) := by
  induction l with
  | nil => rfl
  | cons e l ih =>
    by_cases h1 : e.remaining = some 1
    · simpa [Entry.lastTap, h1] using ih
    · by_cases h0 : e.remaining = some 0
      · simpa [Entry.lastTap, h0] using ih
      · simpa [Entry.lastTap, h1, h0] using ih

/-! ## A key input found active long enough (R149, R151) -/

theorem setKey_nth {k : Nat} (hk : k < 2) (x : Key) (s : State) : (setKey k x s).ovr.keys.nth k = x :=
  Tab.nth_put_self _ _ hk

section Active

variable {k : Nat} {kind : OverrideKind} {s : State}

theorem keyTapActive_eighth (role : (s.cfg.inForce.inputs.nth k).role ≠ .noRole)
    (state : (s.ovr.keys.nth k).state = .released) (filter : (s.ovr.keys.nth k).filter = 7) :
    keyTapActive k s = keyAct k (setKey k { s.ovr.keys.nth k with level := true } s) := by
  rw [keyTapActive, if_neg role, if_pos state, if_pos (show (s.ovr.keys.nth k).filter + 1 ≥ 8 by omega)]

/-- R149: the entry is on top, and the input holds its id. -/
theorem keyPush_ovr (hk : k < 2) (role : roleKind (s.cfg.inForce.inputs.nth k).role = some kind) :
    (keyPush k s).ovr.stack = s.ovr.stack ++ [keyEntry s k kind] ∧ (keyPush k s).ovr.keys.nth k =
      { s.ovr.keys.nth k with filter := 0, state := .held (keyEntry s k kind).id } := by
  have push : keyPush k s = announceStack (keyPlace k kind s) := by rw [keyPush, role]
  obtain ⟨stack, keys⟩ := announceStack_ovr (keyPlace k kind s)
  rw [push, stack, keys]
  exact ⟨rfl, setKey_nth hk _ s⟩

theorem keyAct_room (hk : k < 2) (role : roleKind (s.cfg.inForce.inputs.nth k).role = some kind)
    (room : s.ovr.stack.length < 8) : (keyAct k s).ovr.stack = s.ovr.stack ++ [keyEntry s k kind] ∧
      (keyAct k s).ovr.keys.nth k = { s.ovr.keys.nth k with filter := 0, state := .held (keyEntry s k kind).id } := by
  have act : keyAct k s = keyPush k (setKey k { s.ovr.keys.nth k with filter := 0 } s) := if_pos room
  obtain ⟨stack, key⟩ := keyPush_ovr (s := setKey k { s.ovr.keys.nth k with filter := 0 } s) hk role
  rw [act]
  exact ⟨stack, by rw [key, setKey_nth hk]; rfl⟩

/-- R151: on a full stack the input waits, and its state is announced. -/
theorem keyAct_full (hk : k < 2) (full : 8 ≤ s.ovr.stack.length) : (keyAct k s).ovr.stack = s.ovr.stack ∧
    (keyAct k s).ovr.keys.nth k = { s.ovr.keys.nth k with filter := 0, state := .pending } ∧
    announced s (keyAct k s) (.inputPending (k + 1) .pending) := by
  have act : keyAct k s = post (.inputPending (k + 1) .pending)
      (setKey k { (setKey k { s.ovr.keys.nth k with filter := 0 } s).ovr.keys.nth k with state := .pending }
        (setKey k { s.ovr.keys.nth k with filter := 0 } s)) := if_neg (Nat.not_lt.mpr full)
  rw [act]
  refine ⟨rfl, ?_, ((does_setKey s k _).trans (does_setKey _ k _)).announced_post _ rfl rfl⟩
  rw [post_ovr, setKey_nth hk, setKey_nth hk]

end Active

/-! ## A key input released (R150) -/

section Release

variable {k : Nat} {s : State}

theorem keyRelease_held {id : Nat} (hk : k < 2) (state : (s.ovr.keys.nth k).state = .held id)
    (calm : (s.ovr.keys.nth (1 - k)).state ≠ .pending) :
    (keyRelease k s).ovr.stack = s.ovr.stack.filter (fun e => e.id ≠ id) ∧
      (keyRelease k s).ovr.keys.nth k = ⟨false, 0, .released⟩ := by
  have release : keyRelease k s = removeEntries (fun e => e.id == id) (setKey k ⟨false, 0, .released⟩ s) := by
    rw [keyRelease, state]
  have calmed : Calm (setKey k ⟨false, 0, .released⟩ s) := fun j hj => by
    by_cases e : j = k
    · rw [e, setKey_nth hk]
      simp
    · rw [setKey_ovr, Tab.nth_put_ne _ _ e, show j = 1 - k by omega]
      exact calm
  rw [release, removeEntries_stack calmed, removeEntries_keys calmed]
  exact ⟨List.filter_congr fun e _ => by rw [beq_eq_decide, decide_not], setKey_nth hk _ s⟩

theorem keyRelease_pending (hk : k < 2) (state : (s.ovr.keys.nth k).state = .pending) :
    (keyRelease k s).ovr.stack = s.ovr.stack ∧ (keyRelease k s).ovr.keys.nth k = ⟨false, 0, .released⟩ ∧
      announced s (keyRelease k s) (.inputPending (k + 1) .cleared) := by
  have release : keyRelease k s =
      post (.inputPending (k + 1) .cleared) (setKey k ⟨false, 0, .released⟩ s) := by rw [keyRelease, state]; rfl
  rw [release]
  exact ⟨rfl, setKey_nth hk _ s, (does_setKey s k _).announced_post _ rfl rfl⟩

theorem keyRelease_idle (hk : k < 2) (state : (s.ovr.keys.nth k).state = .released ∨ (s.ovr.keys.nth k).state = .spent) :
    (keyRelease k s).ovr.stack = s.ovr.stack ∧ (keyRelease k s).ovr.keys.nth k = ⟨false, 0, .released⟩ := by
  have release : keyRelease k s = setKey k ⟨false, 0, .released⟩ s := by
    rcases state with e | e <;> rw [keyRelease, e]
  rw [release]
  exact ⟨rfl, setKey_nth hk _ s⟩

end Release

/-! ## The events (assumptions 1 and 2) -/

theorem does_filled {s t : State} (d : Does stackBlocks s t) : Does stackBlocks s (fillSlots t) :=
  d.trans ((does_fillSlots t).mono rfl)

theorem fillSlots_ovr (s : State) : (fillSlots s).ovr = s.ovr := (does_fillSlots s).ovr rfl

section Events

variable {k : Nat} {kind : OverrideKind} {s : State}

theorem exec_overrideExpiry (h : loading s = false) : exec .overrideExpiry s =
    .next (fillSlots (expireEntries (setStack (s.ovr.stack.map Entry.lastTap) s))) := by
  change execOverrideExpiry s = _
  rw [execOverrideExpiry, if_neg (by simp [h])]
  rfl

theorem exec_inputActive (h : loading s = false) (hk : k < 2)
    (role : roleKind (s.cfg.inForce.inputs.nth k).role = some kind) (state : (s.ovr.keys.nth k).state = .released)
    (filter : (s.ovr.keys.nth k).filter = 7) : exec (.inputActive k) s =
      .next (fillSlots (keyAct k (setKey k { s.ovr.keys.nth k with level := true } s))) := by
  have named : (s.cfg.inForce.inputs.nth k).role ≠ .noRole := fun e => by simp [e, roleKind] at role
  change execInputActive k s = _
  rw [execInputActive, within_of_lt hk, if_pos ⟨h, named, state, filter⟩, keyTapActive_eighth named state filter]

theorem exec_inputRelease (h : loading s = false) (hk : k < 2) :
    exec (.inputRelease k) s = .next (fillSlots (keyRelease k s)) := by
  change execInputRelease k s = _
  rw [execInputRelease, within_of_lt hk, if_neg (by simp [h])]

end Events

/-- Settles O32: the expiry removes what its last tap ran out; an input found active acts as the stack has room or not; a
release acts by the state of its input. Filling the slots leaves the stack, the inputs and the notices. -/
theorem keysAndExpiryMoveTheStack : Obligations.KeysAndExpiryMoveTheStack := by
  intro s h calm blocks
  refine ⟨fun calm0 calm1 => ?_, fun k kind hk role state filter => ?_, fun k hk => ?_⟩
  · have calmed : Calm (setStack (s.ovr.stack.map Entry.lastTap) s) := fun k hk => by
      obtain rfl | rfl : k = 0 ∨ k = 1 := by omega
      · exact calm0
      · exact calm1
    obtain ⟨stack, keys⟩ := expireEntries_ovr calmed
    have does := ((does_setStack s (s.ovr.stack.map Entry.lastTap)).mono rfl).trans (does_expireEntries _)
    refine ⟨_, exec_overrideExpiry h, (does_filled does).frame, ?_, ?_⟩
    · rw [fillSlots_ovr, keys]
      rfl
    · rw [fillSlots_ovr, stack]
      exact filter_lastTap s.ovr.stack
  · have found := does_setKey s k { s.ovr.keys.nth k with level := true }
    have does := (found.mono rfl).trans (does_keyAct k (setKey k { s.ovr.keys.nth k with level := true } s))
    refine ⟨_, exec_inputActive h hk role state filter, (does_filled does).frame, fun room => ?_, fun full => ?_⟩
    · obtain ⟨stack, key⟩ := keyAct_room (s := setKey k { s.ovr.keys.nth k with level := true } s) hk role room
      rw [fillSlots_ovr, stack, key, setKey_nth hk]
      exact ⟨rfl, rfl⟩
    · obtain ⟨stack, key, told⟩ := keyAct_full (s := setKey k { s.ovr.keys.nth k with level := true } s) hk full
      rw [fillSlots_ovr, stack, key, setKey_nth hk]
      exact ⟨rfl, rfl, (told.of_does found rfl rfl).kept (does_fillSlots _) rfl⟩
  · refine ⟨_, exec_inputRelease h hk, (does_filled (does_keyRelease k s)).frame, fun id state other => ?_,
      fun state => ?_, fun state => ?_⟩ <;> rw [fillSlots_ovr]
    · obtain ⟨stack, key⟩ := keyRelease_held hk state other
      exact ⟨stack, key⟩
    · obtain ⟨stack, key, told⟩ := keyRelease_pending hk state
      exact ⟨stack, key, told.kept (does_fillSlots _) rfl⟩
    · exact keyRelease_idle hk state

end Sys2Proof.Machine
end

section
/-! SUPPORT. What the producers do to the field bus (R163, R166): whatever they form or mark, every filled slot keeps all but
its data, no free slot is filled, and the call list loses at most the entries that a slot takes over. -/

namespace Sys2Proof.Machine

/-- A filled slot without the data that it carries. -/
def Slot.bare (x : Slot) : Slot := { x with data := .call }

/-- From `s` to `t` the field bus stands, but for the data of filled slots and for calls taken off the list. -/
structure BusStands (s t : State) : Prop where
  slots : ∀ i, (t.bus.slots.nth i).map Slot.bare = (s.bus.slots.nth i).map Slot.bare
  calls : t.bus.calls.Sublist s.bus.calls
  rest : t.bus = { s.bus with slots := t.bus.slots, calls := t.bus.calls }

namespace BusStands

variable {s t u : State} {bs : List Block}

/-- A change of the other parts of the state. -/
theorem same (h : t.bus = s.bus) : BusStands s t := by
  refine ⟨fun i => ?_, ?_, ?_⟩
  · rw [h]
  · rw [h]
  · rw [h]

theorem refl (s : State) : BusStands s s := same rfl

theorem of_does (d : Does bs s t) (c : bs.contains .slots = false) (b : bs.contains .bus = false) : BusStands s t := by
  obtain ⟨slots, calls⟩ := d.slots c
  exact same (by rw [d.bus b, slots, calls])

theorem trans (h : BusStands s t) (k : BusStands t u) : BusStands s u :=
  ⟨fun i => (k.slots i).trans (h.slots i), k.calls.trans h.calls,
    k.rest.trans (congrArg (fun b : FieldBus => { b with slots := u.bus.slots, calls := u.bus.calls }) h.rest)⟩

/-- What comes after a change that leaves the field bus standing; read from the last operation back. -/
theorem after (k : BusStands t u) (h : BusStands s t) : BusStands s u := h.trans k

theorem ite {c : Prop} [Decidable c] (h : c → BusStands s t) (k : ¬c → BusStands s u) :
    BusStands s (if c then t else u) := by
  split
  · exact h ‹_›
  · exact k ‹_›

theorem foldl {α : Type} (f : State → α → State) (h : ∀ t x, BusStands t (f t x)) (l : List α) (s : State) :
    BusStands s (l.foldl f s) := by
  induction l generalizing s with
  | nil => exact refl s
  | cons x l ih => exact (h s x).trans (ih _)

theorem posted (h : BusStands s t) (n : Notice) : BusStands s (post n t) := h.trans (same rfl)

/-- A slot that is filled in one state is filled in the other, and differs in its data alone. -/
theorem slot (h : BusStands s t) {i : Nat} {y : Slot} (hy : t.bus.slots.nth i = some y) :
    ∃ x, s.bus.slots.nth i = some x ∧ y.bare = x.bare := by
  have k := h.slots i
  rw [hy] at k
  obtain ⟨x, hx, e⟩ := Option.map_eq_some_iff.mp k.symm
  exact ⟨x, hx, e.symm⟩

theorem errors (h : BusStands s t) : t.bus.errors = s.bus.errors := by rw [h.rest]
theorem state (h : BusStands s t) : t.bus.state = s.bus.state := by rw [h.rest]
theorem offTaps (h : BusStands s t) : t.bus.offTaps = s.bus.offTaps := by rw [h.rest]
theorem unknown (h : BusStands s t) : t.bus.unknown = s.bus.unknown := by rw [h.rest]
theorem givenUp (h : BusStands s t) : t.bus.givenUp = s.bus.givenUp := by rw [h.rest]

end BusStands

/-! ## Marks (R166) -/

/-- The mark of a destination stands outside the field bus, but for a call's. -/
theorem stands_setMark {d : Dest} {m : Bool} (h : ∀ a, d = .call a → m = false) (s : State) :
    BusStands s (setMark d m s) := by
  cases d with
  | call a =>
    obtain rfl := h a rfl
    exact ⟨fun _ => rfl, List.filter_sublist, rfl⟩
  | _ => exact .same rfl

theorem stands_setSlot {i : Nat} {x y : Slot} {s : State} (h : s.bus.slots.nth i = some x) (e : y.bare = x.bare) :
    BusStands s { s with bus := s.bus.setSlot i (some y) } := by
  refine ⟨fun j => ?_, .refl _, rfl⟩
  rw [setSlot_slots, Tab.nth_put]
  split
  · rename_i hj
    rw [hj.1, h, Option.map_some, Option.map_some, e]
  · rfl

theorem stands_note {d : Dest} {mark : Bool} (h : ∀ a, d = .call a → mark = false) (s : State) :
    BusStands s (note d mark s) := by
  have marked : ∀ m, (∀ a, d = .call a → m = false) → BusStands s (setMark d m s) := fun m k => stands_setMark k s
  dsimp only [note]
  split
  · exact .refl s
  · split
    · exact .ite (fun e => marked true (by rwa [e] at h)) (fun _ => .refl s)
    · split
      · exact .refl s
      · rename_i x hx
        refine .ite (fun _ => .ite (fun e => marked true (by rwa [e] at h)) (fun _ => .refl s)) (fun _ => ?_)
        exact .trans (stands_setSlot (y := { x with data := destData s d }) hx rfl) (stands_setMark (fun _ _ => rfl) _)

/-! ## Guidance -/

theorem stands_face (i f : Nat) (mark : Bool) (s : State) : BusStands s (note (.face i f) mark s) :=
  stands_note (fun _ h => Dest.noConfusion h) s

theorem stands_lamp (b : Nat) (mark : Bool) (s : State) : BusStands s (note (.lamp b) mark s) :=
  stands_note (fun _ h => Dest.noConfusion h) s

theorem stands_group (g : Nat) (mark : Bool) (s : State) : BusStands s (note (.group g) mark s) :=
  stands_note (fun _ h => Dest.noConfusion h) s

theorem stands_formLamp (b : Nat) (s : State) : BusStands s (formLamp b s) := .after (stands_lamp _ _ _) (.same rfl)

theorem stands_putFace (i f : Nat) (x : Face) (s : State) : BusStands s (putFace i f x s) :=
  .after (stands_face _ _ _ _) (.same rfl)

theorem stands_formFaces (p : FaceRec → Bool) (s : State) : BusStands s (formFaces p s) :=
  .foldl (fun t (x : Nat × Nat) => formFace x.1 x.2 t) (fun t x => stands_putFace x.1 x.2 _ t) _ s

theorem stands_advanceSign (i : Nat) (s : State) : BusStands s (advanceSign i s) :=
  .ite (fun _ => .foldl _ (fun t f => .ite (fun _ => stands_putFace i f _ t) (fun _ => .refl t)) _ s) (fun _ => .refl s)

/-- R120: an arrival at guidance. -/
theorem stands_guideArrival (zs : List Nat) (also : FaceRec → Bool) (s : State) :
    BusStands s (guideArrival zs also s) := by
  have formed : ∀ (zs : List Nat) t, BusStands t (zs.foldl (fun t z => formLamps (zoneBays t z) t) t) := fun zs t =>
    .foldl _ (fun t z => .foldl _ (fun u b => stands_formLamp b u) _ t) zs t
  refine .ite (fun _ => ?_) (fun _ => .refl s)
  exact .after (.of_does (does_postAll _ _) rfl rfl) (.after (stands_formFaces _ _) (.after (formed _ _) (.same rfl)))

theorem stands_guideBay (b : Nat) (s : State) : BusStands s (guideBay b s) :=
  .ite (fun _ => (stands_guideArrival _ _ s).trans (stands_formLamp b _)) (fun _ => .refl s)

theorem stands_markAllGuidance (s : State) : BusStands s (markAllGuidance s) :=
  .trans (.foldl (fun t (x : Nat × Nat) => markFace x.1 x.2 t) (fun t x => stands_face x.1 x.2 true t) _ s)
    (.foldl (fun t b => markLamp b t) (fun t b => stands_lamp b true t) _ _)

theorem stands_markFallbackGuidance (s : State) : BusStands s (markFallbackGuidance s) :=
  (stands_note (d := .lampAll) (fun _ h => Dest.noConfusion h) s).trans
    (stands_note (d := .faceAll) (fun _ h => Dest.noConfusion h) _)

theorem stands_setSignState (i : Nat) (st : SignHealth) (s : State) : BusStands s (setSignState i st s) :=
  .of_does (does_setSignState i st s) rfl rfl

theorem stands_guideResendTap (s : State) : BusStands s (guideResendTap s) := by
  have resent : ∀ t, BusStands t (resendGuidance t) := fun t =>
    .ite (fun _ => stands_markAllGuidance t) (fun _ => stands_markFallbackGuidance t)
  exact .ite (fun _ => .after (resent _) (.same rfl)) (fun _ => .same rfl)

theorem stands_rotationTap (s : State) : BusStands s (rotationTap s) := by
  have turned : ∀ t, BusStands t (advanceUnpaired t) := fun t => .foldl _ (fun u i => stands_advanceSign i u) _ t
  exact .ite (fun _ => .after (turned _) (.same rfl)) (fun _ => .same rfl)

theorem stands_guideLevels (vs : List Nat) (s : State) : BusStands s (guideLevels vs s) := stands_formFaces _ s

theorem stands_levelTap (v : Nat) (s : State) : BusStands s (levelTap v s) := by
  dsimp only [levelTap]
  split
  · refine .ite (fun _ => .refl s) (fun _ => .ite (fun _ => ?_) (fun _ => .same rfl))
    exact .after (stands_guideLevels _ _) (.same rfl)
  · exact .refl s

theorem stands_writeLevels (items : List (Nat × Nat)) (s : State) : BusStands s (writeLevels items s) :=
  .after (stands_guideLevels _ _) (.foldl writeLevel (fun _ _ => .ite (fun _ => .same rfl) (fun _ => .same rfl)) items s)

theorem stands_guideT1 (s : State) : BusStands s (guideT1 s) := by
  refine .after (stands_guideResendTap _) (.ite (fun _ => ?_) (fun _ => .refl s))
  exact .after (stands_rotationTap _) (.foldl _ (fun t v => stands_levelTap v t) _ s)

/-! ## Lighting -/

theorem stands_formGroup (g : Nat) (s : State) : BusStands s (formGroup g s) := .after (stands_group _ _ _) (.same rfl)

theorem stands_formGroups (gs : List Nat) (s : State) : BusStands s (formGroups gs s) :=
  .ite (fun _ => .foldl _ (fun t g => stands_formGroup g t) gs s) (fun _ => .refl s)

theorem stands_takeCurve (block : Nat) (outputs : List Nat) (s : State) : BusStands s (takeCurve block outputs s) :=
  .after (.foldl (fun u g => rewantGroup g u) (fun _ g => .after (stands_group g _ _) (.same rfl)) _ _) (.same rfl)

theorem stands_trigger (g : Nat) (s : State) : BusStands s (trigger g s) :=
  .ite (fun _ => .ite (fun _ => .after (stands_formGroup g _) (.same rfl)) (fun _ => .same rfl)) (fun _ => .refl s)

theorem stands_setPath (p : Nat) (x : PathRun) (s : State) : BusStands s (setPath p x s) := .same rfl

theorem stands_pathFire (p : Nat) (s : State) : BusStands s (pathFire p s) := by
  dsimp only [pathFire]
  split
  · refine .after (stands_setPath p _ _) ?_
    split
    · exact stands_trigger _ s
    · exact .refl s
  · exact .refl s
  · exact .refl s

theorem stands_pathTap (p : Nat) (s : State) : BusStands s (pathTap p s) := by
  dsimp only [pathTap]
  split
  · exact .after (stands_pathFire p _) (.same rfl)
  · exact .refl s

theorem stands_startPaths (pair : Nat) (s : State) : BusStands s (startPaths pair s) :=
  .foldl (fun t p => startPath p t) (fun _ p => .after (stands_pathFire p _) (.same rfl)) _ s

theorem stands_formDark (z : Nat) (s : State) : BusStands s (formDark z s) := by
  refine .ite (fun _ => .ite (fun _ => .same rfl) (fun _ => ?_)) (fun _ => .refl s)
  exact .after (stands_guideArrival _ _ _) (.same rfl)

theorem stands_setGroupState (g : Nat) (st : GroupState) (s : State) : BusStands s (setGroupState g st s) :=
  .ite (fun _ => .refl s) (fun _ => .after (stands_formDark _ _) (.same rfl))

theorem stands_markFallbackLight (s : State) : BusStands s (markFallbackLight s) :=
  stands_note (d := .groupAll) (fun _ h => Dest.noConfusion h) s

theorem stands_lightResendTap (s : State) : BusStands s (lightResendTap s) := by
  have resent : ∀ t, BusStands t (resendLight t) := fun t =>
    .ite (fun _ => .foldl _ (fun u g => stands_group g true u) _ t) (fun _ => stands_markFallbackLight t)
  exact .ite (fun _ => .after (resent _) (.same rfl)) (fun _ => .same rfl)

theorem stands_stayTap (g : Nat) (s : State) : BusStands s (stayTap g s) :=
  .ite (fun _ => .refl s) (fun _ => .ite (fun _ => .after (stands_formGroup g _) (.same rfl)) (fun _ => .same rfl))

theorem stands_lightsT1 (s : State) : BusStands s (lightsT1 s) :=
  .after (stands_lightResendTap _) (.ite (fun _ => .foldl _ (fun t g => stands_stayTap g t) _ s) (fun _ => .refl s))

/-! ## Fan drive -/

theorem stands_formVentLost (z : Nat) (s : State) : BusStands s (formVentLost z s) := by
  refine .ite (fun _ => .ite (fun _ => .refl s) (fun _ => ?_)) (fun _ => .refl s)
  exact .after (stands_guideArrival _ _ _) (.same rfl)

theorem stands_formVentLosts (s : State) : BusStands s (formVentLosts s) :=
  .foldl _ (fun t z => stands_formVentLost z t) _ s

theorem stands_takeChannel (n : Nat) (x : Channel) (s : State) : BusStands s (takeChannel n x s) :=
  .ite (fun _ => .same rfl) (fun _ => .ite (fun _ => .after (stands_formVentLost _ _) (.same rfl)) (fun _ => .same rfl))

theorem stands_fanTap (n : Nat) (rdy : Bool) (s : State) : BusStands s (fanTap n rdy s) :=
  .ite (fun _ => stands_takeChannel n _ s) (fun _ => .same rfl)

theorem stands_fansT4 (rdy : BitVec 12) (s : State) : BusStands s (fansT4 rdy s) := by
  have stepped : BusStands s ((List.range 12).foldl (fun u n => fanTap n (rdy.getLsbD n) u) s) :=
    .foldl _ (fun t n => stands_fanTap n _ t) _ s
  refine .ite (fun _ => stepped.trans ?_) (fun _ => stepped)
  exact .foldl _ (fun t n => .of_does (does_testBelow n t) rfl rfl) _ _

theorem stands_fanStack (s : State) : BusStands s (fanStack s) :=
  .ite (fun _ => .same rfl) (fun _ => .after (stands_formVentLosts _) (.same rfl))

/-! ## Override stack -/

theorem stands_formSounder (s : State) : BusStands s (formSounder s) := .same rfl

theorem stands_airStack (s : State) : BusStands s (airStack s) := .same rfl

/-- R147: the announcement of a push or a removal. -/
theorem stands_announceStack (s : State) : BusStands s (announceStack s) :=
  .after (stands_formSounder _) (.after (stands_guideArrival _ _ _)
    (.after (stands_formGroups _ _) (.after (stands_airStack _) (stands_fanStack s))))

theorem stands_restack (l : List Entry) (s : State) : BusStands s (announceStack (setStack l s)) :=
  .after (stands_announceStack _) (.same rfl)

theorem stands_keyPush (k : Nat) (s : State) : BusStands s (keyPush k s) := by
  dsimp only [keyPush]
  split
  · exact .refl s
  · exact .after (stands_announceStack _) (.same rfl)

theorem stands_pendingPush (k : Nat) (s : State) : BusStands s (pendingPush k s) :=
  .ite (fun _ => (stands_keyPush k s).posted _) (fun _ => .refl s)

theorem stands_removeEntries (p : Entry → Bool) (s : State) : BusStands s (removeEntries p s) :=
  (stands_restack _ s).trans ((stands_pendingPush 0 _).trans (stands_pendingPush 1 _))

theorem stands_keyAct (k : Nat) (s : State) : BusStands s (keyAct k s) :=
  .ite (fun _ => .after (stands_keyPush k _) (.same rfl)) (fun _ => .same rfl)

theorem stands_keyRelease (k : Nat) (s : State) : BusStands s (keyRelease k s) := by
  dsimp only [keyRelease]
  split
  · exact .after (stands_removeEntries _ _) (.same rfl)
  · exact .same rfl
  · exact .same rfl
  · exact .same rfl

theorem stands_keyTapActive (k : Nat) (s : State) : BusStands s (keyTapActive k s) :=
  .ite (fun _ => .same rfl) (fun _ => .ite
    (fun _ => .ite (fun _ => .after (stands_keyAct k _) (.same rfl)) (fun _ => .same rfl)) (fun _ => .same rfl))

theorem stands_keysT32 (levels : BitVec 2) (s : State) : BusStands s (keysT32 levels s) :=
  .foldl _ (fun t k => .ite (fun _ => stands_keyTapActive k t) (fun _ => stands_keyRelease k t)) _ s

theorem stands_expireEntries (s : State) : BusStands s (expireEntries s) :=
  .ite (fun _ => .refl s) (fun _ => .after (stands_removeEntries _ _) (.of_does (does_postAll _ s) rfl rfl))

theorem stands_cancelMutes (s : State) : BusStands s (cancelMutes s) := by
  have spent : ∀ ns ids, BusStands s (spendKey ids 1 (spendKey ids 0 (postAll ns s))) := fun ns ids =>
    .after (.of_does (does_spendKey ids 1 _) rfl rfl)
      (.after (.of_does (does_spendKey ids 0 _) rfl rfl) (.of_does (does_postAll ns s) rfl rfl))
  exact .ite (fun _ => spent _ _) (fun _ => (spent _ _).trans (stands_removeEntries _ _))

/-! ## Air monitor -/

theorem stands_announceAir (z : Nat) (s : State) : BusStands s (announceAir z s) := by
  have told : BusStands s (lightAir z (guideAir z (post (.airState z (s.air.zones.nth z).state) s))) :=
    .after (stands_formGroups _ _) (.after (stands_guideArrival _ _ _) (.same rfl))
  exact .after (stands_formSounder _) (.ite (fun _ => told.trans (stands_cancelMutes _)) (fun _ => told))

theorem stands_sampleZone (old : Tab Sensor 32) (z : Nat) (s : State) : BusStands s (sampleZone old z s) := by
  have sampled : ∀ x, BusStands s (postSensors old (fun r => r.zone == z) (setZoneAir z x s)) := fun _ =>
    .after (.of_does (does_postSensors old _ _) rfl rfl) (.same rfl)
  exact .ite (fun _ => sampled _) (fun _ => (sampled _).trans (stands_announceAir z _))

theorem stands_airTap (ain : Tab (BitVec 10) 8) (s : State) : BusStands s (airTap ain s) := by
  refine .ite (fun _ => .same rfl) (fun _ => .ite (fun _ => ?_) (fun _ => .same rfl))
  exact .after (.foldl _ (fun t z => stands_sampleZone _ z t) _ _)
    (.after (.of_does (does_postSensors _ _ _) rfl rfl) (.same rfl))

/-! ## Occupancy unit -/

theorem stands_post (n : Notice) (s : State) : BusStands s (post n s) := .same rfl

/-- R14: a new derivation of a bay's state. -/
theorem stands_rederive (b : Nat) (s : State) : BusStands s (rederive b s) := by
  refine .ite (fun _ => .refl s) (fun _ => .after (stands_guideBay b _) ?_)
  exact .after (.of_does (does_countFree _ _ _ _ _) rfl rfl) (.same rfl)

theorem stands_takeSensed (b : Nat) (d : Det) (s : State) : BusStands s (takeSensed b d s) :=
  .ite (fun _ => .after (stands_post _ _) (.after (stands_rederive b _) (.same rfl)))
    (fun _ => .after (stands_rederive b _) (.same rfl))

/-- R10, R12: a sensed change and its announcement to air, lighting and guidance. -/
theorem stands_settleBay (b : Nat) (d : Det) (s : State) : BusStands s (settleBay b d s) := by
  have lit : ∀ t, BusStands t (lightSensed b t) := fun t => .foldl _ (fun u g => stands_trigger g u) _ t
  refine .after (.ite (fun _ => stands_formLamp b _) (fun _ => .refl _)) (.after (lit _) ?_)
  exact .after (.of_does (does_credit _ _ _) rfl rfl) (stands_takeSensed b d s)

theorem stands_loseSensed (b : Nat) (s : State) : BusStands s (loseSensed b s) := .after (stands_rederive b _) (.same rfl)

theorem stands_compareReport (b : Nat) (d : Det) (s : State) : BusStands s (compareReport b d s) :=
  .ite (fun _ => .same rfl) (fun _ => .ite (fun _ => .refl s) (fun _ =>
    .ite (fun _ => stands_settleBay b d s) (fun _ => .same rfl)))

/-- R6: a report for a bay. -/
theorem stands_bayReport (b : Nat) (d : Det) (h : Health) (s : State) : BusStands s (bayReport b d h s) := by
  cases h with
  | fault =>
    have lost : ∀ x, BusStands s (loseSensed b (setBay b x s)) := fun _ => .after (stands_loseSensed b _) (.same rfl)
    exact .ite (fun _ => (lost _).posted _) (fun _ => lost _)
  | ok =>
    have taken : ∀ x, BusStands s (if (bayOf s b).sensed = .nothing then takeSensed b d (setBay b x s)
        else compareReport b d (setBay b x s)) := fun _ =>
      .ite (fun _ => .after (stands_takeSensed b d _) (.same rfl)) (fun _ => .after (stands_compareReport b d _) (.same rfl))
    exact .ite (fun _ => (taken _).posted _) (fun _ => taken _)

theorem stands_settleTap (b : Nat) (s : State) : BusStands s (settleTap b s) := by
  dsimp only [settleTap]
  split
  · exact .ite (fun _ => stands_settleBay b _ s) (fun _ => .same rfl)
  · exact .refl s

theorem stands_expireReservation (b : Nat) (s : State) : BusStands s (expireReservation b s) :=
  .after (stands_post _ _) (.after (stands_rederive b _) (.same rfl))

theorem stands_reservationTap (b : Nat) (s : State) : BusStands s (reservationTap b s) := by
  dsimp only [reservationTap]
  split
  · exact .ite (fun _ => stands_expireReservation b s) (fun _ => .same rfl)
  · exact .refl s
  · exact .refl s

theorem stands_scanTap (s : State) : BusStands s (scanTap s) := by
  refine .ite (fun _ => .after (.foldl _ (fun t b => ?_) _ _) (.same rfl)) (fun _ => .same rfl)
  exact .ite (fun _ => (stands_loseSensed b t).posted _) (fun _ => .refl t)

theorem stands_bayT4 (s : State) : BusStands s (bayT4 s) :=
  .ite (fun _ => .foldl _ (fun t b => stands_settleTap b t) _ s) (fun _ => .refl s)

theorem stands_bayT1 (s : State) : BusStands s (bayT1 s) := by
  refine .ite (fun _ => .after (stands_scanTap _) ?_) (fun _ => .refl s)
  exact .after (.foldl _ (fun t b => stands_reservationTap b t) _ _) (.same rfl)

theorem stands_reserveBay (b n : Nat) (s : State) : BusStands s (reserveBay b n s) :=
  .after (stands_rederive b _) (.same rfl)

theorem stands_cancelReservation (b : Nat) (s : State) : BusStands s (cancelReservation b s) :=
  .after (stands_rederive b _) (.same rfl)

theorem stands_closeBay (b : Nat) (s : State) : BusStands s (closeBay b s) := by
  have told : BusStands s (if isReserved (bayOf s b).admin then post (.reservationEnd b .cancelled) s else s) :=
    .ite (fun _ => stands_post _ s) (fun _ => .refl s)
  exact .after (stands_rederive b _) (told.trans (.same rfl))

theorem stands_openBay (b : Nat) (s : State) : BusStands s (openBay b s) := .after (stands_rederive b _) (.same rfl)

theorem stands_bindBay (b : Nat) (a : Addr) (s : State) : BusStands s (bindBay b a s) :=
  .ite (fun _ => .after (stands_lamp b _ _) (.after (stands_loseSensed b _) (.same rfl))) (fun _ => .same rfl)

theorem stands_unbindBay (b : Nat) (s : State) : BusStands s (unbindBay b s) :=
  .ite (fun _ => .after (stands_loseSensed b _) (.same rfl)) (fun _ => .same rfl)

/-! ## Loop unit -/

theorem stands_announcePassage (p : Nat) (d : Direction) (s : State) : BusStands s (announcePassage p d s) := by
  have credited : ∀ z w, BusStands s (credit z w s) := fun z w => .of_does (does_credit z w s) rfl rfl
  have started : ∀ z w, BusStands s (startPaths p (credit z w s)) := fun z w => (credited z w).trans (stands_startPaths p _)
  cases d with
  | out => exact credited _ _
  | into | undirected =>
    dsimp only [announcePassage]
    split
    · exact (started _ _).trans (stands_advanceSign _ _)
    · exact started _ _

theorem stands_passage (p : Nat) (d : Direction) (s : State) : BusStands s (passage p d s) := by
  have counted : ∀ c : Prop, [Decidable c] → ∀ l : Loops, BusStands s (if c then
      { setPair p (tallied d (s.loops.pairs.nth p)) s with loops := l }
      else setPair p (tallied d (s.loops.pairs.nth p)) s) := fun _ _ _ => .ite (fun _ => .same rfl) (fun _ => .same rfl)
  exact .ite (fun _ => (counted _ _).trans (stands_announcePassage p d _)) (fun _ => counted _ _)

theorem stands_completeSequence (p : Nat) (s : State) : BusStands s (completeSequence p s) := by
  dsimp only [completeSequence]
  split
  · exact .after (stands_passage p _ _) (.same rfl)
  · exact .after (stands_passage p _ _) (.same rfl)
  · exact .same rfl
  · exact .same rfl
  · exact .refl s

theorem stands_pairCovered (i : Nat) (s : State) : BusStands s (pairCovered i s) := by
  dsimp only [pairCovered]
  split
  · exact .refl s
  · split
    · exact stands_passage _ _ s
    · exact .same rfl

theorem stands_pairCleared (i : Nat) (s : State) : BusStands s (pairCleared i s) := by
  dsimp only [pairCleared]
  split
  · exact .refl s
  · split
    · exact .refl s
    · exact .ite (fun _ => .refl s) (fun _ => stands_completeSequence _ s)

theorem stands_loopTapActive (i : Nat) (s : State) : BusStands s (loopTapActive i s) :=
  .ite (fun _ => .ite (fun _ => .after (stands_pairCovered i _) (.same rfl)) (fun _ => .same rfl)) (fun _ => .same rfl)

theorem stands_releaseLoop (i : Nat) (s : State) : BusStands s (releaseLoop i s) := by
  dsimp only [releaseLoop]
  split
  · exact .same rfl
  · exact .after (stands_pairCleared i _) (.same rfl)
  · exact .same rfl

theorem stands_loopsT32 (levels : BitVec 8) (s : State) : BusStands s (loopsT32 levels s) :=
  .foldl _ (fun t i => .ite (fun _ => stands_loopTapActive i t) (fun _ => stands_releaseLoop i t)) _ s

theorem stands_occupiedTap (i : Nat) (s : State) : BusStands s (occupiedTap i s) :=
  .ite (fun _ => .ite (fun _ => .after (stands_pairCleared i _) (.same rfl)) (fun _ => .same rfl)) (fun _ => .refl s)

theorem stands_loopT1 (s : State) : BusStands s (loopT1 s) := by
  refine .ite (fun _ => .refl s) (fun _ => ?_)
  exact .after (.foldl _ (fun t p => .of_does (does_sequenceTap p t) rfl rfl) _ _)
    (.foldl _ (fun t i => stands_occupiedTap i t) _ s)

/-! ## The outcomes of sent frames (R168, R169) -/

theorem stands_faceSent (i f : Nat) (v : FaceValue) (s : State) : BusStands s (faceSent i f v s) := by
  have sent : ∀ x, BusStands s (if (s.guide.signs.nth i).state = .noResponse then setSignState i .ok (setFace i f x s)
      else setFace i f x s) := fun _ => .ite (fun _ => .after (stands_setSignState i _ _) (.same rfl)) (fun _ => .same rfl)
  exact .ite (fun _ => (sent _).trans (stands_face _ _ _ _)) (fun _ => sent _)

theorem stands_groupSent (g : Nat) (v : Drive) (s : State) : BusStands s (groupSent g v s) := by
  have sent : ∀ x : Group, BusStands s (if x.state = .noResponse then setGroupState g .ok (setGroup g x s)
      else setGroup g x s) := fun _ => .ite (fun _ => .after (stands_setGroupState g _ _) (.same rfl)) (fun _ => .same rfl)
  exact .ite (fun _ => (sent _).trans (stands_group _ _ _)) (fun _ => sent _)

theorem stands_lampSent (b : Nat) (c : Colour) (s : State) : BusStands s (lampSent b c s) := by
  have sent : ∀ x, BusStands s (lampReached b (setLamp b x s)) := fun _ =>
    .after (.of_does (does_lampReached b _) rfl rfl) (.same rfl)
  exact .ite (fun _ => (sent _).trans (stands_lamp _ _ _)) (fun _ => sent _)

theorem stands_reportSuccess (x : Slot) (s : State) : BusStands s (reportSuccess x s) := by
  dsimp only [reportSuccess]
  split
  · split
    · exact stands_faceSent _ _ _ s
    · exact .refl s
  · split
    · exact stands_groupSent _ _ s
    · exact .refl s
  · split
    · exact stands_lampSent _ _ s
    · exact .refl s
  · exact .refl s

theorem stands_reportGiveUp (x : Slot) (s : State) : BusStands s (reportGiveUp x s) := by
  dsimp only [reportGiveUp]
  split
  · split
    · exact stands_setSignState _ _ s
    · exact .refl s
  · split
    · exact stands_setGroupState _ _ s
    · exact .refl s
  · split
    · exact .of_does (does_lampLost _ s) rfl rfl
    · exact .refl s
  all_goals exact .refl s

end Sys2Proof.Machine
end

section
/-! SUPPORT. The law of the transmit slots and of the error count (R161, R163, R164, R167, R169 to R171): the changes of the
field bus controller that keep it. -/

namespace Sys2Proof.Machine

/-! ## The filled slots -/

theorem slot_lt {b : FieldBus} {i : Nat} {x : Slot} (h : b.slots.nth i = some x) : i < 16 := by
  by_contra hi
  rw [Tab.nth_of_ge _ (by omega)] at h
  exact absurd h (Option.some_ne_none x).symm

/-- What holds of any two filled slots, by their numbers. -/
theorem pairwise_filledSlots {b : FieldBus} {R : Slot → Slot → Prop} :
    (filledSlots b).Pairwise (fun x y => R x.2 y.2) ↔
      ∀ i j x y, i < j → b.slots.nth i = some x → b.slots.nth j = some y → R x y := by
  rw [filledSlots, List.pairwise_filterMap, List.pairwise_iff_getElem]
  simp only [List.length_range, List.getElem_range, Option.map_eq_some_iff]
  constructor
  · intro h i j x y hij hx hy
    exact h i j (slot_lt hx) (slot_lt hy) hij (i, x) ⟨x, hx, rfl⟩ (j, y) ⟨y, hy, rfl⟩
  · rintro h i j - - hij _ ⟨x, hx, rfl⟩ _ ⟨y, hy, rfl⟩
    exact h i j x y hij hx hy

/-- R164, R167: two slots that can stand side by side. -/
def Slot.apart (x y : Slot) : Prop := x.key ≠ y.key ∧ (x.trying = false ∨ y.trying = false)

/-- R166, R169: a slot by itself. -/
def Slot.sound (x : Slot) : Prop := x.attempts ≤ 15 ∧ (x.withdrawn = true → x.trying = true)

theorem Slot.apart.symm {x y : Slot} (h : x.apart y) : y.apart x := ⟨h.1.symm, h.2.symm⟩

/-- R164, R167, R169: the law of the slots, slot by slot. -/
theorem slotLaw_iff {b : FieldBus} : SlotLaw b ↔
    (∀ i j x y, i ≠ j → b.slots.nth i = some x → b.slots.nth j = some y → x.apart y) ∧
    ∀ i x, b.slots.nth i = some x → x.sound := by
  constructor
  · rintro ⟨distinct, single, attempts⟩
    have keys := (pairwise_filledSlots (R := fun x y => x.key ≠ y.key)).mp distinct
    have tries := (pairwise_filledSlots (R := fun x y => x.trying = false ∨ y.trying = false)).mp single
    have below : ∀ i j x y, i < j → b.slots.nth i = some x → b.slots.nth j = some y → x.apart y :=
      fun i j x y hij hx hy => ⟨keys i j x y hij hx hy, tries i j x y hij hx hy⟩
    refine ⟨fun i j x y hij hx hy => ?_, fun i x hx => attempts i x (slot_lt hx) hx⟩
    rcases Nat.lt_or_gt_of_ne hij with h | h
    · exact below i j x y h hx hy
    · exact (below j i y x h hy hx).symm
  · rintro ⟨pairs, each⟩
    refine ⟨(pairwise_filledSlots (R := fun x y => x.key ≠ y.key)).mpr fun i j x y hij hx hy => ?_,
      (pairwise_filledSlots (R := fun x y => x.trying = false ∨ y.trying = false)).mpr fun i j x y hij hx hy => ?_,
      fun i x _ hx => each i x hx⟩
    · exact (pairs i j x y hij.ne hx hy).1
    · exact (pairs i j x y hij.ne hx hy).2

theorem SlotLaw.congr {b c : FieldBus} (h : SlotLaw b) (e : c.slots = b.slots) : SlotLaw c := by
  rw [slotLaw_iff, e, ← slotLaw_iff]
  exact h

/-- Slots that differ in their data alone. -/
theorem SlotLaw.of_bare {s t : State} (k : BusStands s t) (h : SlotLaw s.bus) : SlotLaw t.bus := by
  obtain ⟨pairs, each⟩ := slotLaw_iff.mp h
  refine slotLaw_iff.mpr ⟨fun i j x y hij hx hy => ?_, fun i x hx => ?_⟩
  · obtain ⟨x', hx', ex⟩ := k.slot hx
    obtain ⟨y', hy', ey⟩ := k.slot hy
    obtain ⟨key, tries⟩ := pairs i j x' y' hij hx' hy'
    simp only [Slot.bare, Slot.mk.injEq] at ex ey
    rw [Slot.apart, ex.1, ey.1, ex.2.2.2.1, ey.2.2.2.1]
    exact ⟨key, tries⟩
  · obtain ⟨x', hx', ex⟩ := k.slot hx
    simp only [Slot.bare, Slot.mk.injEq] at ex
    rw [Slot.sound, ex.2.2.1, ex.2.2.2.1, ex.2.2.2.2]
    exact each i x' hx'

/-- A slot written that stands apart from every other and is sound by itself. -/
theorem SlotLaw.put {b : FieldBus} (h : SlotLaw b) {i : Nat} {y : Slot} (sound : y.sound)
    (apart : ∀ j x, j ≠ i → b.slots.nth j = some x → x.apart y) : SlotLaw (b.setSlot i (some y)) := by
  obtain ⟨pairs, each⟩ := slotLaw_iff.mp h
  refine slotLaw_iff.mpr ⟨fun j k x z hjk hx hz => ?_, fun j x hx => ?_⟩
  · simp only [setSlot_slots, Tab.nth_put] at hx hz
    split at hx <;> split at hz
    · rename_i ej ek
      exact absurd (ej.1.trans ek.1.symm) hjk
    · rename_i ej _
      obtain rfl := Option.some.inj hx
      exact (apart k z (by rw [← ej.1]; exact hjk.symm) hz).symm
    · rename_i _ ek
      obtain rfl := Option.some.inj hz
      exact apart j x (by rw [← ek.1]; exact hjk) hx
    · exact pairs j k x z hjk hx hz
  · rw [setSlot_slots, Tab.nth_put] at hx
    split at hx
    · rw [← Option.some.inj hx]
      exact sound
    · exact each j x hx

/-- A filled slot that keeps its key and starts no attempt. -/
theorem SlotLaw.rewrite {b : FieldBus} (h : SlotLaw b) {i : Nat} {x y : Slot} (hx : b.slots.nth i = some x)
    (sound : y.sound) (key : y.key = x.key) (idle : x.trying = false → y.trying = false) :
    SlotLaw (b.setSlot i (some y)) := by
  refine h.put sound fun j z hj hz => ?_
  obtain ⟨keys, tries⟩ := (slotLaw_iff.mp h).1 j i z x hj hz hx
  exact ⟨by rw [key]; exact keys, tries.imp id idle⟩

/-- A slot that is freed. -/
theorem SlotLaw.free {b : FieldBus} (h : SlotLaw b) (i : Nat) : SlotLaw (b.setSlot i none) := by
  obtain ⟨pairs, each⟩ := slotLaw_iff.mp h
  have stood : ∀ j x, (b.setSlot i none).slots.nth j = some x → b.slots.nth j = some x := fun j x hx => by
    rw [setSlot_slots, Tab.nth_put] at hx
    split at hx
    · exact absurd hx (Option.some_ne_none x).symm
    · exact hx
  exact slotLaw_iff.mpr ⟨fun j k x y hjk hx hy => pairs j k x y hjk (stood j x hx) (stood k y hy),
    fun j x hx => each j x (stood j x hx)⟩

theorem slotLaw_withdrawAll {b c : FieldBus} (h : c.slots = (withdrawAll b).slots) : SlotLaw c := by
  have none : ∀ i, c.slots.nth i = none := fun i => by
    rw [h, withdrawAll, Tab.nth_fill]
    split <;> rfl
  exact slotLaw_iff.mpr ⟨fun i j x y _ hx => absurd (hx.symm.trans (none i)) (Option.some_ne_none x),
    fun i x hx => absurd (hx.symm.trans (none i)) (Option.some_ne_none x)⟩

/-- R166: a withdrawn slot is freed, or marked during its attempt. -/
theorem SlotLaw.withdrawKey {b : FieldBus} (h : SlotLaw b) (k : DestKey) : SlotLaw (withdrawKey k b) := by
  unfold Machine.withdrawKey
  split
  · exact h
  · split
    · exact h
    · rename_i i x hx
      obtain ⟨attempts, -⟩ := (slotLaw_iff.mp h).2 _ x hx
      split
      · rename_i trying
        exact h.rewrite hx ⟨attempts, fun _ => trying⟩ rfl id
      · exact h.free _

/-! ## What keeps both laws -/

/-- From `s` to `t` the law of the transmit slots and the law of the error count and the lists are kept. -/
structure KeepsBus (s t : State) : Prop where
  slots : SlotLaw s.bus → SlotLaw t.bus
  bus : BusLaw s.bus → BusLaw t.bus

namespace KeepsBus

variable {s t u : State} {bs : List Block}

theorem refl (s : State) : KeepsBus s s := ⟨id, id⟩

theorem trans (h : KeepsBus s t) (k : KeepsBus t u) : KeepsBus s u := ⟨k.slots ∘ h.slots, k.bus ∘ h.bus⟩

theorem ite {c : Prop} [Decidable c] (h : c → KeepsBus s t) (k : ¬c → KeepsBus s u) :
    KeepsBus s (if c then t else u) := by
  split
  · exact h ‹_›
  · exact k ‹_›

theorem foldl {α : Type} (f : State → α → State) (h : ∀ t x, KeepsBus t (f t x)) (l : List α) (s : State) :
    KeepsBus s (l.foldl f s) := by
  induction l generalizing s with
  | nil => exact refl s
  | cons x l ih => exact (h s x).trans (ih _)

/-- R166: what a producer does. -/
theorem stands (h : BusStands s t) : KeepsBus s t :=
  ⟨.of_bare h, fun l => ⟨by rw [h.errors]; exact l.errors, by rw [h.state, h.errors]; exact l.state,
    by rw [h.offTaps]; exact l.off, h.calls.length_le.trans l.calls, by rw [h.unknown]; exact l.unknown⟩⟩

theorem same (h : t.bus = s.bus) : KeepsBus s t := stands (.same h)

theorem of_does (d : Does bs s t) (c : bs.contains .slots = false) (b : bs.contains .bus = false) : KeepsBus s t :=
  stands (.of_does d c b)

theorem after (h : KeepsBus s t) (k : BusStands t u) : KeepsBus s u := h.trans (stands k)

/-- What comes before a change that keeps the laws; read from the last operation back. -/
theorem before (k : KeepsBus t u) (h : BusStands s t) : KeepsBus s u := (stands h).trans k

/-- A change of the slots and of the call list that leaves the rest of the field bus. -/
theorem of_slots (b : t.bus = { s.bus with slots := t.bus.slots, calls := t.bus.calls })
    (calls : s.bus.calls.length ≤ 16 → t.bus.calls.length ≤ 16) (slots : SlotLaw s.bus → SlotLaw t.bus) :
    KeepsBus s t :=
  ⟨slots, fun l => ⟨by rw [b]; exact l.errors, by rw [b]; exact l.state, by rw [b]; exact l.off, calls l.calls,
    by rw [b]; exact l.unknown⟩⟩

end KeepsBus

/-! ## Filling the slots (R165) -/

theorem keepsBus_fillOne (s : State) (d : Dest) : KeepsBus s (fillOne s d) := by
  dsimp only [fillOne]
  split
  · rename_i k i hk hi
    refine .ite (fun _ => .refl s) (fun fresh => ?_)
    have new : KeepsBus s { s with bus := s.bus.setSlot i (some ⟨k, destData s d, 0, false, false⟩) } := by
      refine .of_slots rfl id fun h => h.put ⟨Nat.zero_le _, fun w => absurd w Bool.false_ne_true⟩
        fun j x _ hx => ⟨?_, .inr rfl⟩
      exact slotWith_eq_none.mp (by simpa using fresh) j x hx
    exact new.after (stands_setMark (fun _ _ => rfl) _)
  · exact .refl s

theorem keepsBus_fillSlots (s : State) : KeepsBus s (fillSlots s) :=
  .ite (fun _ => .refl s) (fun _ => .foldl _ keepsBus_fillOne _ s)

theorem KeepsBus.fill {s t : State} (h : KeepsBus s t) : KeepsBus s (fillSlots t) := h.trans (keepsBus_fillSlots t)

theorem KeepsBus.answered {s t : State} (h : KeepsBus s t) (kind : Nat) (r : Result) (fs : List Byte) :
    KeepsBus s (answer kind r fs t) := h.after (.same rfl)

/-! ## The error count and the unknown-device list (R161, R170, R171) -/

/-- R170: an error count within its range, which the bus state follows. -/
theorem keepsBus_setErrors {n : Nat} {s : State} (hn : BusLaw s.bus → n ≤ 263) : KeepsBus s (setErrors n s) := by
  dsimp only [setErrors]
  split
  · exact ⟨fun h => h.congr rfl, fun l => ⟨hn l, rfl, Nat.zero_lt_succ _, l.calls, l.unknown⟩⟩
  · exact ⟨fun h => h.congr rfl, fun l => ⟨hn l, rfl, l.off, l.calls, l.unknown⟩⟩

theorem setErrors_slots (n : Nat) (s : State) : (setErrors n s).bus.slots = s.bus.slots := by
  dsimp only [setErrors]
  split <;> rfl

theorem keepsBus_recoverBus (s : State) : KeepsBus s (recoverBus s) :=
  ⟨fun h => h.congr rfl, fun l => ⟨Nat.zero_le _, rfl, Nat.zero_lt_succ _, l.calls, l.unknown⟩⟩

theorem keepsBus_busT4 (s : State) : KeepsBus s (busT4 s) := by
  refine .ite (fun _ => .refl s) (fun _ => .ite (fun _ => .ite (fun _ => keepsBus_recoverBus s) (fun early => ?_))
    (fun _ => .refl s))
  exact ⟨fun h => h.congr rfl, fun l => ⟨l.errors, l.state, Nat.not_le.mp early, l.calls, l.unknown⟩⟩

/-- R161: the list takes eight addresses. -/
theorem keepsBus_addUnknown (a : Addr) (type : DeviceType) (s : State) : KeepsBus s (addUnknown a type s) := by
  refine .ite (fun _ => .refl s) (fun _ => .ite (fun room => ?_) (fun _ => .ite (fun _ => .refl s) (fun _ => ?_)))
  · refine ⟨fun h => h.congr rfl, fun l => ⟨l.errors, l.state, l.off, l.calls, ?_⟩⟩
    rw [post_bus, List.length_append]
    exact room
  · exact ⟨fun h => h.congr rfl, fun l => ⟨l.errors, l.state, l.off, l.calls, l.unknown⟩⟩

/-! ## Attempts (R167 to R169) -/

theorem keepsBus_freed (i : Nat) (s : State) : KeepsBus s (putSlot i none s) := .of_slots rfl id fun h => h.free i

theorem keepsBus_attemptSucceeds (i : Nat) (x : Slot) (s : State) : KeepsBus s (attemptSucceeds i x s) := by
  have freed : KeepsBus s (putSlot i none (setErrors (s.bus.errors - 1) s)) :=
    .trans (keepsBus_setErrors fun l => (Nat.sub_le _ _).trans l.errors) (keepsBus_freed i _)
  exact .ite (fun _ => freed) (fun _ => freed.after (stands_reportSuccess x _))

theorem keepsBus_giveUp (i : Nat) (x : Slot) (s : State) : KeepsBus s (giveUp i x s) := by
  have freed : ∀ n, KeepsBus s (putSlot i none { s with bus := { s.bus with givenUp := n } }) := fun n =>
    .trans (t := { s with bus := { s.bus with givenUp := n } })
      ⟨fun h => h.congr rfl, fun l => ⟨l.errors, l.state, l.off, l.calls, l.unknown⟩⟩ (keepsBus_freed i _)
  exact .ite (fun _ => freed _) (fun _ => (freed _).after (stands_reportGiveUp x _))

/-- R167: an attempt that ends and leaves its slot filled. -/
theorem keepsBus_ended {i n : Nat} {x : Slot} {s : State} (hx : s.bus.slots.nth i = some x) (hw : ¬ x.withdrawn = true)
    (hn : n ≤ 15 ∨ n = x.attempts) : KeepsBus s (putSlot i (some { x with attempts := n, trying := false }) s) := by
  refine .of_slots rfl id fun h => h.rewrite hx ⟨?_, fun w => absurd w hw⟩ rfl fun _ => rfl
  rcases hn with hn | rfl
  · exact hn
  · exact ((slotLaw_iff.mp h).2 i x hx).1

/-- R170: while the controller is not OFF the error count has room for a failure. -/
theorem keepsBus_attemptFails {i : Nat} {x : Slot} {s : State} (on : s.bus.state ≠ .off)
    (hx : s.bus.slots.nth i = some x) : KeepsBus s (attemptFails i x s) := by
  have counted : KeepsBus s (if x.attempts + 1 ≥ 16 then giveUp i x s
      else if x.withdrawn then putSlot i none s
      else putSlot i (some { x with attempts := x.attempts + 1, trying := false }) s) :=
    .ite (fun _ => keepsBus_giveUp i x s) (fun few => .ite (fun _ => keepsBus_freed i s)
      (fun hw => keepsBus_ended hx hw (.inl (by omega))))
  have room : BusLaw s.bus → s.bus.errors + 8 ≤ 263 := fun l => by
    have low : busStateOf s.bus.errors ≠ .off := by rw [← l.state]; exact on
    unfold busStateOf at low
    split at low
    · omega
    · split at low
      · omega
      · exact absurd rfl low
  exact ⟨fun h => (counted.slots h).congr (setErrors_slots _ _),
    fun l => (keepsBus_setErrors fun _ => room l).bus (counted.bus l)⟩

theorem mem_filledSlots {b : FieldBus} {i : Nat} {x : Slot} : (i, x) ∈ filledSlots b ↔ b.slots.nth i = some x := by
  rw [filledSlots, List.mem_filterMap]
  constructor
  · rintro ⟨j, -, hj⟩
    obtain ⟨y, hy, e⟩ := Option.map_eq_some_iff.mp hj
    obtain ⟨rfl, rfl⟩ := Prod.mk.inj e
    exact hy
  · intro hx
    exact ⟨i, List.mem_range.mpr (slot_lt hx), by rw [hx]; rfl⟩

theorem tryingSlot_some {b : FieldBus} {i : Nat} {x : Slot} (h : tryingSlot b = some (i, x)) :
    b.slots.nth i = some x ∧ x.trying = true :=
  ⟨mem_filledSlots.mp (List.mem_of_find?_eq_some h), List.find?_some (p := fun y : Nat × Slot => y.2.trying) h⟩

theorem tryingSlot_none {b : FieldBus} (h : tryingSlot b = none) {i : Nat} {x : Slot} (hx : b.slots.nth i = some x) :
    x.trying = false := by
  have k := List.find?_eq_none.mp h (i, x) (mem_filledSlots.mpr hx)
  exact Bool.eq_false_iff.mpr k

theorem lowerSlot_mem (l : List (Nat × Slot)) (a : Nat × Slot) : l.foldl lowerSlot a ∈ a :: l := by
  induction l generalizing a with
  | nil => exact List.mem_cons_self
  | cons b l ih =>
    have least := ih (lowerSlot a b)
    rw [List.mem_cons] at least
    rw [List.foldl_cons, List.mem_cons, List.mem_cons]
    rcases least with least | least
    · rw [least, lowerSlot]
      split
      · exact .inr (.inl rfl)
      · exact .inl rfl
    · exact .inr (.inr least)

theorem lowestSlot_some {b : FieldBus} {i : Nat} {x : Slot} (h : lowestSlot b = some (i, x)) :
    b.slots.nth i = some x := by
  unfold lowestSlot at h
  split at h
  · exact absurd h (Option.some_ne_none _).symm
  · rename_i y ys hy
    have mem := lowerSlot_mem ys y
    rw [Option.some.inj h, ← hy] at mem
    exact mem_filledSlots.mp mem

theorem keepsBus_arbitrationLoses {i : Nat} {x : Slot} {s : State} (hx : s.bus.slots.nth i = some x) :
    KeepsBus s (arbitrationLoses i x s) := by
  by_cases hw : x.withdrawn = true
  · rw [arbitrationLoses, if_pos hw]
    exact keepsBus_freed i s
  · rw [arbitrationLoses, if_neg hw]
    exact keepsBus_ended (n := x.attempts) hx hw (.inr rfl)

/-- The end of an attempt: its slot is filled, and the controller is not OFF. -/
theorem keepsBus_endAttempt {effect : Nat → Slot → State → State} {s : State}
    (h : ∀ i x, s.bus.state ≠ .off → s.bus.slots.nth i = some x → KeepsBus s (effect i x s)) :
    KeepsBus s (endAttempt effect s) := by
  dsimp only [endAttempt]
  split
  · rename_i i x hx
    exact .ite (fun on => (h i x (receives_iff.mp on).2 (tryingSlot_some hx).1).fill) (fun _ => .refl s)
  · exact .refl s

/-- R167: a frame is offered while no attempt is in progress. -/
theorem keepsBus_offer {i : Nat} {x : Slot} {s : State} (idle : tryingSlot s.bus = none)
    (hx : s.bus.slots.nth i = some x) : KeepsBus s (putSlot i (some { x with trying := true }) s) := by
  refine .of_slots rfl id fun h => ?_
  obtain ⟨pairs, each⟩ := slotLaw_iff.mp h
  refine h.put (y := { x with trying := true }) ⟨(each i x hx).1, fun _ => rfl⟩ fun j y hj hy => ?_
  exact ⟨(pairs j i y x hj hy hx).1, .inl (tryingSlot_none idle hy)⟩

/-! ## Calls and bindings (R163, R166, R19, R20) -/

theorem queueCall_calls_le {a : Addr} {b : FieldBus} : (queueCall a b).calls.length ≤ 16 := by
  dsimp only [queueCall]
  split
  · exact Nat.succ_le_succ (Nat.zero_le _)
  · rw [List.length_append]
    exact Nat.not_le.mp ‹_›

theorem keepsBus_callDetector (a : Addr) (s : State) : KeepsBus s (callDetector a s) := by
  refine .ite (fun _ => .refl s) (fun _ => ?_)
  have queued : KeepsBus s { s with bus := queueCall a s.bus } :=
    .of_slots rfl (fun _ => queueCall_calls_le) fun h => h.congr rfl
  exact queued.after (stands_note (fun _ _ => rfl) _)

theorem keepsBus_bindAddress (a b way : Nat) (s : State) : KeepsBus s (bindAddress a b way s) := by
  have known : ∀ c : ConfigUnit, KeepsBus s { s with cfg := c, bus := { s.bus with
      unknown := s.bus.unknown.filter (fun e => e.addr != a) } } := fun _ =>
    ⟨fun h => h.congr rfl, fun l => ⟨l.errors, l.state, l.off, l.calls,
      (List.length_filter_le _ _).trans l.unknown⟩⟩
  have bound := (known { s.cfg with
    map := mapPut s.cfg.map (a % 128) way (some ⟨a / 128, b⟩), imageCurrent := false }).after (stands_bindBay b a _)
  exact .ite (fun _ => bound.trans (keepsBus_callDetector a _)) (fun _ => bound)

theorem withdrawKey_rest (k : DestKey) (b : FieldBus) :
    withdrawKey k b = { b with slots := (withdrawKey k b).slots } := by
  unfold withdrawKey
  split
  · rfl
  · split <;> rfl

theorem keepsBus_withdrawKey (k : DestKey) (s : State) : KeepsBus s { s with bus := withdrawKey k s.bus } := by
  have rest := withdrawKey_rest k s.bus
  have calls : (withdrawKey k s.bus).calls = s.bus.calls := by rw [rest]
  refine .of_slots ?_ (fun h => by rw [calls]; exact h) fun h => h.withdrawKey k
  rw [calls]
  exact rest

theorem keepsBus_unbindAddress (a b way : Nat) (s : State) : KeepsBus s (unbindAddress a b way s) := by
  have unbound : ∀ c : ConfigUnit, KeepsBus s (unbindBay b { s with cfg := c }) := fun _ =>
    .stands (.after (stands_unbindBay b _) (.same rfl))
  have uncalled : ∀ u, KeepsBus u { u with bus := { u.bus with calls := u.bus.calls.filter (· != a) } } := fun u =>
    .of_slots rfl (fun h => (List.length_filter_le _ _).trans h) fun h => h.congr rfl
  exact (unbound _).trans ((uncalled _).trans ((keepsBus_withdrawKey (.call a) _).trans (keepsBus_withdrawKey (.lamp a) _)))

theorem keepsBus_clearUnknowns (s : State) : KeepsBus s (clearUnknowns s) :=
  ⟨fun h => h.congr rfl, fun l => ⟨l.errors, l.state, l.off, l.calls, Nat.zero_le _⟩⟩

/-! ## Resets and entries (R172, R183, R184, R187) -/

/-- R172: the slots are withdrawn and the list of calls is a new one. -/
theorem keepsBus_busEntry (rate : Nat) {calls : List Addr} (h : calls.length ≤ 16) (s : State) :
    KeepsBus s (busEntry rate calls s) := by
  have entered : KeepsBus s { s with bus := { withdrawAll s.bus with bitRate := rate, calls := calls } } :=
    ⟨fun _ => slotLaw_withdrawAll (b := s.bus) rfl, fun l => ⟨l.errors, l.state, l.off, h, l.unknown⟩⟩
  exact .ite (fun _ => entered.trans (keepsBus_recoverBus _)) (fun _ => entered)

theorem keepsBus_busToRunning (s : State) : KeepsBus s (busToRunning s) := by
  have entered : KeepsBus s (busEntry (params s).bitRate [allDevices] s) :=
    keepsBus_busEntry _ (calls := [allDevices]) (Nat.succ_le_succ (Nat.zero_le _)) s
  exact entered.trans ⟨fun h => h.congr rfl, fun l => ⟨l.errors, l.state, l.off, l.calls, Nat.zero_le _⟩⟩

/-- A change of the other parts of the state. -/
theorem KeepsBus.beside {bs : List Block} {s t u : State} (h : KeepsBus s t) (d : Does bs t u)
    (c : bs.contains .slots = false) (b : bs.contains .bus = false) : KeepsBus s u := h.trans (.of_does d c b)

theorem keepsBus_enterRunning (s : State) : KeepsBus s (enterRunning s) := by
  have bus := (KeepsBus.of_does (does_cfgToRunning s) rfl rfl).trans (keepsBus_busToRunning _)
  have overrides := bus.beside (does_ovrToRunning s.cfg.inForce _) rfl rfl
  have air := (overrides.beside (does_occToRunning _) rfl rfl).beside (does_airToRunning s.cfg.inForce _) rfl rfl
  have light := (air.beside (does_fanToRunning _) rfl rfl).beside (does_lightToRunning _) rfl rfl
  exact ((light.beside (does_loopsToRunning _) rfl rfl).beside (does_guideToRunning _) rfl rfl).beside
    (does_formSounder _) rfl rfl

theorem stands_fanToEditing (s : State) : BusStands s (fanToEditing s) := .after (stands_formVentLosts _) (.same rfl)

theorem keepsBus_enterEditing (s : State) : KeepsBus s (enterEditing s) := by
  have bus := (KeepsBus.of_does (does_cfgToEditing s) rfl rfl).trans
    (keepsBus_busEntry s.bus.bitRate (calls := []) (Nat.zero_le _) _)
  have air := (bus.beside (does_occToEditing _) rfl rfl).beside (does_airToEditing _) rfl rfl
  have fan := air.after (stands_fanToEditing _)
  exact (fan.beside (does_lightToEditing _) rfl rfl).beside (does_guideToEditing _) rfl rfl

theorem keepsBus_endLoad (source : LoadSource) (s : State) : KeepsBus s (endLoad source s) := by
  dsimp only [endLoad]
  split
  · exact .before (keepsBus_enterRunning _) (.same rfl)
  · exact .before (keepsBus_busEntry _ (Nat.zero_le _) _) (.same rfl)

theorem keepsBus_resetPowerOn (straps : Straps) (s : State) : KeepsBus s (resetPowerOn straps s) :=
  ⟨fun _ => slotLaw_reset, fun _ => busLaw_reset⟩

theorem keepsBus_resetCommanded (straps : Straps) (s : State) : KeepsBus s (resetCommanded straps s) :=
  ⟨fun _ => slotLaw_reset, fun _ => busLaw_reset⟩

/-! ## The parts of the taps (R174) -/

theorem keepsBus_runT32 (levels : BitVec 8) (keys : BitVec 2) (s : State) (p : T32Part) :
    KeepsBus s (runT32 levels keys s p) := by
  refine .ite (fun _ => .refl s) (fun _ => ?_)
  cases p with
  | loops => exact .stands (stands_loopsT32 levels s)
  | keys => exact .stands (stands_keysT32 keys s)
  | paths => exact .ite (fun _ => .foldl _ (fun t p => .stands (stands_pathTap p t)) _ s) (fun _ => .refl s)

theorem keepsBus_runT4 (rdy : BitVec 12) (s : State) (p : T4Part) : KeepsBus s (runT4 rdy s p) := by
  refine .ite (fun _ => .refl s) (fun _ => ?_)
  cases p with
  | bays => exact .stands (stands_bayT4 s)
  | fans => exact .stands (stands_fansT4 rdy s)
  | bus => exact keepsBus_busT4 s

theorem keepsBus_runT1 (ain : Tab (BitVec 10) 8) (s : State) (p : T1Part) : KeepsBus s (runT1 ain s p) := by
  cases p with
  | clock => exact .same rfl
  | sounder => exact .ite (fun _ => .refl s) (fun _ => .of_does (does_sounderTap s) rfl rfl)
  | air => exact .stands (stands_airTap ain s)
  | bays => exact .stands (stands_bayT1 s)
  | fans => exact .ite (fun _ => .refl s) (fun _ => .same rfl)
  | lights => exact .ite (fun _ => .refl s) (fun _ => .stands (stands_lightsT1 s))
  | loops => exact .stands (stands_loopT1 s)
  | guide => exact .ite (fun _ => .refl s) (fun _ => .stands (stands_guideT1 s))
  | stack => exact .ite (fun _ => .refl s) (fun _ => .stands (.after (stands_expireEntries _) (.same rfl)))

end Sys2Proof.Machine
end

section
/-! SUPPORT. Every command keeps the law of the transmit slots and of the error count (R161, R163, R164, R167, R169 to
R171). -/

namespace Sys2Proof.Machine

/-! ## Requests -/

section Requests

variable {α : Type} {kind : Nat} {always : Bool} {r : Req α} {rule : α → State → State} {s : State}

theorem keepsBus_arrive (s : State) : KeepsBus s (arrive s) := by
  have reset : KeepsBus s (if s.link.resetDue = true then resetCommanded s.link.pins s else s) :=
    .ite (fun _ => keepsBus_resetCommanded _ s) (fun _ => .refl s)
  exact reset.trans (.same rfl)

/-- R195: a request keeps the laws when its rule does. -/
theorem keepsBus_request (h : ∀ x t, KeepsBus t (rule x t)) : KeepsBus s (request kind always r rule s) := by
  have arrived := keepsBus_arrive s
  refine .ite (fun _ => .refl s) (fun _ => .ite (fun _ => arrived.answered _ _ _) (fun _ => ?_))
  cases r with
  | misfit => exact arrived.answered _ _ _
  | fits x => exact arrived.trans (h x _)

/-- The same, with the slots filled after it (R165). -/
theorem keepsBus_requestFill (h : ∀ x t, KeepsBus t (rule x t)) :
    KeepsBus s (request kind always r (thenFill rule) s) := keepsBus_request fun x t => (h x t).fill

theorem keepsBus_broadcastIn (h : ∀ x t, KeepsBus t (rule x t)) : KeepsBus s (broadcastIn r rule s) := by
  have heard : KeepsBus s { s with link := { s.link with receiver := .hunting } } := .same rfl
  refine .ite (fun _ => .refl s) (fun _ => .ite (fun _ => heard) (fun _ => ?_))
  cases r with
  | misfit => exact heard
  | fits x => exact heard.trans (h x _)

end Requests

section Rules

variable {kind : Nat} {r : Result} {fs : List Byte} {s t : State} {c : Prop} [Decidable c]

theorem keepsBus_answer (kind : Nat) (r : Result) (fs : List Byte) (s : State) : KeepsBus s (answer kind r fs s) := .same rfl

/-- A rule that one condition of the part refuses. -/
theorem keepsBus_refusable (h : KeepsBus s t) : KeepsBus s (if c then answer kind r fs s else t) :=
  .ite (fun _ => .same rfl) (fun _ => h)

/-- A rule that needs one condition of the part. -/
theorem keepsBus_requires (h : KeepsBus s t) : KeepsBus s (if c then t else answer kind r fs s) :=
  .ite (fun _ => h) (fun _ => .same rfl)

/-- A request that only reads, with one refusal. -/
theorem keepsBus_reads {q : Result} {gs : List Byte} (s : State) :
    KeepsBus s (if c then answer kind r fs s else answer kind q gs s) := keepsBus_refusable (.same rfl)

/-- A reply to what a producer has done. -/
theorem keepsBus_done (h : BusStands s t) : KeepsBus s (answer kind r fs t) := (KeepsBus.stands h).answered _ _ _

end Rules

section RuleBodies

variable (s : State)

theorem keepsBus_openConfig : KeepsBus s (openConfig s) := by
  have entered : ∀ k r fs, KeepsBus s (answer k r fs (enterEditing s)) := fun k r fs =>
    (keepsBus_enterEditing s).answered k r fs
  refine keepsBus_refusable ?_
  split
  · exact entered _ _ _
  · exact entered _ _ _
  · exact keepsBus_answer _ _ _ s
  · exact keepsBus_answer _ _ _ s

theorem keepsBus_closeConfig : KeepsBus s (closeConfig s) := by
  have entered : ∀ t, t.bus = s.bus → KeepsBus s (answer 0x13 .ok [] (enterRunning t)) := fun t h =>
    ((keepsBus_enterRunning t).before (.same h)).answered _ _ _
  refine keepsBus_requires ?_
  split
  · exact keepsBus_answer _ _ _ s
  · exact entered _ rfl

theorem keepsBus_writeConfig (q : Req CfgWrite) : KeepsBus s (writeConfig q s) := by
  refine keepsBus_requires ?_
  split
  · exact keepsBus_answer _ _ _ s
  · split
    · exact .same rfl
    · exact keepsBus_answer _ _ _ s

theorem keepsBus_readConfig (q : CfgRead) : KeepsBus s (readConfig q s) := by
  cases q with
  | record | misfit => exact keepsBus_reads s
  | unknownKind => exact keepsBus_answer _ _ _ s

theorem keepsBus_writeCurve (q : Req (Nat × Option (List Nat))) : KeepsBus s (writeCurve q s) := by
  refine keepsBus_refusable (keepsBus_requires ?_)
  split
  · exact keepsBus_answer _ _ _ s
  · refine keepsBus_refusable ?_
    split
    · exact keepsBus_answer _ _ _ s
    · exact keepsBus_refusable (keepsBus_done (stands_takeCurve _ _ s))

theorem keepsBus_mapChecks (a b : Nat) : KeepsBus s (mapChecks a b s) := by
  refine keepsBus_refusable ?_
  split
  · exact keepsBus_reads s
  · split
    · exact keepsBus_answer _ _ _ s
    · refine keepsBus_refusable ?_
      split
      · exact keepsBus_answer _ _ _ s
      · exact (keepsBus_bindAddress _ _ _ s).answered _ _ _

theorem keepsBus_removeMapping (a : Addr) : KeepsBus s (removeMapping a s) := by
  dsimp only [removeMapping]
  split
  · exact keepsBus_requires ((keepsBus_unbindAddress _ _ _ s).answered _ _ _)
  · exact keepsBus_answer _ _ _ s

theorem keepsBus_lookupMapping (a : Addr) : KeepsBus s (lookupMapping a s) := by
  dsimp only [lookupMapping]
  split <;> exact keepsBus_answer _ _ _ s

theorem keepsBus_reserveRequest (b time : Nat) : KeepsBus s (reserveRequest b time s) := by
  have reserved : ∀ k r fs n, KeepsBus s (answer k r fs (reserveBay b n s)) := fun _ _ _ n =>
    keepsBus_done (stands_reserveBay b n s)
  refine keepsBus_refusable ?_
  split
  · exact reserved _ _ _ _
  · exact reserved _ _ _ _
  all_goals exact keepsBus_answer _ _ _ s

theorem keepsBus_levelCountsRule (q : Req (List (Nat × Nat))) : KeepsBus s (levelCountsRule q s) := by
  refine keepsBus_requires ?_
  split
  · exact keepsBus_answer _ _ _ s
  · exact keepsBus_refusable (keepsBus_requires (keepsBus_done (stands_writeLevels _ s)))

theorem keepsBus_levelCountsBroadcast (items : List (Nat × Nat)) : KeepsBus s (levelCountsBroadcast items s) :=
  .ite (fun _ => .stands (stands_writeLevels items s)) (fun _ => .refl s)

theorem keepsBus_pushRule (q : PushReq) : KeepsBus s (pushRule q s) := by
  dsimp only [pushRule]
  split
  · exact keepsBus_answer _ _ _ s
  · exact keepsBus_refusable (keepsBus_refusable (keepsBus_done (stands_restack _ s)))

theorem keepsBus_popRule : KeepsBus s (popRule s) := by
  dsimp only [popRule]
  split
  · exact keepsBus_answer _ _ _ s
  · exact keepsBus_done (stands_removeEntries _ s)

theorem keepsBus_removeRule (id : Nat) : KeepsBus s (removeRule id s) := by
  dsimp only [removeRule]
  split
  · exact keepsBus_answer _ _ _ s
  · exact keepsBus_requires (keepsBus_done (stands_removeEntries _ s))

end RuleBodies

/-! ## Frames and events -/

section Events

variable {c : Prop} [Decidable c] {s u : State}

/-- An event, due or not. -/
theorem keepsBus_event (h : KeepsBus s u) : KeepsBus s (if c then u else s) := .ite (fun _ => h) (fun _ => .refl s)

/-- The same, with the slots filled after it (R165). -/
theorem keepsBus_eventFill (h : KeepsBus s u) : KeepsBus s (if c then fillSlots u else s) := keepsBus_event h.fill

/-- An event of a producer. -/
theorem keepsBus_produced (h : BusStands s u) : KeepsBus s (if c then fillSlots u else s) := keepsBus_eventFill (.stands h)

/-- An event that the part does not take in one condition. -/
theorem keepsBus_unless (h : KeepsBus s u) : KeepsBus s (if c then s else u) := .ite (fun _ => .refl s) (fun _ => h)

end Events

/-- R160: a frame from an address that no record owns goes to the unknown-device list. -/
theorem keepsBus_takeBayState (a : Addr) (d : Det) (h : Health) (s : State) : KeepsBus s (takeBayState a d h s) := by
  dsimp only [takeBayState]
  split
  · exact keepsBus_addUnknown a _ s
  · exact keepsBus_event (.stands (stands_bayReport _ d h s))

theorem stands_takeSensorState (n : Nat) (x : Sensor) (s : State) : BusStands s (takeSensorState n x s) :=
  .ite (fun _ => .same rfl) (fun _ => .same rfl)

theorem keepsBus_takeGasValue (a : Addr) (g : GasReport) (s : State) : KeepsBus s (takeGasValue a g s) := by
  dsimp only [takeGasValue]
  split
  · exact keepsBus_addUnknown a _ s
  · exact keepsBus_event (.stands (stands_takeSensorState _ _ s))

theorem keepsBus_takePed (a : Addr) (p : Ped) (s : State) : KeepsBus s (takePed a p s) := by
  dsimp only [takePed]
  split
  · exact keepsBus_addUnknown a _ s
  · split
    · exact .stands (stands_trigger _ s)
    · exact .refl s

theorem keepsBus_takeLumState (a : Addr) (h : Health) (s : State) : KeepsBus s (takeLumState a h s) := by
  dsimp only [takeLumState]
  split
  · exact keepsBus_addUnknown a _ s
  · exact keepsBus_event (.stands (stands_setGroupState _ _ s))

theorem keepsBus_takeSignState (a : Addr) (h : Health) (s : State) : KeepsBus s (takeSignState a h s) := by
  dsimp only [takeSignState]
  split
  · exact keepsBus_addUnknown a _ s
  · exact keepsBus_event (.stands (stands_setSignState _ _ s))

theorem stands_announceBay (b : Nat) (s : State) : BusStands s (announceBay b s) :=
  .ite (fun _ => .after (stands_lamp b _ _) (.same rfl)) (fun _ => stands_markFallbackGuidance s)

theorem stands_announceSensor (n : Nat) (s : State) : BusStands s (announceSensor n s) :=
  .ite (fun _ => stands_takeSensorState n _ s) (fun _ => .refl s)

theorem stands_announceGroup (g : Nat) (s : State) : BusStands s (announceGroup g s) :=
  .ite (fun _ => stands_group g true s) (fun _ => stands_markFallbackLight s)

theorem stands_announceSign (i : Nat) (s : State) : BusStands s (announceSign i s) :=
  .ite (fun _ => .foldl _ (fun t f => stands_face i f true t) _ s) (fun _ => stands_markFallbackGuidance s)

theorem keepsBus_takeAnnounce (a : Addr) (type : DeviceType) (s : State) : KeepsBus s (takeAnnounce a type s) := by
  dsimp only [takeAnnounce]
  split
  · exact .stands (stands_announceBay _ s)
  · exact .stands (stands_announceSensor _ s)
  · exact .stands (stands_announceGroup _ s)
  · exact .refl s
  · exact .stands (stands_announceSign _ s)
  · exact keepsBus_addUnknown a type s

theorem stands_endWarmup (n : Nat) (raw : BitVec 10) (s : State) : BusStands s (endWarmup n raw s) :=
  .ite (fun _ => .ite (fun _ => stands_takeSensorState n _ s) (fun _ => .same rfl)) (fun _ => .refl s)

/-- R158: a frame that the part discards is counted at most. -/
theorem keepsBus_discardFrame (why : FrameDiscard) (s : State) : KeepsBus s (discardFrame why s) := by
  cases why with
  | malformed =>
    exact keepsBus_event ⟨fun h => h.congr rfl, fun l => ⟨l.errors, l.state, l.off, l.calls, l.unknown⟩⟩
  | sentKind | unknownKind | notDevice => exact .refl s

/-! ## Every command -/

/-- A command that answers a next state keeps the laws. -/
def OutKeepsBus (s : State) (o : Out) : Prop := ∀ t, o = .next t → KeepsBus s t

namespace OutKeepsBus

variable {s u : State}

theorem next (k : KeepsBus s u) : OutKeepsBus s (.next u) := fun t h => by
  rw [← Host.Outcome.next.inj h]
  exact k

theorem within {i n : Nat} (k : KeepsBus s u) : OutKeepsBus s (Machine.within i n u) := by
  unfold Machine.within
  split
  · exact next k
  · exact fun t h => absurd h (by simp)

end OutKeepsBus

theorem keepsBus_exec (i : Instr) (s : State) : OutKeepsBus s (exec i s) := by
  cases i with
  | powerOnReset straps => exact .next (keepsBus_resetPowerOn straps s)
  | commandedReset straps => exact .next (keepsBus_event (keepsBus_resetCommanded straps s))
  | loadEnd source => exact .next (keepsBus_eventFill (keepsBus_endLoad source s))
  | t32Tap levels keys order => exact .next (.fill (.foldl _ (keepsBus_runT32 levels keys) _ s))
  | t4Tap rdy order => exact .next (.fill (.foldl _ (keepsBus_runT4 rdy) _ s))
  | t1Tap ain order => exact .next (.fill (.foldl _ (keepsBus_runT1 ain) _ s))
  | correctionWindow => exact .next (keepsBus_event (.same rfl))
  | warmupEnd slot raw => exact .within (.stands (stands_endWarmup slot raw s))
  | sensorSilent slot => exact .within (keepsBus_event (.stands (stands_takeSensorState slot _ s)))
  | doseRingAdvance zone | creditDecay zone | alarmHoldEnd zone => exact .within (keepsBus_event (.same rfl))
  | bayState a d x => exact .next (keepsBus_eventFill (keepsBus_takeBayState a d x s))
  | gasValue a g => exact .next (keepsBus_eventFill (keepsBus_takeGasValue a g s))
  | pedPresence a p => exact .next (keepsBus_eventFill (keepsBus_takePed a p s))
  | lumState a x => exact .next (keepsBus_eventFill (keepsBus_takeLumState a x s))
  | signState a x => exact .next (keepsBus_eventFill (keepsBus_takeSignState a x s))
  | announce a type => exact .next (keepsBus_eventFill (keepsBus_takeAnnounce a type s))
  | fieldFrameDiscarded why => exact .next (keepsBus_discardFrame why s)
  | settleExpiry bay => exact .within (keepsBus_produced (stands_settleTap bay s))
  | silenceScan => exact .next (keepsBus_produced (stands_scanTap s))
  | reservationExpiry bay => exact .within (keepsBus_produced (stands_reservationTap bay s))
  | stayLitEnd g => exact .within (keepsBus_produced (stands_stayTap g s))
  | pathStep p => exact .within (keepsBus_produced (stands_pathTap p s))
  | lightResend => exact .next (keepsBus_produced (stands_lightResendTap s))
  | readyTimeout n | readyLoss n => exact .within (keepsBus_produced (stands_fanTap n false s))
  | coastEnd n | sequenceTimeout n => exact .within (keepsBus_event (.same rfl))
  | loopOccupied i => exact .within (keepsBus_produced (stands_loopTapActive i s))
  | loopRelease i => exact .within (keepsBus_unless (.fill (.stands (stands_releaseLoop i s))))
  | loopStuck i => exact .within (keepsBus_produced (stands_occupiedTap i s))
  | rotationAdvance => exact .next (keepsBus_produced (stands_rotationTap s))
  | guidanceResend => exact .next (keepsBus_produced (stands_guideResendTap s))
  | levelStale v => exact .within (keepsBus_produced (stands_levelTap v s))
  | overrideExpiry => exact .next (keepsBus_unless (.fill (.stands (.after (stands_expireEntries _) (.same rfl)))))
  | inputActive k => exact .within (keepsBus_produced (stands_keyTapActive k s))
  | inputRelease k => exact .within (keepsBus_unless (.fill (.stands (stands_keyRelease k s))))
  | frameOffer =>
    refine .next (.ite (fun due => ?_) (fun _ => .refl s))
    split
    · rename_i i x lowest
      exact keepsBus_offer (Option.isNone_iff_eq_none.mp due.2) (lowestSlot_some lowest)
    · exact .refl s
  | arbitrationLost => exact .next (keepsBus_endAttempt fun _ _ _ hx => keepsBus_arbitrationLoses hx)
  | attemptSuccess => exact .next (keepsBus_endAttempt fun i x _ _ => keepsBus_attemptSucceeds i x s)
  | attemptFailed => exact .next (keepsBus_endAttempt fun _ _ on hx => keepsBus_attemptFails on hx)
  | busOffRecovery => exact .next (keepsBus_eventFill (keepsBus_recoverBus s))
  | storePageDone =>
    refine .next ?_
    split
    · exact keepsBus_event (.same rfl)
    · exact .refl s
  | storeReadbackDone agrees =>
    refine .next ?_
    split
    · exact keepsBus_event (.ite (fun _ => .same rfl) (fun _ => .same rfl))
    · exact .refl s
  | storePageTimeout =>
    refine .next ?_
    split
    · exact keepsBus_event (.same rfl)
    · exact .refl s
  | frameSync | frameGapTimeout | frameCrcMismatch => exact .next (.of_does (does_receiverTo _ s) rfl rfl)
  | frameIgnored a k => exact .next (keepsBus_event (.of_does (does_receiverTo _ s) rfl rfl))
  | frameLenAbandoned len => exact .next (keepsBus_event (.of_does (does_receiverTo _ s) rfl rfl))
  | unknownKind k => exact .next (keepsBus_unless ((keepsBus_arrive s).answered _ _ _))
  | replyStart =>
    refine .next (keepsBus_unless ?_)
    split
    · exact .same rfl
    · exact .refl s
  | replyEnd => exact .next (keepsBus_event (.same rfl))
  | identify r | getStatus r | getClock r | listUnknown r | readLoops r | overrideList r =>
    exact .next (keepsBus_request fun _ t => keepsBus_answer _ _ _ t)
  | reset r | fetchNotices r | noticeClasses r => exact .next (keepsBus_request fun _ t => .same rfl)
  | clearUnknown r => exact .next (keepsBus_request fun _ t => keepsBus_clearUnknowns t)
  | curveRead r | mapReadSet r | readBays r | readSensor r | readFan r | readGroup r | readSign r =>
    exact .next (keepsBus_request fun _ t => keepsBus_reads t)
  | readZone r =>
    exact .next (keepsBus_request fun _ t => keepsBus_refusable (keepsBus_requires (keepsBus_answer _ _ _ t)))
  | setClock broadcast r =>
    exact .next (.ite (fun _ => keepsBus_broadcastIn fun _ _ => .same rfl) (fun _ => keepsBus_request fun _ _ => .same rfl))
  | configOpen r => exact .next (keepsBus_requestFill fun _ t => keepsBus_openConfig t)
  | configWrite r => exact .next (keepsBus_request fun q t => keepsBus_writeConfig t q)
  | configRead r => exact .next (keepsBus_request fun q t => keepsBus_readConfig t q)
  | configClose r => exact .next (keepsBus_requestFill fun _ t => keepsBus_closeConfig t)
  | configStore r => exact .next (keepsBus_request fun _ t => keepsBus_refusable (keepsBus_requires (.same rfl)))
  | curveWrite r => exact .next (keepsBus_requestFill fun q t => keepsBus_writeCurve t q)
  | mapWrite r =>
    exact .next (keepsBus_requestFill fun x t => keepsBus_refusable (keepsBus_refusable (keepsBus_mapChecks t x.1 x.2)))
  | mapRemove r =>
    exact .next (keepsBus_requestFill fun a t => keepsBus_refusable (keepsBus_refusable (keepsBus_removeMapping t a)))
  | mapLookup r => exact .next (keepsBus_request fun a t => keepsBus_lookupMapping t a)
  | bayReserve r =>
    exact .next (keepsBus_requestFill fun x t => keepsBus_requires (keepsBus_reserveRequest t x.1 x.2))
  | bayRelease r =>
    exact .next (keepsBus_requestFill fun b t => keepsBus_requires
      (keepsBus_refusable (keepsBus_requires (keepsBus_done (stands_cancelReservation b t)))))
  | bayClose r =>
    exact .next (keepsBus_requestFill fun b t => keepsBus_refusable (keepsBus_requires
      (keepsBus_refusable (keepsBus_refusable (keepsBus_done (stands_closeBay b t))))))
  | bayOpen r =>
    exact .next (keepsBus_requestFill fun b t => keepsBus_refusable (keepsBus_requires
      (keepsBus_refusable (keepsBus_requires (keepsBus_done (stands_openBay b t))))))
  | fanClear r =>
    exact .next (keepsBus_requestFill fun n t =>
      keepsBus_refusable (keepsBus_requires (keepsBus_done (stands_takeChannel n _ t))))
  | levelCounts broadcast r =>
    exact .next (.ite (fun _ => keepsBus_broadcastIn fun x t => (keepsBus_levelCountsBroadcast t x).fill)
      (fun _ => keepsBus_requestFill fun q t => keepsBus_levelCountsRule t q))
  | overridePush r => exact .next (keepsBus_requestFill fun q t => keepsBus_pushRule t q)
  | overridePop r => exact .next (keepsBus_requestFill fun _ t => keepsBus_popRule t)
  | overrideRemove r => exact .next (keepsBus_requestFill fun id t => keepsBus_removeRule t id)
  | pwmPeriodStart => exact .next (.same rfl)

/-- Every step keeps the laws, a command's or a cycle of the crystal. -/
theorem keepsBus_step {s t : State} (h : step s = .next t) : KeepsBus s t := by
  unfold step at h
  split at h
  · rw [← Host.Outcome.next.inj h]
    exact .same rfl
  · rename_i c rest _
    exact .trans (t := { s with pending := rest }) (.same rfl) (keepsBus_exec c _ t h)

/-- Settles O53: the producers leave the slots, the error count and the list lengths standing; the field bus controller's own
changes keep each of them, because a key is put into a free slot only when no slot holds it, an attempt starts only when
none is in progress, and an attempt fails only while the error count has room. -/
theorem fieldBusKeepsItsLaw : Obligations.FieldBusKeepsItsLaw := fun _ _ h =>
  ⟨(keepsBus_step h).slots, (keepsBus_step h).bus⟩

end Sys2Proof.Machine
end

section
/-! SUPPORT. The law of the waiting destinations (R165): filling the slots sets it up from any state, and what touches neither
marks nor keys keeps it. -/

namespace Sys2Proof.Machine

/-! ## Filling sets the law up -/

/-- R165: a destination has its key in a slot, or no slot is free. -/
def Placed (s : State) (d : Dest) : Prop :=
  freeSlot s.bus ≠ none → ∀ k, destKey s d = some k → slotWith s.bus k ≠ none

/-- A mark that is cleared makes no destination wait. -/
theorem waits_of_setMark_false {d e : Dest} {s : State} (w : e.waits (setMark d false s)) : e.waits s := by
  cases d with
  | face i f =>
    cases e with
    | face j g =>
      obtain ⟨hj, hg, hw⟩ := w
      refine ⟨hj, hg, ?_⟩
      simp only [setMark, Guidance.setFace, Tab.nth_modify] at hw
      split at hw
      · rename_i hji
        simp only [hji.1, Tab.nth_put] at hw ⊢
        split at hw
        · exact absurd hw Bool.false_ne_true
        · exact hw
      · exact hw
    | _ => exact w
  | call a =>
    cases e with
    | call c => exact (List.mem_filter.mp w).1
    | _ => exact w
  | group g =>
    cases e with
    | group k =>
      obtain ⟨hk, hw⟩ := w
      refine ⟨hk, ?_⟩
      simp only [setMark, Tab.nth_modify] at hw
      split at hw
      · exact absurd hw Bool.false_ne_true
      · exact hw
    | _ => exact w
  | lamp b =>
    cases e with
    | lamp c =>
      obtain ⟨hc, hw⟩ := w
      refine ⟨hc, ?_⟩
      simp only [setMark, Tab.nth_modify] at hw
      split at hw
      · exact absurd hw Bool.false_ne_true
      · exact hw
    | _ => exact w
  | faceAll | groupAll | lampAll =>
    cases e <;> first | exact w | exact absurd w Bool.false_ne_true

theorem waits_of_fillOne {s : State} {d e : Dest} (w : e.waits (fillOne s d)) : e.waits s := by
  dsimp only [fillOne] at w
  split at w
  · split at w
    · exact w
    · have k := waits_of_setMark_false w
      cases e <;> exact k
  · exact w

theorem freeSlot_ne_none {b : FieldBus} : freeSlot b ≠ none ↔ ∃ i, i < 16 ∧ b.slots.nth i = none := by
  rw [Ne, freeSlot, List.find?_eq_none]
  simp

/-- A slot that is free after one destination is taken was free before. -/
theorem freeSlot_of_fillOne {s : State} {d : Dest} (h : freeSlot (fillOne s d).bus ≠ none) : freeSlot s.bus ≠ none := by
  obtain ⟨i, hi, free⟩ := freeSlot_ne_none.mp h
  refine freeSlot_ne_none.mpr ⟨i, hi, ?_⟩
  cases hx : s.bus.slots.nth i with
  | none => rfl
  | some x => exact absurd (free.symm.trans (fillOne_keeps s d hx)) (Option.some_ne_none x).symm

theorem destKey_fillOne (s : State) (d e : Dest) : destKey (fillOne s d) e = destKey s e :=
  destKey_of_does (does_fillOne s d) rfl rfl e

/-- R165: the destination that is taken is placed. -/
theorem placed_fillOne (s : State) (d : Dest) : Placed (fillOne s d) d := by
  intro free k hk
  rw [destKey_fillOne] at hk
  obtain ⟨i, hi⟩ := Option.ne_none_iff_exists'.mp (freeSlot_of_fillOne free)
  simp only [fillOne, hk, hi]
  split
  · rename_i stands
    exact Option.isSome_iff_ne_none.mp stands
  · rw [slotWith_ne_none, setMark_slots, ← slotWith_ne_none]
    exact slotWith_setSlot_self s.bus (freeSlot_lt hi) rfl

/-- R165: a destination that is placed stays so while others are taken. -/
theorem Placed.fillOne {s : State} {e : Dest} (h : Placed s e) (d : Dest) : Placed (fillOne s d) e := by
  intro free k hk
  rw [destKey_fillOne] at hk
  obtain ⟨i, x, hx, key⟩ := slotWith_ne_none.mp (h (freeSlot_of_fillOne free) k hk)
  exact slotWith_ne_none.mpr ⟨i, x, fillOne_keeps s d hx, key⟩

theorem Placed.foldl {s : State} {e : Dest} (h : Placed s e) (ds : List Dest) : Placed (ds.foldl Machine.fillOne s) e := by
  induction ds generalizing s with
  | nil => exact h
  | cons d ds ih => exact ih (h.fillOne d)

theorem placed_foldl {e : Dest} (ds : List Dest) (s : State) (h : e ∈ ds) : Placed (ds.foldl fillOne s) e := by
  induction ds generalizing s with
  | nil => exact absurd h List.not_mem_nil
  | cons d ds ih =>
    rcases List.mem_cons.mp h with rfl | later
    · exact (placed_fillOne s e).foldl ds
    · exact ih _ later

theorem waits_of_foldl {e : Dest} (ds : List Dest) (s : State) (w : e.waits (ds.foldl fillOne s)) : e.waits s := by
  induction ds generalizing s with
  | nil => exact w
  | cons d ds ih => exact waits_of_fillOne (ih _ w)

/-- R165: where the slots were filled, no destination waits beside a free slot. -/
theorem fillLaw_fillSlots (s : State) : FillLaw (fillSlots s) := by
  unfold fillSlots
  split
  · rename_i absent
    exact fun present => absurd (absent.symm.trans present) Bool.true_eq_false.mp
  · exact fun _ free d hd => placed_foldl _ s (mem_waitingDests.mpr (waits_of_foldl _ s (mem_waitingDests.mp hd))) free

/-! ## What keeps the law -/

/-- The law reads nothing that differs between the two states: the same destinations wait under the same keys, and the
slots hold the same keys. -/
structure SameWaiting (s t : State) : Prop where
  loading : loading t = loading s
  waiting : waitingDests t = waitingDests s
  destKey : ∀ d, destKey t d = destKey s d
  keys : ∀ i, (t.bus.slots.nth i).map Slot.key = (s.bus.slots.nth i).map Slot.key

/-- From `s` to `t` the law of the waiting destinations is kept. -/
def KeepsFill (s t : State) : Prop := FillLaw s → FillLaw t

namespace SameWaiting

variable {s t : State}

theorem freeSlot (h : SameWaiting s t) (free : freeSlot t.bus ≠ none) : Machine.freeSlot s.bus ≠ none := by
  obtain ⟨i, hi, e⟩ := freeSlot_ne_none.mp free
  have k := h.keys i
  rw [e] at k
  exact freeSlot_ne_none.mpr ⟨i, hi, Option.map_eq_none_iff.mp k.symm⟩

theorem slotWith (h : SameWaiting s t) {k : DestKey} (held : slotWith s.bus k ≠ none) : slotWith t.bus k ≠ none := by
  obtain ⟨i, x, hx, rfl⟩ := slotWith_ne_none.mp held
  have e := h.keys i
  rw [hx] at e
  obtain ⟨y, hy, key⟩ := Option.map_eq_some_iff.mp e
  exact slotWith_ne_none.mpr ⟨i, y, hy, key⟩

theorem keeps (h : SameWaiting s t) : KeepsFill s t := fun l present free d hd k hk => by
  rw [h.loading] at present
  rw [h.waiting] at hd
  rw [h.destKey] at hk
  exact h.slotWith (l present (h.freeSlot free) d hd k hk)

/-- A change of what the law does not read. -/
theorem same (cfg : t.cfg = s.cfg) (occ : t.occ = s.occ) (guide : t.guide = s.guide) (light : t.light = s.light)
    (slots : t.bus.slots = s.bus.slots) (calls : t.bus.calls = s.bus.calls) : SameWaiting s t := by
  refine ⟨?_, ?_, fun d => ?_, fun i => by rw [slots]⟩
  · simp only [Machine.loading, cfg]
  · simp only [waitingDests, guide, light, calls]
  · cases d <;> simp only [Machine.destKey, cfg, occ]

end SameWaiting

namespace KeepsFill

variable {s t u : State} {bs : List Block}

theorem refl (s : State) : KeepsFill s s := id

theorem trans (h : KeepsFill s t) (k : KeepsFill t u) : KeepsFill s u := k ∘ h

theorem ite {c : Prop} [Decidable c] (h : c → KeepsFill s t) (k : ¬c → KeepsFill s u) :
    KeepsFill s (if c then t else u) := by
  split
  · exact h ‹_›
  · exact k ‹_›

/-- A change of what the law does not read. -/
theorem same (cfg : t.cfg = s.cfg) (occ : t.occ = s.occ) (guide : t.guide = s.guide) (light : t.light = s.light)
    (slots : t.bus.slots = s.bus.slots) (calls : t.bus.calls = s.bus.calls) : KeepsFill s t :=
  (SameWaiting.same cfg occ guide light slots calls).keeps

/-- R165: the slots are filled at the end. -/
theorem filled (s u : State) : KeepsFill s (fillSlots u) := fun _ => fillLaw_fillSlots u

/-- In LOADING the law says nothing. -/
theorem absent (h : loading t = true) : KeepsFill s t := fun _ present => absurd (h.symm.trans present) Bool.true_eq_false.mp

theorem of_does (d : Does bs s t) (cfg : bs.contains .cfg = false) (occ : bs.contains .occ = false)
    (guide : bs.contains .guide = false) (light : bs.contains .light = false) (slots : bs.contains .slots = false) :
    KeepsFill s t := by
  obtain ⟨slots, calls⟩ := d.slots slots
  exact same (d.cfg cfg) (d.occ occ) (d.guide guide) (d.light light) slots calls

end KeepsFill

/-- A change of the configuration unit beside its state and the configuration in force. -/
theorem keepsFill_cfg {s : State} {c : ConfigUnit} (state : c.state = s.cfg.state) (inForce : c.inForce = s.cfg.inForce) :
    KeepsFill s { s with cfg := c } := by
  refine SameWaiting.keeps ⟨?_, rfl, fun d => ?_, fun _ => rfl⟩
  · simp only [loading, state]
  · cases d <;> simp only [destKey, inForce]

theorem keepsFill_post (n : Notice) (s : State) : KeepsFill s (post n s) := .of_does (does_post n s) rfl rfl rfl rfl rfl

theorem keepsFill_answer (kind : Nat) (r : Result) (fs : List Byte) (s : State) : KeepsFill s (answer kind r fs s) :=
  .same rfl rfl rfl rfl rfl rfl

theorem KeepsFill.answered {s t : State} (h : KeepsFill s t) (kind : Nat) (r : Result) (fs : List Byte) :
    KeepsFill s (answer kind r fs t) := h.trans (keepsFill_answer kind r fs t)

/-- R167: a frame that is offered keeps its slot and its key. -/
theorem keepsFill_offer {i : Nat} {x : Slot} {s : State} (hx : s.bus.slots.nth i = some x) :
    KeepsFill s (putSlot i (some { x with trying := true }) s) := by
  refine SameWaiting.keeps ⟨rfl, rfl, fun d => by cases d <;> rfl, fun j => ?_⟩
  rw [putSlot, setSlot_slots, Tab.nth_put]
  split
  · rename_i e
    rw [e.1, hx]
    rfl
  · rfl

end Sys2Proof.Machine
end

section
/-! SUPPORT. Every command keeps the law of the waiting destinations (R165). -/

namespace Sys2Proof.Machine

/-! ## Requests -/

section Requests

variable {α : Type} {kind : Nat} {always : Bool} {r : Req α} {rule : α → State → State} {s : State}

/-- R196: a request that finds a reset due leaves the part in LOADING. -/
theorem keepsFill_arrive (s : State) : KeepsFill s (arrive s) := by
  have reset : KeepsFill s (if s.link.resetDue = true then resetCommanded s.link.pins s else s) :=
    .ite (fun _ => .absent rfl) (fun _ => .refl s)
  exact reset.trans (.same rfl rfl rfl rfl rfl rfl)

/-- R195: a request keeps the law when its rule does. -/
theorem keepsFill_request (h : ∀ x t, KeepsFill t (rule x t)) : KeepsFill s (request kind always r rule s) := by
  have arrived := keepsFill_arrive s
  refine .ite (fun _ => .refl s) (fun _ => .ite (fun _ => arrived.answered _ _ _) (fun _ => ?_))
  cases r with
  | misfit => exact arrived.answered _ _ _
  | fits x => exact arrived.trans (h x _)

/-- R165: the slots are filled after the rule. -/
theorem keepsFill_requestFill : KeepsFill s (request kind always r (thenFill rule) s) :=
  keepsFill_request fun x t => .filled t (rule x t)

theorem keepsFill_broadcastIn (h : ∀ x t, KeepsFill t (rule x t)) : KeepsFill s (broadcastIn r rule s) := by
  have heard : KeepsFill s { s with link := { s.link with receiver := .hunting } } :=
    .same rfl rfl rfl rfl rfl rfl
  refine .ite (fun _ => .refl s) (fun _ => .ite (fun _ => heard) (fun _ => ?_))
  cases r with
  | misfit => exact heard
  | fits x => exact heard.trans (h x _)

end Requests

section Rules

variable {kind : Nat} {r : Result} {fs : List Byte} {s t : State} {c : Prop} [Decidable c]

/-- A rule that one condition of the part refuses. -/
theorem keepsFill_refusable (h : KeepsFill s t) : KeepsFill s (if c then answer kind r fs s else t) :=
  .ite (fun _ => keepsFill_answer _ _ _ s) (fun _ => h)

/-- A rule that needs one condition of the part. -/
theorem keepsFill_requires (h : KeepsFill s t) : KeepsFill s (if c then t else answer kind r fs s) :=
  .ite (fun _ => h) (fun _ => keepsFill_answer _ _ _ s)

/-- A request that only reads, with one refusal. -/
theorem keepsFill_reads {q : Result} {gs : List Byte} (s : State) :
    KeepsFill s (if c then answer kind r fs s else answer kind q gs s) := keepsFill_refusable (keepsFill_answer _ _ _ s)

end Rules

section RuleBodies

variable (s : State)

theorem keepsFill_setClockTo (q : BitVec 32 × Option Int) : KeepsFill s (setClockTo q s) :=
  .same rfl rfl rfl rfl rfl rfl

/-- R185: a write of the working configuration. -/
theorem keepsFill_writeConfig (q : Req CfgWrite) : KeepsFill s (writeConfig q s) := by
  refine keepsFill_requires ?_
  split
  · exact keepsFill_answer _ _ _ s
  · split
    · rename_i c bytes _
      exact (keepsFill_cfg (c := { s.cfg with working := c }) rfl rfl).answered 0x11 .ok bytes
    · exact keepsFill_answer _ _ _ s

theorem keepsFill_readConfig (q : CfgRead) : KeepsFill s (readConfig q s) := by
  cases q with
  | record | misfit => exact keepsFill_reads s
  | unknownKind => exact keepsFill_answer _ _ _ s

/-- R188: a store begins. -/
theorem keepsFill_storeConfig (id : BitVec 16) : KeepsFill s (storeConfig id s) :=
  keepsFill_refusable (keepsFill_requires
    ((keepsFill_cfg (c := { s.cfg with activity := .storing 0 id (workingBody s.cfg) }) rfl rfl).answered 0x14 .ok []))

theorem keepsFill_lookupMapping (a : Addr) : KeepsFill s (lookupMapping a s) := by
  dsimp only [lookupMapping]
  split <;> exact keepsFill_answer _ _ _ s

end RuleBodies

/-! ## Events -/

section Events

variable {c : Prop} [Decidable c] {s u : State}

/-- An event, due or not. -/
theorem keepsFill_event (h : KeepsFill s u) : KeepsFill s (if c then u else s) := .ite (fun _ => h) (fun _ => .refl s)

/-- R165: the slots are filled after the event. -/
theorem keepsFill_eventFill : KeepsFill s (if c then fillSlots u else s) := keepsFill_event (.filled s u)

/-- The same, of an event that the part does not take in one condition. -/
theorem keepsFill_unlessFill : KeepsFill s (if c then s else fillSlots u) := .ite (fun _ => .refl s) (fun _ => .filled s u)

end Events

theorem keepsFill_discardFrame (why : FrameDiscard) (s : State) : KeepsFill s (discardFrame why s) := by
  cases why with
  | malformed => exact keepsFill_event (.same rfl rfl rfl rfl rfl rfl)
  | sentKind | unknownKind | notDevice => exact .refl s

theorem keepsFill_endAttempt (effect : Nat → Slot → State → State) (s : State) : KeepsFill s (endAttempt effect s) := by
  dsimp only [endAttempt]
  split
  · exact keepsFill_eventFill
  · exact .refl s

theorem keepsFill_endStore (o : StoreOutcome) (n : Nat) (id : BitVec 16) (m : SerialMem) (s : State) :
    KeepsFill s (endStore o n id m s) := (keepsFill_cfg rfl rfl).trans (keepsFill_post (.storeDone o id n) _)

theorem keepsFill_receiverTo (r : Receiver) (s : State) : KeepsFill s (receiverTo r s) :=
  .of_does (does_receiverTo r s) rfl rfl rfl rfl rfl

/-! ## Every command -/

/-- A command that answers a next state keeps the law. -/
def OutKeepsFill (s : State) (o : Out) : Prop := ∀ t, o = .next t → KeepsFill s t

namespace OutKeepsFill

variable {s u : State}

theorem next (k : KeepsFill s u) : OutKeepsFill s (.next u) := fun t h => by
  rw [← Host.Outcome.next.inj h]
  exact k

theorem within {i n : Nat} (k : KeepsFill s u) : OutKeepsFill s (Machine.within i n u) := by
  unfold Machine.within
  split
  · exact next k
  · exact fun t h => absurd h (by simp)

end OutKeepsFill

theorem keepsFill_exec (i : Instr) (s : State) : OutKeepsFill s (exec i s) := by
  cases i with
  | powerOnReset straps => exact .next (.absent rfl)
  | commandedReset straps => exact .next (keepsFill_event (.absent rfl))
  | loadEnd _ | bayState _ _ _ | gasValue _ _ | pedPresence _ _ | lumState _ _ | signState _ _ | announce _ _
  | silenceScan | lightResend | rotationAdvance | guidanceResend | busOffRecovery => exact .next keepsFill_eventFill
  | settleExpiry _ | reservationExpiry _ | stayLitEnd _ | pathStep _ | readyTimeout _ | readyLoss _ | loopOccupied _
  | loopStuck _ | levelStale _ | inputActive _ => exact .within keepsFill_eventFill
  | loopRelease _ | inputRelease _ => exact .within keepsFill_unlessFill
  | overrideExpiry => exact .next keepsFill_unlessFill
  | t32Tap _ _ _ | t4Tap _ _ | t1Tap _ _ => exact .next (.filled s _)
  | arbitrationLost | attemptSuccess | attemptFailed => exact .next (keepsFill_endAttempt _ s)
  | correctionWindow => exact .next (keepsFill_event (.same rfl rfl rfl rfl rfl rfl))
  | warmupEnd slot raw => exact .within (.of_does (does_endWarmup slot raw s) rfl rfl rfl rfl rfl)
  | sensorSilent slot => exact .within (keepsFill_event (.of_does (does_takeSensorState slot _ s) rfl rfl rfl rfl rfl))
  | doseRingAdvance _ | creditDecay _ | alarmHoldEnd _ | coastEnd _ | sequenceTimeout _ =>
    exact .within (keepsFill_event (.same rfl rfl rfl rfl rfl rfl))
  | fieldFrameDiscarded why => exact .next (keepsFill_discardFrame why s)
  | frameOffer =>
    refine .next (keepsFill_event ?_)
    split
    · rename_i i x lowest
      exact keepsFill_offer (lowestSlot_some lowest)
    · exact .refl s
  | storePageDone =>
    refine .next ?_
    split
    · exact keepsFill_event (keepsFill_cfg rfl rfl)
    · exact .refl s
  | storeReadbackDone agrees =>
    refine .next ?_
    split
    · exact keepsFill_event (.ite (fun _ => keepsFill_endStore _ _ _ _ s) (fun _ => keepsFill_endStore _ _ _ _ s))
    · exact .refl s
  | storePageTimeout =>
    refine .next ?_
    split
    · exact keepsFill_event (keepsFill_endStore _ _ _ _ s)
    · exact .refl s
  | frameSync | frameGapTimeout | frameCrcMismatch => exact .next (keepsFill_receiverTo _ s)
  | frameIgnored _ _ | frameLenAbandoned _ => exact .next (keepsFill_event (keepsFill_receiverTo _ s))
  | unknownKind k => exact .next (.ite (fun _ => .refl s) (fun _ => (keepsFill_arrive s).answered _ _ _))
  | replyStart =>
    refine .next (.ite (fun _ => .refl s) (fun _ => ?_))
    split
    · exact .same rfl rfl rfl rfl rfl rfl
    · exact .refl s
  | replyEnd => exact .next (keepsFill_event (.same rfl rfl rfl rfl rfl rfl))
  | identify r | getStatus r | getClock r | listUnknown r | readLoops r | overrideList r =>
    exact .next (keepsFill_request fun _ t => keepsFill_answer _ _ _ t)
  | reset r | fetchNotices r | noticeClasses r | clearUnknown r =>
    exact .next (keepsFill_request fun _ t => .same rfl rfl rfl rfl rfl rfl)
  | curveRead r | mapReadSet r | readBays r | readSensor r | readFan r | readGroup r | readSign r =>
    exact .next (keepsFill_request fun _ t => keepsFill_reads t)
  | readZone r =>
    exact .next (keepsFill_request fun _ t => keepsFill_refusable (keepsFill_requires (keepsFill_answer _ _ _ t)))
  | setClock broadcast r =>
    exact .next (.ite (fun _ => keepsFill_broadcastIn fun q t => keepsFill_setClockTo t q)
      (fun _ => keepsFill_request fun q t => (keepsFill_setClockTo t q).answered _ _ _))
  | configWrite r => exact .next (keepsFill_request fun q t => keepsFill_writeConfig t q)
  | configRead r => exact .next (keepsFill_request fun q t => keepsFill_readConfig t q)
  | configStore r => exact .next (keepsFill_request fun id t => keepsFill_storeConfig t id)
  | mapLookup r => exact .next (keepsFill_request fun a t => keepsFill_lookupMapping t a)
  | levelCounts broadcast r =>
    exact .next (.ite (fun _ => keepsFill_broadcastIn fun _ t => .filled t _) (fun _ => keepsFill_requestFill))
  | configOpen _ | configClose _ | curveWrite _ | mapWrite _ | mapRemove _ | bayReserve _ | bayRelease _ | bayClose _
  | bayOpen _ | fanClear _ | overridePush _ | overridePop _ | overrideRemove _ => exact .next keepsFill_requestFill
  | pwmPeriodStart => exact .next (.same rfl rfl rfl rfl rfl rfl)

/-- Every step keeps the law, a command's or a cycle of the crystal. -/
theorem keepsFill_step {s t : State} (h : step s = .next t) : KeepsFill s t := by
  unfold step at h
  split at h
  · rw [← Host.Outcome.next.inj h]
    exact .same rfl rfl rfl rfl rfl rfl
  · rename_i c rest _
    have taken : KeepsFill s { s with pending := rest } := .same rfl rfl rfl rfl rfl rfl
    exact taken.trans (keepsFill_exec c _ t h)

/-- Settles O54: a command that can mark a destination, free a slot or change a key fills the slots at its end, and after that
every waiting destination has its key in a slot or finds none free; the other commands leave what the law reads. -/
theorem noDestinationWaitsBesideAFreeSlot : Obligations.NoDestinationWaitsBesideAFreeSlot := fun _ _ law h =>
  keepsFill_step h law

end Sys2Proof.Machine
end

section
/-! SUPPORT. The frames of the devices (R156, R157, section 11.8): the fields of an identifier and the codes of the data are
read back. -/

namespace Sys2Proof.Machine

/-! ## The identifier -/

theorem addr_identifier {a : Nat} (c k : Nat) (data : List Byte) (ha : a < 0x100000) :
    (FieldFrame.mk (identifier c k a) data).addr = a := by
  have field : (c * 0x4000000 + k * 0x100000 + a) % 0x20000000 % 0x100000 = a := by omega
  simpa only [FieldFrame.addr, identifier, BitVec.toNat_ofNat, Nat.reducePow] using field

theorem kind_identifier {k a : Nat} (c : Nat) (data : List Byte) (hk : k < 64) (ha : a < 0x100000) :
    (FieldFrame.mk (identifier c k a) data).kind = k := by
  have field : (c * 0x4000000 + k * 0x100000 + a) % 0x20000000 / 0x100000 % 64 = k := by omega
  simpa only [FieldFrame.kind, identifier, BitVec.toNat_ofNat, Nat.reducePow] using field

/-- R157: a frame of a device of one of the six received kinds is read by its data. -/
theorem receivedFrame_identifier {c k : Nat} {a : Addr} {data : List Byte} {i : Instr} (hk : 1 ≤ k ∧ k ≤ 6)
    (ha : isDevice a = true) (read : frameCommand k a data = some i) : receivedFrame ⟨identifier c k a, data⟩ = i := by
  obtain ⟨low, high⟩ := isDevice_iff.mp ha
  have range : a < 0x100000 := Nat.lt_of_le_of_lt high (Nat.lt_add_of_pos_right (Nat.succ_pos 1))
  have notSent : ¬(0x10 ≤ k ∧ k ≤ 0x13) := by omega
  have known : ¬(k = 0 ∨ 0x06 < k) := by omega
  rw [receivedFrame, kind_identifier c data (by omega) range, addr_identifier c k data range, if_neg notSent, if_neg known,
    ha, if_neg Bool.noConfusion, read, Option.getD_some]

/-! ## The codes of the data -/

theorem coded_detCode (d : Det) : coded detCodes (BitVec.ofNat 8 (detCode d)) = some d := by cases d <;> rfl

theorem coded_health (h : Health) : coded healthCodes (BitVec.ofNat 8 h.ctorIdx) = some h := by cases h <;> rfl

theorem coded_ped (p : Ped) : coded pedCodes (BitVec.ofNat 8 p.ctorIdx) = some p := by cases p <;> rfl

theorem coded_type (type : DeviceType) : coded typeCodes (BitVec.ofNat 8 type.ctorIdx) = some type := by
  cases type <;> rfl

/-- A 16-bit number is the value of its two bytes. -/
theorem toNat_bytes_u16 {v : Nat} (h : v < 65536) : (BitVec.ofNat 8 (v / 256) ++ BitVec.ofNat 8 v).toNat = v := by
  rw [BitVec.toNat_append, BitVec.toNat_ofNat, BitVec.toNat_ofNat,
    ← Nat.shiftLeft_add_eq_or_of_lt (Nat.mod_lt _ (by omega)), Nat.shiftLeft_eq]
  omega

/-- R34: a GAS_VALUE is read back with its status, and its value comes with status OK only. -/
theorem frameCommand_gas {a : Addr} {g : GasReport} (h : wellFormed (.gasValue a g) = true) :
    frameCommand 2 a (gasData g) = some (.gasValue a g) := by
  cases g with
  | ok v =>
    have hv : v < 65536 := by
      simp only [wellFormed, fits, Bool.and_eq_true, decide_eq_true_eq] at h
      exact h.2
    have read : gasReport (BitVec.ofNat 8 0) (BitVec.ofNat 8 (v / 256)) (BitVec.ofNat 8 v) = some (.ok v) := by
      rw [gasReport, toNat_bytes_u16 hv]
      rfl
    exact congrArg (Option.map (Instr.gasValue a)) read
  | warmup | fault => rfl

/-- Settles O22: the fields of the identifier are read back, so the kind picks the report, and each code of the data is
read back as the value it stands for. -/
theorem deviceFramesAreReadBack : Obligations.DeviceFramesAreReadBack := by
  rintro c i f well sent ⟨a, device, report⟩
  rcases report with ⟨d, h, rfl⟩ | ⟨g, rfl⟩ | ⟨p, rfl⟩ | ⟨h, rfl⟩ | ⟨h, rfl⟩ | ⟨type, rfl⟩ <;>
    obtain rfl := Option.some.inj sent
  · exact receivedFrame_identifier (by decide) device (by simp [frameCommand, u8, coded_detCode, coded_health])
  · exact receivedFrame_identifier (by decide) device (frameCommand_gas well)
  · exact receivedFrame_identifier (by decide) device (by simp [frameCommand, u8, coded_ped])
  · exact receivedFrame_identifier (by decide) device (by simp [frameCommand, u8, coded_health])
  · exact receivedFrame_identifier (by decide) device (by simp [frameCommand, u8, coded_health])
  · exact receivedFrame_identifier (by decide) device (by simp [frameCommand, u8, coded_type])

end Sys2Proof.Machine
end

section
/-! SUPPORT. The slot that is offered and the slot whose attempt is in progress (R167, R171). -/

namespace Sys2Proof.Machine

/-! ## The slot of the attempt in progress -/

theorem tryingSlot_eq_none {b : FieldBus} (idle : ∀ j x, j < 16 → b.slots.nth j = some x → x.trying = false) :
    tryingSlot b = none := by
  refine List.find?_eq_none.mpr fun y hy => ?_
  have stands := mem_filledSlots.mp (show (y.1, y.2) ∈ filledSlots b from hy)
  rw [idle y.1 y.2 (slot_lt stands) stands]
  exact Bool.false_ne_true

/-- R167: the slot of the one attempt in progress. -/
theorem tryingSlot_eq_some {b : FieldBus} {i : Nat} {x : Slot} (hx : b.slots.nth i = some x) (trying : x.trying = true)
    (others : ∀ j y, j < 16 → j ≠ i → b.slots.nth j = some y → y.trying = false) : tryingSlot b = some (i, x) := by
  cases found : tryingSlot b with
  | none => exact absurd (trying.symm.trans (tryingSlot_none found hx)) Bool.true_eq_false.mp
  | some z =>
    obtain ⟨stands, tries⟩ := tryingSlot_some (i := z.1) (x := z.2) found
    have same : z.1 = i := by
      by_contra other
      exact absurd (tries.symm.trans (others z.1 z.2 (slot_lt stands) other stands)) Bool.true_eq_false.mp
    have slot : z.2 = x := Option.some.inj (stands.symm.trans (same ▸ hx))
    rw [← same, ← slot]

/-- The end of the one attempt in progress: its effect, and the slots are filled after it (R165). -/
theorem endAttempt_eq {effect : Nat → Slot → State → State} {s : State} {i : Nat} {x : Slot}
    (present : loading s = false) (on : s.bus.state ≠ .off) (hx : s.bus.slots.nth i = some x) (trying : x.trying = true)
    (others : ∀ j y, j < 16 → j ≠ i → s.bus.slots.nth j = some y → y.trying = false) :
    endAttempt effect s = fillSlots (effect i x s) := by
  have receives : receives s = true := receives_iff.mpr ⟨by simpa [loading] using present, on⟩
  simp only [endAttempt, tryingSlot_eq_some hx trying others, receives, if_true]

/-! ## The lowest identifier -/

theorem lowerSlot_le (a b : Nat × Slot) :
    keyRank (lowerSlot a b).2.key ≤ keyRank a.2.key ∧ keyRank (lowerSlot a b).2.key ≤ keyRank b.2.key := by
  unfold lowerSlot
  split <;> omega

theorem foldl_lowerSlot_le (l : List (Nat × Slot)) (a y : Nat × Slot) (h : y ∈ a :: l) :
    keyRank (l.foldl lowerSlot a).2.key ≤ keyRank y.2.key := by
  induction l generalizing a y with
  | nil => rw [List.mem_singleton.mp h, List.foldl_nil]
  | cons b l ih =>
    have first := ih _ (lowerSlot a b) List.mem_cons_self
    obtain ⟨left, right⟩ := lowerSlot_le a b
    rw [List.mem_cons, List.mem_cons] at h
    rw [List.foldl_cons]
    rcases h with rfl | rfl | later
    · exact first.trans left
    · exact first.trans right
    · exact ih _ y (List.mem_cons_of_mem _ later)

/-- R167: a filled slot there is, so one of lowest rank is found. -/
theorem exists_lowestSlot {b : FieldBus} {j : Nat} {y : Slot} (hy : b.slots.nth j = some y) :
    ∃ i x, lowestSlot b = some (i, x) ∧ b.slots.nth i = some x ∧
      ∀ j y, b.slots.nth j = some y → keyRank x.key ≤ keyRank y.key := by
  cases filled : filledSlots b with
  | nil => exact absurd (filled ▸ mem_filledSlots.mpr hy) List.not_mem_nil
  | cons z zs =>
    have lowest : lowestSlot b = some (zs.foldl lowerSlot z) := by rw [lowestSlot, filled]
    refine ⟨_, _, lowest, lowestSlot_some lowest, fun j y hy => ?_⟩
    exact foldl_lowerSlot_le zs z (j, y) (filled ▸ mem_filledSlots.mpr hy)

theorem keyIdentifier_le_keyRank (k : DestKey) : keyIdentifier k * 8 ≤ keyRank k := Nat.le_add_right _ _

theorem keyRank_lt {k : DestKey} (h : ∀ a f, k = .face a f → f < 4) : keyRank k < keyIdentifier k * 8 + 8 := by
  refine Nat.add_lt_add_left ?_ _
  split
  · exact (h _ _ rfl).trans (Nat.lt_add_of_pos_right (Nat.zero_lt_succ 3))
  · exact Nat.zero_lt_succ 7

/-- R167: the rank orders by identifier first. -/
theorem keyIdentifier_le {k l : DestKey} (hl : ∀ a f, l = .face a f → f < 4) (h : keyRank k ≤ keyRank l) :
    keyIdentifier k ≤ keyIdentifier l := by
  have low := keyIdentifier_le_keyRank k
  have high := keyRank_lt hl
  omega

/-- R167: and two faces of one sign by face index. -/
theorem face_le {a f g : Nat} (h : keyRank (.face a f) ≤ keyRank (.face a g)) : f ≤ g := Nat.le_of_add_le_add_left h

/-- Settles O33: the slot found is of lowest rank, and the rank orders by identifier and then by face; a lost arbitration and
the recovery leave every filled slot, and the filling after them does too. -/
theorem slotsAreOfferedLowestFirst : Obligations.SlotsAreOfferedLowestFirst := by
  intro s present
  refine ⟨?_, ?_, ?_⟩
  · rintro on idle faces ⟨j, y, -, hy⟩
    obtain ⟨i, x, lowest, hx, least⟩ := exists_lowestSlot hy
    refine ⟨i, x, slot_lt hx, hx, fun j y hj hy => ⟨?_, ?_⟩, ?_⟩
    · exact keyIdentifier_le (fun a f => faces j y a f hj hy) (least j y hy)
    · intro a f g hf hg
      have rank := least j y hy
      rw [hf, hg] at rank
      exact face_le rank
    · have receives : receives s = true := receives_iff.mpr ⟨by simpa [loading] using present, on⟩
      have none : (tryingSlot s.bus).isNone = true := by rw [tryingSlot_eq_none idle, Option.isNone_none]
      have offered : exec .frameOffer s = execFrameOffer s := rfl
      rw [offered, execFrameOffer, if_pos ⟨receives, none⟩, lowest]
      rfl
  · intro on i x hi hx trying standing others
    refine ⟨fillSlots (arbitrationLoses i x s), congrArg _ (endAttempt_eq present on hx trying others), ?_, ?_⟩
    · exact (((does_arbitrationLoses i x s).mono rfl).trans ((does_fillSlots _).mono rfl)).frame
    · refine fillSlots_keeps _ ?_
      rw [arbitrationLoses, standing, if_neg Bool.false_ne_true, putSlot, setSlot_slots, Tab.nth_put_self _ _ hi]
  · intro off taps
    refine ⟨fillSlots (recoverBus s), congrArg _ (if_pos ⟨present, off, taps⟩), ?_, ?_, ?_, ?_, ?_⟩
    · exact (((does_recoverBus s).mono rfl).trans ((does_fillSlots _).mono rfl)).frame
    · rw [(does_fillSlots _).bus rfl]
      rfl
    · rw [(does_fillSlots _).bus rfl]
      rfl
    · have told : announced s (recoverBus s) (.fieldState .active) := announced_post rfl rfl
      exact told.kept (does_fillSlots _) rfl
    · exact fun i x hx => fillSlots_keeps (recoverBus s) hx

end Sys2Proof.Machine
end

section
/-! SUPPORT. The outcomes of attempts (R168 to R170): what a success and a give-up leave with the producer of the frame, and
the error count with the bus state that follows it. -/

namespace Sys2Proof.Machine

/-! ## The producers (R168, R169) -/

/-- R101: a change of a group's state leaves the value that was sent. -/
theorem setGroupState_sent (g : Nat) (st : GroupState) (s : State) (k : Nat) :
    ((setGroupState g st s).light.groups.nth k).sent = (s.light.groups.nth k).sent := by
  dsimp only [setGroupState]
  split
  · rfl
  · rw [formDark_groups, (does_post _ _).light rfl, setGroup_light, Tab.nth_put]
    split
    · rename_i e
      rw [e.1]
    · rfl

/-- R133: a change of a sign's state leaves its faces. -/
theorem setSignState_face (i : Nat) (st : SignHealth) (s : State) (j f : Nat) :
    faceOf (setSignState i st s) j f = faceOf s j f := by
  dsimp only [setSignState]
  split
  · rfl
  · rw [faceOf, (does_post _ _).guide rfl]
    change ((s.guide.signs.modify i _).nth j).faces.nth f = _
    rw [Tab.nth_modify]
    split
    · rename_i e
      rw [e.1, faceOf]
    · rfl

section Group

variable {g : Nat} (hg : g < 48) (v : Drive) (s : State)
include hg

theorem groupSent_sent : ((groupSent g v s).light.groups.nth g).sent = some v := by
  have put : ((setGroup g { s.light.groups.nth g with sent := some v } s).light.groups.nth g).sent = some v := by
    rw [setGroup_light, Tab.nth_put_self _ _ hg]
  have told : ((if (s.light.groups.nth g).state = .noResponse
      then setGroupState g .ok (setGroup g { s.light.groups.nth g with sent := some v } s)
      else setGroup g { s.light.groups.nth g with sent := some v } s).light.groups.nth g).sent = some v := by
    split
    · rw [setGroupState_sent, put]
    · exact put
  dsimp only [groupSent]
  split
  · rw [markGroup, (marks_note _ _ _).groupSent, told]
  · exact told

/-- R168: a success ends NO_RESPONSE. -/
theorem groupSent_state (lost : (s.light.groups.nth g).state = .noResponse) :
    ((groupSent g v s).light.groups.nth g).state = .ok := by
  have told := setGroupState_state hg .ok (setGroup g { s.light.groups.nth g with sent := some v } s) g
  rw [if_pos rfl] at told
  simp only [groupSent, if_pos lost]
  split
  · rw [markGroup, (marks_note _ _ _).groupState, told]
  · exact told

end Group

section Face

variable {k f : Nat} (hk : k < 24) (v : FaceValue) (s : State)
include hk

theorem faceSent_sent (hf : f < 4) : (faceOf (faceSent k f v s) k f).sent = some v := by
  have put : (faceOf (setFace k f { faceOf s k f with sent := some v } s) k f).sent = some v := by
    rw [faceOf_setFace, if_pos ⟨⟨rfl, hk⟩, rfl, hf⟩]
  have told : (faceOf (if (s.guide.signs.nth k).state = .noResponse
      then setSignState k .ok (setFace k f { faceOf s k f with sent := some v } s)
      else setFace k f { faceOf s k f with sent := some v } s) k f).sent = some v := by
    split
    · rw [setSignState_face, put]
    · exact put
  dsimp only [faceSent]
  split
  · rw [markFace, (marks_note _ _ _).faceSent, told]
  · exact told

/-- R168: a success ends NO_RESPONSE. -/
theorem faceSent_state (lost : (s.guide.signs.nth k).state = .noResponse) :
    ((faceSent k f v s).guide.signs.nth k).state = .ok := by
  have told := setSignState_state hk .ok (setFace k f { faceOf s k f with sent := some v } s) k
  rw [if_pos rfl] at told
  simp only [faceSent, if_pos lost]
  split
  · rw [markFace, (marks_note _ _ _).signState, told]
  · exact told

end Face

section Lamp

variable {b : Nat} (hb : b < 512) (s : State)
include hb

theorem lampReached_fault : (bayOf (lampReached b s) b).lampFault = false := by
  dsimp only [lampReached]
  split
  · rw [(does_post _ _).bayOf rfl, bayOf_setBay, if_pos ⟨rfl, hb⟩]
  · rename_i clear
    exact Bool.eq_false_iff.mpr clear

theorem lampLost_fault : (bayOf (lampLost b s) b).lampFault = true := by
  dsimp only [lampLost]
  split
  · assumption
  · rw [(does_post _ _).bayOf rfl, bayOf_setBay, if_pos ⟨rfl, hb⟩]

theorem lampSent_sent (c : Colour) : ((lampSent b c s).guide.lamps.nth b).sent = some c := by
  have told :
      ((lampReached b (setLamp b { s.guide.lamps.nth b with sent := some c } s)).guide.lamps.nth b).sent = some c := by
    rw [(does_lampReached b _).guide rfl, setLamp_guide, Tab.nth_put_self _ _ hb]
  dsimp only [lampSent]
  split
  · rw [markLamp, (marks_note _ _ _).lampSent, told]
  · exact told

theorem lampSent_fault (c : Colour) : (bayOf (lampSent b c s) b).lampFault = false := by
  have told := lampReached_fault hb (setLamp b { s.guide.lamps.nth b with sent := some c } s)
  dsimp only [lampSent]
  split
  · rw [(does_markLamp b _).bayOf rfl, told]
  · exact told

end Lamp

/-! ## The error count (R170) -/

section Errors

variable (n : Nat) (s : State)

theorem setErrors_errors : (setErrors n s).bus.errors = n := by
  dsimp only [setErrors]
  split <;> rfl

theorem setErrors_state : (setErrors n s).bus.state = busStateOf n := by
  dsimp only [setErrors]
  split <;> rfl

theorem setErrors_givenUp : (setErrors n s).bus.givenUp = s.bus.givenUp := by
  dsimp only [setErrors]
  split <;> rfl

/-- R170: the entry to OFF is announced. -/
theorem setErrors_announced {bs : List Block} {r : State} (d : Does bs r s) (link : bs.contains .link = false)
    (time : bs.contains .time = false) (on : s.bus.state ≠ .off) (off : busStateOf n = .off) :
    announced r (setErrors n s) (.fieldState .off) := by
  dsimp only [setErrors]
  rw [if_pos ⟨off, on⟩]
  exact announced_post (d.classes link) (d.time time)

end Errors

/-! ## The outcomes of an attempt (R168, R169) -/

/-- What an attempt's end can change. -/
abbrev attemptBlocks : List Block := [.bus, .occ, .light, .guide, .slots, .notices]

theorem does_reportSuccess_attempt (x : Slot) (s : State) : Does attemptBlocks s (reportSuccess x s) := by
  dsimp only [reportSuccess]
  split
  · split
    · exact (does_faceSent _ _ _ s).mono rfl
    · exact .refl s
  · split
    · exact (does_groupSent _ _ s).mono rfl
    · exact .refl s
  · split
    · exact (does_lampSent _ _ s).mono rfl
    · exact .refl s
  · exact .refl s

theorem does_reportGiveUp_attempt (x : Slot) (s : State) : Does attemptBlocks s (reportGiveUp x s) := by
  dsimp only [reportGiveUp]
  split
  · split
    · exact (does_setSignState _ _ s).mono rfl
    · exact .refl s
  · split
    · exact (does_setGroupState _ _ s).mono rfl
    · exact .refl s
  · split
    · exact (does_lampLost _ s).mono rfl
    · exact .refl s
  all_goals exact .refl s

/-- R168: a success frees the slot, counts and reports to the producer. -/
def succeeded (i : Nat) (s : State) : State := putSlot i none (setErrors (s.bus.errors - 1) s)

/-- R169: a give-up frees the slot and counts. -/
def abandoned (i : Nat) (s : State) : State :=
  putSlot i none { s with bus := { s.bus with givenUp := min (s.bus.givenUp + 1) 65535 } }

theorem does_succeeded (i : Nat) (s : State) : Does [.bus, .slots, .notices] s (succeeded i s) :=
  ((does_setErrors _ s).mono rfl).trans ((does_putSlot _ i none).mono rfl)

theorem does_abandoned (i : Nat) (s : State) : Does [.bus, .slots] s (abandoned i s) :=
  ((does_busOnly s _ _ _ _ _ _ _ _).mono rfl).trans ((does_putSlot _ i none).mono rfl)

section Outcomes

variable {i : Nat} {x : Slot} {s : State} (standing : x.withdrawn = false)
include standing

theorem attemptSucceeds_eq : attemptSucceeds i x s = reportSuccess x (succeeded i s) := by
  simp only [attemptSucceeds, standing, Bool.false_eq_true, if_false, succeeded]

theorem attemptFails_few (few : x.attempts + 1 < 16) : attemptFails i x s =
    setErrors (s.bus.errors + 8) (putSlot i (some { x with attempts := x.attempts + 1, trying := false }) s) := by
  simp only [attemptFails, if_neg (Nat.not_le.mpr few), standing, Bool.false_eq_true, if_false]

theorem attemptFails_last (last : 16 ≤ x.attempts + 1) : attemptFails i x s =
    setErrors (s.bus.errors + 8) (reportGiveUp x (abandoned i s)) := by
  simp only [attemptFails, if_pos last, giveUp, standing, Bool.false_eq_true, if_false, abandoned]

end Outcomes

/-- R168: the sent value is the one carried, and NO_RESPONSE and LAMP end. -/
structure SuccessReported (x : Slot) (s t : State) : Prop where
  group : ∀ a v g, x.key = .group a → x.data = .level v → groupAt s.cfg.inForce a = some g →
    (t.light.groups.nth g).sent = some v ∧
      ((s.light.groups.nth g).state = .noResponse → (t.light.groups.nth g).state = .ok)
  face : ∀ a v f k, x.key = .face a f → x.data = .face v → f < 4 → signAt s.cfg.inForce a = some k →
    (faceOf t k f).sent = some v ∧
      ((s.guide.signs.nth k).state = .noResponse → (t.guide.signs.nth k).state = .ok)
  lamp : ∀ a c b, x.key = .lamp a → x.data = .lamp c → mapBay s.cfg.map a = some b → b < 512 →
    (t.guide.lamps.nth b).sent = some c ∧ (bayOf t b).lampFault = false

/-- R169: NO_RESPONSE and LAMP begin. -/
structure GiveUpReported (x : Slot) (s t : State) : Prop where
  group : ∀ a g, x.key = .group a → groupAt s.cfg.inForce a = some g → (t.light.groups.nth g).state = .noResponse
  face : ∀ a f k, x.key = .face a f → signAt s.cfg.inForce a = some k → (t.guide.signs.nth k).state = .noResponse
  lamp : ∀ a b, x.key = .lamp a → mapBay s.cfg.map a = some b → b < 512 → (bayOf t b).lampFault = true

theorem reportSuccess_reported (x : Slot) (s : State) : SuccessReported x s (reportSuccess x s) where
  group a v g key data at_ := by
    have told : reportSuccess x s = groupSent g v s := by simp only [reportSuccess, key, data, at_]
    rw [told]
    exact ⟨groupSent_sent (groupAt_lt at_) v s, groupSent_state (groupAt_lt at_) v s⟩
  face a v f k key data hf at_ := by
    have told : reportSuccess x s = faceSent k f v s := by simp only [reportSuccess, key, data, at_]
    rw [told]
    exact ⟨faceSent_sent (signAt_lt at_) v s hf, faceSent_state (signAt_lt at_) v s⟩
  lamp a c b key data at_ hb := by
    have told : reportSuccess x s = lampSent b c s := by simp only [reportSuccess, key, data, at_]
    rw [told]
    exact ⟨lampSent_sent hb s c, lampSent_fault hb s c⟩

theorem reportGiveUp_reported (x : Slot) (s : State) : GiveUpReported x s (reportGiveUp x s) where
  group a g key at_ := by
    have told : reportGiveUp x s = setGroupState g .noResponse s := by simp only [reportGiveUp, key, at_]
    rw [told, setGroupState_state (groupAt_lt at_), if_pos rfl]
  face a f k key at_ := by
    have told : reportGiveUp x s = setSignState k .noResponse s := by simp only [reportGiveUp, key, at_]
    rw [told, setSignState_state (signAt_lt at_), if_pos rfl]
  lamp a b key at_ hb := by
    have told : reportGiveUp x s = lampLost b s := by simp only [reportGiveUp, key, at_]
    rw [told]
    exact lampLost_fault hb s

/-- What was reported stands from a state with the same records to one that differs in marks and the field bus. -/
theorem SuccessReported.around {x : Slot} {r s t u : State} {bs : List Block} (h : SuccessReported x s t)
    (before : Does bs r s) (cfg : bs.contains .cfg = false) (light : bs.contains .light = false)
    (guide : bs.contains .guide = false) (marks : MarksOnly t u) (occ : u.occ = t.occ) : SuccessReported x r u where
  group a v g key data at_ := by
    obtain ⟨sent, state⟩ := h.group a v g key data (by rw [before.cfg cfg]; exact at_)
    rw [before.light light] at state
    exact ⟨by rw [marks.groupSent]; exact sent, fun lost => by rw [marks.groupState]; exact state lost⟩
  face a v f k key data hf at_ := by
    obtain ⟨sent, state⟩ := h.face a v f k key data hf (by rw [before.cfg cfg]; exact at_)
    rw [before.guide guide] at state
    exact ⟨by rw [marks.faceSent]; exact sent, fun lost => by rw [marks.signState]; exact state lost⟩
  lamp a c b key data at_ hb := by
    obtain ⟨sent, fault⟩ := h.lamp a c b key data (by rw [before.cfg cfg]; exact at_) hb
    exact ⟨by rw [marks.lampSent]; exact sent, by rw [bayOf, occ]; exact fault⟩

theorem GiveUpReported.around {x : Slot} {r s t u : State} {bs : List Block} (h : GiveUpReported x s t)
    (before : Does bs r s) (cfg : bs.contains .cfg = false) (marks : MarksOnly t u) (occ : u.occ = t.occ) :
    GiveUpReported x r u where
  group a g key at_ := by
    rw [marks.groupState]
    exact h.group a g key (by rw [before.cfg cfg]; exact at_)
  face a f k key at_ := by
    rw [marks.signState]
    exact h.face a f k key (by rw [before.cfg cfg]; exact at_)
  lamp a b key at_ hb := by
    rw [bayOf, occ]
    exact h.lamp a b key (by rw [before.cfg cfg]; exact at_) hb

theorem marks_setErrors (n : Nat) (s : State) : MarksOnly s (setErrors n s) := by
  have same := does_setErrors n s
  exact ⟨by rw [same.light rfl], by rw [same.guide rfl]⟩

/-! ## A successful and a failed attempt -/

/-- R168, R170: a success. -/
theorem attemptSucceeds_outcome {i : Nat} {x : Slot} {s : State} (standing : x.withdrawn = false) :
    let t := fillSlots (attemptSucceeds i x s)
    changesOnly attemptBlocks s t ∧ t.bus.errors = s.bus.errors - 1 ∧ t.bus.state = busStateOf (s.bus.errors - 1) ∧
      t.bus.givenUp = s.bus.givenUp ∧ SuccessReported x s t := by
  intro t
  have freed := does_succeeded i s
  have report := stands_reportSuccess x (succeeded i s)
  have ended : t = fillSlots (reportSuccess x (succeeded i s)) := congrArg fillSlots (attemptSucceeds_eq standing)
  rw [ended]
  refine ⟨?_, ?_, ?_, ?_, ?_⟩
  · exact (((freed.mono rfl).trans (does_reportSuccess_attempt x _)).trans ((does_fillSlots _).mono rfl)).frame
  · rw [fillSlots_bus]
    exact report.errors.trans (setErrors_errors _ s)
  · rw [fillSlots_bus]
    exact report.state.trans (setErrors_state _ s)
  · rw [fillSlots_bus]
    exact report.givenUp.trans (setErrors_givenUp _ s)
  · exact (reportSuccess_reported x _).around freed rfl rfl rfl (marks_fillSlots _) ((does_fillSlots _).occ rfl)

/-- R169, R170: a failure, whatever it leaves of the slot. -/
theorem failure_counted {s u : State} (on : s.bus.state ≠ .off) (d : Does attemptBlocks s u)
    (state : u.bus.state = s.bus.state) :
    let t := fillSlots (setErrors (s.bus.errors + 8) u)
    changesOnly attemptBlocks s t ∧ t.bus.errors = s.bus.errors + 8 ∧ t.bus.state = busStateOf (s.bus.errors + 8) ∧
      (t.bus.state = .off → announced s t (.fieldState .off)) ∧ t.bus.givenUp = u.bus.givenUp := by
  intro t
  have count : t.bus.state = busStateOf (s.bus.errors + 8) := by
    rw [fillSlots_bus]
    exact setErrors_state _ u
  refine ⟨?_, ?_, count, fun off => ?_, ?_⟩
  · exact ((d.trans ((does_setErrors _ u).mono rfl)).trans ((does_fillSlots _).mono rfl)).frame
  · rw [fillSlots_bus]
    exact setErrors_errors _ u
  · have told := setErrors_announced _ u d rfl rfl (state ▸ on) (count.symm.trans off)
    exact told.kept (does_fillSlots _) rfl
  · rw [fillSlots_bus]
    exact setErrors_givenUp _ u

/-- Settles O34: the success frees the slot and reports the value carried; the failure counts the attempt in the slot or, the
sixteenth, frees it and reports the give-up; the error count moves the bus state, and the filling after each changes marks
and slots only. -/
theorem attemptsSucceedOrFail : Obligations.AttemptsSucceedOrFail := by
  intro i x s present on hi hx trying standing others
  refine ⟨⟨fillSlots (attemptSucceeds i x s), congrArg _ (endAttempt_eq present on hx trying others), ?_⟩,
    ⟨fillSlots (attemptFails i x s), congrArg _ (endAttempt_eq present on hx trying others), ?_⟩⟩
  · obtain ⟨frame, errors, state, givenUp, report⟩ := attemptSucceeds_outcome (i := i) (s := s) standing
    exact ⟨frame, errors, state, givenUp, report.group, report.face, report.lamp⟩
  · rcases Nat.lt_or_ge (x.attempts + 1) 16 with few | last
    · rw [attemptFails_few standing few]
      obtain ⟨frame, errors, state, off, givenUp⟩ := failure_counted on
        ((does_putSlot s i (some { x with attempts := x.attempts + 1, trying := false })).mono rfl) rfl
      refine ⟨frame, errors, state, off, fun _ => ⟨fillSlots_keeps _ ?_, givenUp⟩, fun last => ?_⟩
      · rw [setErrors_slots, putSlot, setSlot_slots, Tab.nth_put_self _ _ hi]
      · exact absurd few (Nat.not_lt.mpr last)
    · rw [attemptFails_last standing last]
      have freed := does_abandoned i s
      have report := stands_reportGiveUp x (abandoned i s)
      obtain ⟨frame, errors, state, off, givenUp⟩ := failure_counted on
        ((freed.mono rfl).trans (does_reportGiveUp_attempt x _)) report.state
      refine ⟨frame, errors, state, off, fun few => ?_, fun _ => ⟨givenUp.trans report.givenUp, ?_⟩⟩
      · exact absurd few (Nat.not_lt.mpr last)
      · have marks := (marks_setErrors (s.bus.errors + 8) (reportGiveUp x (abandoned i s))).trans (marks_fillSlots _)
        have lost := (reportGiveUp_reported x _).around freed rfl marks
          (((does_fillSlots _).occ rfl).trans ((does_setErrors _ _).occ rfl))
        exact ⟨lost.group, lost.face, lost.lamp⟩

end Sys2Proof.Machine
end
